-- ==== Sys2Proof/Word.lean ====
section
/-! DEFINITION. The words of the serial line: the byte and the 16-bit check (R153, R154). Every other number of the
part is a count, held as a Nat whose range the operations keep. -/

namespace Sys2Proof

/-- One byte of a telegram. -/
abbrev Byte := BitVec 8

/-- The 16-bit check of a telegram or of the settings image. -/
abbrev Check := BitVec 16

end Sys2Proof
end

