-- ==== Sys2Proof/Config.lean ====
section
/-! DEFINITION. What one part fixes and the manual leaves open, and the capacities the manual fixes. -/

namespace Sys2Proof

/-- The revision of the part, A (0) to Z (25). The manual says that IDENTIFY returns it and not which it is (R163).
FREE VALUE: no body, so no statement can rest on it. notes/assumptions/12.md. -/
opaque Config.revision : Fin 26

/-- The largest line second (R6). -/
def Config.maxSecond : Nat := 4294967295

/-- The dose at which accrual saturates, in du (R42). -/
def Config.maxDose : Nat := 16777215

/-- Records of the event queue (R166). -/
def Config.eventCapacity : Nat := 64

/-- Records of the completion queue (R64). -/
def Config.completionCapacity : Nat := 16

/-- Entries of the carriage schedule (R76, R78). -/
def Config.scheduleCapacity : Nat := 192

/-- Intervals of one station timeline (R80). -/
def Config.timelineCapacity : Nat := 8

/-- Entries of the replenish queue (R138). -/
def Config.replenishCapacity : Nat := 16

/-- The volume at which a merged replenish entry stops, in ml (R138). -/
def Config.maxVolume : Nat := 9999

/-- Stations of the rail (R1). -/
def Config.stationCount : Nat := 16

/-- Rack slots (R52). -/
def Config.slotCount : Nat := 24

end Sys2Proof
end

