-- ==== Sys2Proof/Syntax.lean ====
section
/-! DEFINITION. The commands of the part: one constructor for each row of spec/opcode_table.json.

Every command brings `inp`, the levels of the input pins as they stand in its event (R2, R4, R13;
notes/assumptions/1.md). A request and a frame ending bring the frame as it came over the line (R156). -/

namespace Sys2Proof

/-- The inputs of one station (R2). `temp` is the reading of the temperature channel in tenths of a degree. -/
structure StationIn where
  presence   : Bool
  temp       : Nat
  levelLow   : Bool
  levelHigh  : Bool
  cradleUp   : Bool
  cradleDown : Bool
  deriving DecidableEq, Repr, Inhabited

/-- The input pins of the part (0.4.1, R2, R4, R5): sixteen stations in rail order, the carriage, gas, pump and
service inputs. -/
structure Inputs where
  stations  : List StationIn
  /-- 0 while travelling, otherwise the station under the trolley (R4). -/
  atStation : Nat
  hoistUp   : Bool
  hoistDown : Bool
  hook      : Bool
  gasOk     : Bool
  flowOk    : Bool
  lock      : Bool
  /-- The five address straps read as a number (R15). -/
  straps    : Nat
  reset     : Bool
  deriving DecidableEq, Repr, Inhabited

/-- A frame without its kind byte (R154, 12.1). The length byte is the length of the payload. -/
structure Frame where
  addr    : Byte
  tag     : Byte
  payload : List Byte
  check   : Check
  deriving DecidableEq, Repr, Inhabited

/-- The pieces of once-per-second work whose order inside a line second the manual leaves open (R34, R106, R147).
`expiry` is the examination of R81, which a line second may hold before or after the others; `carriage` is the step of
the Carriage Driver that is due in this second, whose start or end notice may reach the blocks before or after their work
for it (R39, R41, R43; notes/assumptions/4.md); all the other pieces are always done. -/
inductive SecondTask where
  | presence | bath | develop | retry | warmup | pump | expiry | carriage
  deriving DecidableEq, Repr, Inhabited

/-- The commands: each row of the opcode table, in the table's order. -/
inductive Instr where
  /-- POWER_ON (R16). `wrote`: a store write that the loss of power interrupted had been completed correctly (R19). -/
  | powerOn (wrote : Bool) (inp : Inputs)
  /-- RESET_ASSERTED (R5). `wrote` as for `powerOn`. -/
  | resetAsserted (wrote : Bool) (inp : Inputs)
  /-- RESET_RELEASED (R5). -/
  | resetReleased (inp : Inputs)
  /-- STARTUP_LOAD_DONE (R16). -/
  | startupLoadDone (inp : Inputs)
  /-- LINE_SECOND (R6). `order`: the order of the blocks' work in this second. -/
  | lineSecond (order : List SecondTask) (inp : Inputs)
  /-- INTERVAL_EXPIRY (R81) for the interval at position `index` of the timeline of `station`. -/
  | intervalExpiry (station index : Nat) (inp : Inputs)
  /-- OVERSTAY (R107) for the rack of `slot`. -/
  | overstay (slot : Nat) (inp : Inputs)
  /-- WARMUP_TIMEOUT (R148). -/
  | warmupTimeout (inp : Inputs)
  /-- MOVE_START (R96). -/
  | moveStart (inp : Inputs)
  /-- CARRIAGE_ARRIVAL (R95, R99): the at-station code changes to the one `inp` shows. -/
  | carriageArrival (inp : Inputs)
  /-- HOIST_UP_LIMIT (R97). -/
  | hoistUpLimit (inp : Inputs)
  /-- DRAIN_END (R98). -/
  | drainEnd (inp : Inputs)
  /-- HOIST_DOWN_LIMIT (R100). -/
  | hoistDownLimit (inp : Inputs)
  /-- HOOK_FALL (R108). -/
  | hookFall (inp : Inputs)
  /-- PHASE_TIMEOUT (R108). -/
  | phaseTimeout (inp : Inputs)
  /-- DUNK_DUE (R115) for the dunk plan of the rack of `slot`. -/
  | dunkDue (slot : Nat) (inp : Inputs)
  /-- CRADLE_UP_LIMIT (R116). -/
  | cradleUpLimit (station : Nat) (inp : Inputs)
  /-- DUNK_OUT_END (R116). -/
  | dunkOutEnd (station : Nat) (inp : Inputs)
  /-- CRADLE_DOWN_LIMIT (R113). -/
  | cradleDownLimit (station : Nat) (inp : Inputs)
  /-- CRADLE_TIMEOUT (R116). -/
  | cradleTimeout (station : Nat) (inp : Inputs)
  /-- FRAME_WRAP (R118). -/
  | frameWrap (inp : Inputs)
  /-- BURST_ON_TICK (R124). -/
  | burstOnTick (station : Nat) (inp : Inputs)
  /-- BURST_OFF_TICK (R123). -/
  | burstOffTick (station : Nat) (inp : Inputs)
  /-- GAS_PRESSURE_CHANGE (R125). -/
  | gasPressureChange (inp : Inputs)
  /-- PUMP_START (R139). -/
  | pumpStart (inp : Inputs)
  /-- PUMP_FLOW_FAULT (R140). -/
  | pumpFlowFault (inp : Inputs)
  /-- PUMP_RUN_COMPLETE (R140). -/
  | pumpRunComplete (inp : Inputs)
  /-- STORE_WRITE_END (R18). `good`: the read-back check matches. -/
  | storeWriteEnd (good : Bool) (inp : Inputs)
  /-- LINK_WATCHDOG_EXPIRY (R162). -/
  | linkWatchdogExpiry (inp : Inputs)
  /-- FRAME_GAP (R156). -/
  | frameGap (inp : Inputs)
  /-- BYTE_DROPPED (R153). -/
  | byteDropped (inp : Inputs)
  /-- FRAME_LENGTH_DISCARD (R156) with the length byte received. -/
  | frameLengthDiscard (length : Byte) (inp : Inputs)
  /-- FRAME_CHECK_FAILED (R156). -/
  | frameCheckFailed (kind : Byte) (f : Frame) (inp : Inputs)
  /-- FRAME_PASSED_OVER (R157). -/
  | framePassedOver (kind : Byte) (f : Frame) (inp : Inputs)
  /-- UNKNOWN_REQUEST_KIND (R160). -/
  | unknownRequestKind (kind : Byte) (f : Frame) (inp : Inputs)
  /-- REPLY_SENT (R157). -/
  | replySent (inp : Inputs)
  /-- IDENTIFY (R163). -/
  | identify (f : Frame) (inp : Inputs)
  /-- STATUS (R164). -/
  | status (f : Frame) (inp : Inputs)
  /-- SET LINE (R8). -/
  | setLine (f : Frame) (inp : Inputs)
  /-- SET STATION (R10). -/
  | setStation (f : Frame) (inp : Inputs)
  /-- STATION SERVICE (R12). -/
  | stationService (f : Frame) (inp : Inputs)
  /-- SET CURVE (R27). -/
  | setCurve (f : Frame) (inp : Inputs)
  /-- SET RECIPE (R22). -/
  | setRecipe (f : Frame) (inp : Inputs)
  /-- SET PATTERN (R29). -/
  | setPattern (f : Frame) (inp : Inputs)
  /-- SET BURSTS (R120). -/
  | setBursts (f : Frame) (inp : Inputs)
  /-- SET ROUTE (R170). -/
  | setRoute (f : Frame) (inp : Inputs)
  /-- SET EXHAUSTION (R137). -/
  | setExhaustion (f : Frame) (inp : Inputs)
  /-- READ SETTING (R30). -/
  | readSetting (f : Frame) (inp : Inputs)
  /-- STORE (R18). -/
  | store (f : Frame) (inp : Inputs)
  /-- RESTART (R152). -/
  | restart (f : Frame) (inp : Inputs)
  /-- MODE (R145). -/
  | mode (f : Frame) (inp : Inputs)
  /-- ADMIT (R57). -/
  | admitRack (f : Frame) (inp : Inputs)
  /-- ABANDON (R66). -/
  | abandon (f : Frame) (inp : Inputs)
  /-- EVACUATE (R111). -/
  | evacuate (f : Frame) (inp : Inputs)
  /-- CARRIAGE CLEAR (R110). -/
  | carriageClear (f : Frame) (inp : Inputs)
  /-- CLEAR FLAGS (R135). -/
  | clearFlags (f : Frame) (inp : Inputs)
  /-- CLEAR LINK (R159). -/
  | clearLink (f : Frame) (inp : Inputs)
  /-- READ RACK (R73). -/
  | readRack (f : Frame) (inp : Inputs)
  /-- READ STATION (R142). -/
  | readStation (f : Frame) (inp : Inputs)
  /-- READ SCHEDULE (R92). -/
  | readSchedule (f : Frame) (inp : Inputs)
  /-- READ TIMELINE (R93). -/
  | readTimeline (f : Frame) (inp : Inputs)
  /-- READ EVENTS (R167). -/
  | readEvents (f : Frame) (inp : Inputs)
  /-- READ COMPLETIONS (R65). -/
  | readCompletions (f : Frame) (inp : Inputs)
  /-- POWER_LOSS (R19). `wrote` as for `powerOn`. -/
  | powerLoss (wrote : Bool) (inp : Inputs)
  /-- MANIFOLD_TICK (R118). -/
  | manifoldTick (inp : Inputs)
  /-- LEAD_BYTE_RECEIVED (R156) with the byte received. -/
  | leadByteReceived (b : Byte) (inp : Inputs)
  deriving DecidableEq, Repr

end Sys2Proof
end

