-- ==== Sys2Proof/WellFormed.lean ====
section
/-! DEFINITION. The commands the plant and the line can bring: operands inside the ranges of 0.5, R2, R4, R15 and the
frame format. The meanings are total and do not lean on it. -/

namespace Sys2Proof

/-- The input pins of a part: sixteen stations, a code 0 to 16, a strap value 0 to 31 (R2, R4, R15). -/
def Inputs.wf (inp : Inputs) : Bool :=
  inp.stations.length == 16 && decide (inp.atStation ≤ 16) && decide (inp.straps ≤ 31)

/-- A frame that reaches its check carries a payload of at most 200 bytes (R156, 10.2). -/
def Frame.wf (f : Frame) : Bool := decide (f.payload.length ≤ 200)

/-- A station number (0.5). -/
def stationWf (n : Nat) : Bool := decide (1 ≤ n) && decide (n ≤ 16)

/-- A rack slot (0.5). -/
def slotWf (k : Nat) : Bool := decide (k < 24)

/-- The kind is a request's that the catalogue does not hold (R160). -/
def strangeKind (kind : Byte) : Bool := decide (kind.toNat < 128) && !(decide (1 ≤ kind.toNat) && decide (kind.toNat ≤ 27))

/-- The command is well formed. -/
def Instr.wf : Instr → Bool
  | .powerOn _ inp | .resetAsserted _ inp | .powerLoss _ inp | .storeWriteEnd _ inp => inp.wf
  | .resetReleased inp | .startupLoadDone inp | .warmupTimeout inp | .moveStart inp | .carriageArrival inp
  | .hoistUpLimit inp | .drainEnd inp | .hoistDownLimit inp | .hookFall inp | .phaseTimeout inp | .frameWrap inp
  | .gasPressureChange inp | .pumpStart inp | .pumpFlowFault inp | .pumpRunComplete inp | .linkWatchdogExpiry inp
  | .frameGap inp | .byteDropped inp | .replySent inp | .manifoldTick inp => inp.wf
  | .lineSecond order inp => decide order.Nodup && inp.wf
  | .intervalExpiry station index inp => stationWf station && decide (index < 8) && inp.wf
  | .overstay slot inp | .dunkDue slot inp => slotWf slot && inp.wf
  | .cradleUpLimit station inp | .dunkOutEnd station inp | .cradleDownLimit station inp | .cradleTimeout station inp
  | .burstOnTick station inp | .burstOffTick station inp => stationWf station && inp.wf
  | .frameLengthDiscard length inp => decide (200 < length.toNat) && inp.wf
  | .frameCheckFailed _ f inp | .framePassedOver _ f inp => f.wf && inp.wf
  | .unknownRequestKind kind f inp => strangeKind kind && f.wf && inp.wf
  | .leadByteReceived _ inp => inp.wf
  | .identify f inp | .status f inp | .setLine f inp | .setStation f inp | .stationService f inp | .setCurve f inp
  | .setRecipe f inp | .setPattern f inp | .setBursts f inp | .setRoute f inp | .setExhaustion f inp
  | .readSetting f inp | .store f inp | .restart f inp | .mode f inp | .admitRack f inp | .abandon f inp
  | .evacuate f inp | .carriageClear f inp | .clearFlags f inp | .clearLink f inp | .readRack f inp
  | .readStation f inp | .readSchedule f inp | .readTimeline f inp | .readEvents f inp | .readCompletions f inp =>
    f.wf && inp.wf

end Sys2Proof
end

