-- ==== Sys2Proof/Decode.lean ====
section
/-! DEFINITION. The command a word of the opcode table spells. The table gives no row any bits: its commands reach the
part as frames on the line, as pins and as the passage of time, so no word spells one (notes/assumptions/33.md). -/

namespace Sys2Proof

/-- No word of any length spells a command, since the table has no row with bits. -/
def decodeTableWord (_nbits _w : Nat) : Option Instr := none

end Sys2Proof
end

