-- ==== Sys2Proof/Machine/State.lean ====
section
/-! DEFINITION. Everything the spec gives the part to hold, as plain data, and the state right after full reset.
One structure for each block of 0.3; INVENTORY.md lists every field with its rule. -/

namespace Sys2Proof.Machine

/-! ### Why a step stops -/

/-- Nothing of the part stops it: the spec gives every command an effect in every state, so no meaning faults and this
type has no constructor. -/
inductive Fault where
  deriving DecidableEq, Repr

/-- Raised by `exec` alone. -/
inductive Refusal where
  /-- A command that has no meaning yet, by its mnemonic. Safe: nothing is claimed of it. -/
  | notModelled (mnemonic : String)
  deriving DecidableEq, Repr

/-! ### Enumerations (12.3) -/

/-- Cause of a full reset (R166). -/
inductive ResetCause where
  | power | pin | restart
  deriving DecidableEq, Repr, Inhabited

/-- Whether the part runs: without power, held by RESET (R5), loading its settings (R16), running. -/
inductive RunState where
  | off | held | loading (cause : ResetCause) | running
  deriving DecidableEq, Repr, Inhabited

/-- The six line states (9.1). -/
inductive LineState where
  | dormant | standby | warmup | ready | draining | faulted
  deriving DecidableEq, Repr, Inhabited

/-- Cause of a passage of the line state (R144). -/
inductive LineCause where
  | mode | settled | timeout | drainDone | fault | recovered | linkLost
  deriving DecidableEq, Repr, Inhabited

/-- Role of a station (R1). -/
inductive Role where
  | unused | load | develop | bath | unload
  deriving DecidableEq, Repr, Inhabited

/-- Phase of a rack (4.2). -/
inductive Phase where
  | waitingEntry | inBath | onCarriage | atUnload | orphan | awaitingReport
  deriving DecidableEq, Repr, Inhabited

/-- Outcome of a rack, or its pending outcome (R59). -/
inductive RackOutcome where
  | none | complete | abandoned | interrupted | withdrawn | lost
  deriving DecidableEq, Repr, Inhabited

/-- Kind of a carriage move (R74). -/
inductive MoveKind where
  | entry | transfer | exit | evacuate
  deriving DecidableEq, Repr, Inhabited

/-- Purpose of a timeline interval (R79). -/
inductive Purpose where
  | loadWait | immerse | unloadHold
  deriving DecidableEq, Repr, Inhabited

/-- Reason of a failed placement walk (R88). -/
inductive WalkReason where
  | carriage | station | timelineFull | scheduleFull
  deriving DecidableEq, Repr, Inhabited

/-- Code of a carriage fault (R108). -/
inductive FaultCode where
  | phaseTimeout | missedPick | dropped | notReleased | position
  deriving DecidableEq, Repr, Inhabited

/-- Kind of a recipe step (2.1.2). -/
inductive StepKind where
  | develop | bath
  deriving DecidableEq, Repr, Inhabited

/-- Mode of an agitation pattern (2.3). -/
inductive PatternMode where
  | none | dunk | gas | both
  deriving DecidableEq, Repr, Inhabited

/-- Rate of the serial line (R153). -/
inductive Baud where
  | b19200 | b57600 | b115200
  deriving DecidableEq, Repr, Inhabited

/-- Link-lost action (R151). -/
inductive LostAction where
  | continue | drain
  deriving DecidableEq, Repr, Inhabited

/-- Source of an indicator route (R169). -/
inductive Source where
  | off | on | lineReady | alert | linkLost | anyLatch | stationClosed | groupOpen | unloadWaiting
  | carriageFault | pumpFault
  deriving DecidableEq, Repr, Inhabited

/-- The nine station flags (8.3). -/
inductive Flag where
  | tempLow | tempHigh | spread | probeFault | levelLow | levelHigh | cradleFault | exhUnknown | exhausted
  deriving DecidableEq, Repr, Inhabited

/-- Kinds of event record (R165). -/
inductive EventKind where
  | resetDone | configDefaulted | storeDone | storeFailed | lineState | warmupTimeout | rackEntered | rackAtUnload
  | rackRemoved | moveDeferred | slideRefused | devOutOfTol | overstay | flagAsserted | burstApplied | burstClash
  | burstOffShared | gasLow | pumpFault | replenishOverflow | carriageFault | evacuationDone | orphanFound | linkLost
  | linkRestored | linkDegraded
  deriving DecidableEq, Repr, Inhabited

/-- Result codes of a reply (12.2). -/
inductive Result where
  | ok | badKind | badLength | badValue | wrongState | locked | busy | inUse | full | duplicate | notFound | notPresent
  | closed | noSlot | orphans
  deriving DecidableEq, Repr, Inhabited

/-! ### Settings -/

/-- The line configuration (1.5). -/
structure LineCfg where
  count       : Nat
  tl          : Nat
  tw          : Nat
  tp          : Nat
  guard       : Nat
  window      : Nat
  hold        : Nat
  margin      : Nat
  cradleTime  : Nat
  settle      : Nat
  warmTimeout : Nat
  lostAction  : LostAction
  linkTimeout : Nat
  threshold   : Nat
  baud        : Baud
  override    : Nat
  pumpFlow    : Nat
  deriving DecidableEq, Repr, Inhabited

/-- One truth value for each station flag: conditions, latches or masks (8.3). -/
structure FlagSet where
  tempLow     : Bool := false
  tempHigh    : Bool := false
  spread      : Bool := false
  probeFault  : Bool := false
  levelLow    : Bool := false
  levelHigh   : Bool := false
  cradleFault : Bool := false
  exhUnknown  : Bool := false
  exhausted   : Bool := false
  deriving DecidableEq, Repr, Inhabited

/-- A station configuration (1.6). -/
structure StationCfg where
  role        : Role
  group       : Nat
  winLow      : Nat
  winHigh     : Nat
  depth       : Nat
  jump        : Nat
  spreadLimit : Nat
  probeHold   : Nat
  masks       : FlagSet
  exhPerLoad  : Nat
  slope       : Nat
  exhLimit    : Nat
  mlPerLoad   : Nat
  deriving DecidableEq, Repr

/-- A compensation curve (2.2): reference temperature and the seventeen rate points. -/
structure Curve where
  tref   : Nat
  points : List Nat
  deriving DecidableEq, Repr, Inhabited

/-- A recipe step (2.1.2). The fields of the other kind are 0 (R21). -/
structure Step where
  group     : Nat
  kind      : StepKind
  drain     : Nat
  pattern   : Option Nat
  nominal   : Nat
  curve     : Nat
  tolerance : Nat
  immersion : Nat
  stretch   : Nat
  deriving DecidableEq, Repr, Inhabited

/-- An agitation pattern (2.3). -/
structure Pattern where
  mode            : PatternMode
  initialCount    : Nat
  initialInterval : Nat
  period          : Nat
  outTime         : Nat
  quiet           : Nat
  everyN          : Nat
  deriving DecidableEq, Repr

/-- An entry of a burst map (R119). -/
structure Burst where
  enabled : Bool
  onTick  : Nat
  offTick : Nat
  deriving DecidableEq, Repr, Inhabited

/-- An indicator route (11.4). -/
structure Route where
  source   : Source
  arg      : Nat
  inverted : Bool
  deriving DecidableEq, Repr, Inhabited

/-- The settings: what the image holds (1.11). A recipe without steps is undefined (R20). -/
structure Settings where
  line     : LineCfg
  stations : List StationCfg
  closures : List Bool
  curves   : List (Option Curve)
  recipes  : List (List Step)
  patterns : List Pattern
  live     : List Burst
  routes   : List Route
  deriving DecidableEq, Repr

/-- The nonvolatile image (R16): never written, failing its check, or a content with the check stored beside it. -/
inductive NvImage where
  | blank
  | damaged
  | image (content : Settings) (check : Check)
  deriving DecidableEq, Repr

/-! ### Factory defaults (R17) -/

/-- The defaults of 1.5. -/
def LineCfg.factory : LineCfg :=
  { count := 16, tl := 6, tw := 6, tp := 25, guard := 5, window := 600, hold := 180, margin := 5, cradleTime := 3,
    settle := 120, warmTimeout := 3600, lostAction := .continue, linkTimeout := 30, threshold := 100, baud := .b57600,
    override := 0, pumpFlow := 500 }

/-- The defaults of 1.6. -/
def StationCfg.factory : StationCfg :=
  { role := .unused, group := 0, winLow := 190, winHigh := 210, depth := 4, jump := 15, spreadLimit := 10,
    probeHold := 5, masks := {}, exhPerLoad := 0, slope := 0, exhLimit := 800, mlPerLoad := 0 }

/-- The default agitation pattern (R17). -/
def Pattern.factory : Pattern :=
  { mode := .none, initialCount := 0, initialInterval := 5, period := 10, outTime := 2, quiet := 0, everyN := 1 }

/-- The default burst entry (R17). -/
def Burst.factory : Burst := { enabled := false, onTick := 0, offTick := 0 }

/-- The default route (R17). -/
def Route.factory : Route := { source := .off, arg := 0, inverted := false }

/-- The factory defaults (R17). -/
def Settings.factory : Settings :=
  { line := .factory
    stations := List.replicate 16 .factory
    closures := List.replicate 16 false
    curves := List.replicate 4 none
    recipes := List.replicate 8 []
    patterns := List.replicate 8 .factory
    live := List.replicate 16 .factory
    routes := List.replicate 8 .factory }

/-! ### The blocks' own state -/

/-- The output pins (0.4.1, R3 to R5, R143, R168, R169) and the enable of the RS-485 driver (R153). Go-to-station stands in
the driver. -/
structure Outputs where
  lifts      : List Bool
  valves     : List Bool
  selectors  : List Bool
  raise      : Bool
  lower      : Bool
  pumpRun    : Bool
  temper     : Bool
  setback    : Bool
  circulate  : Bool
  alert      : Bool
  indicators : List Bool
  driverOn   : Bool
  deriving DecidableEq, Repr

/-- A reply telegram (R161): `kind` is the kind as sent, the request's plus 0x80. -/
structure Reply where
  addr    : Byte
  tag     : Byte
  kind    : Byte
  payload : List Byte
  deriving DecidableEq, Repr

/-- Receive path (R155). -/
inductive RxPath where
  | hunting | receiving | closed
  deriving DecidableEq, Repr, Inhabited

/-- Link watchdog (R162). `expired` keeps the second of the expiry, from which LINK_RESTORED counts. -/
inductive Watchdog where
  | off | running (expiry : Nat) | expired (at_ : Nat)
  deriving DecidableEq, Repr, Inhabited

/-- Link Port (chapter The Link). -/
structure Link where
  path           : RxPath
  rx             : List Byte
  reply          : Option Reply
  restartPending : Bool
  baud           : Baud
  addr           : Nat
  straps         : Nat
  watchdog       : Watchdog
  discards       : Nat
  lost           : Bool
  degraded       : Bool
  deriving DecidableEq, Repr

/-- Line State Controller (R143) and the line flags of the other blocks (12.3). -/
structure Line where
  state           : LineState
  drainTarget     : Option LineState
  warmStart       : Option Nat
  settle          : List Nat
  gasLow          : Bool
  pumpFault       : Bool
  configDefaulted : Bool
  carriageFault   : Bool
  deriving DecidableEq, Repr

/-- Flags of a rack (R53). -/
structure RackFlags where
  compClamped     : Bool := false
  tempSubstituted : Bool := false
  slideRefused    : Bool := false
  devOutOfTol     : Bool := false
  lateMove        : Bool := false
  overstay        : Bool := false
  interrupted     : Bool := false
  deriving DecidableEq, Repr, Inhabited

/-- A lift out of a bath: its second, the station left, and the step and the immersion second the rack had there. R107
examines the rack in that second as IN_BATH. -/
structure Lift where
  second    : Nat
  station   : Nat
  step      : Nat
  immersion : Option Nat
  deriving DecidableEq, Repr

/-- A rack record (4.1.1) with the two per-slot markers (R103, R107), the outcome of an ended rack (R73), and the model's
own record of the rack's last lift (notes/assumptions/38.md). -/
structure Rack where
  tag         : Nat
  recipe      : Option Nat
  scale       : Nat
  load        : Nat
  loadStation : Nat
  phase       : Phase
  step        : Nat
  station     : Nat
  immersion   : Option Nat
  dose        : Nat
  target      : Nat
  rate        : Nat
  heldRate    : Nat
  predicted   : Option Nat
  deviations  : List (Nat × Int)
  nextStart   : Option Nat
  flags       : RackFlags
  pending     : RackOutcome
  admitted    : Nat
  entered     : Option Nat
  unload      : Option Nat
  ended       : Option Nat
  outcome     : RackOutcome
  slideMark   : Nat
  overMark    : Nat
  lift        : Option Lift
  deriving DecidableEq, Repr

/-- A completion record (R64). -/
structure Completion where
  tag        : Nat
  recipe     : Nat
  scale      : Nat
  load       : Nat
  admitted   : Nat
  entered    : Option Nat
  unload     : Option Nat
  removed    : Nat
  outcome    : RackOutcome
  flags      : RackFlags
  deviations : List (Nat × Int)
  deriving DecidableEq, Repr

/-- A schedule entry (R74). `drain` is the drain its duration was computed with. -/
structure Entry where
  slot      : Nat
  index     : Nat
  src       : Nat
  dst       : Nat
  kind      : MoveKind
  firm      : Bool
  start     : Nat
  duration  : Nat
  drain     : Nat
  spanStart : Nat
  spanEnd   : Nat
  executing : Bool
  lateness  : Nat
  deriving DecidableEq, Repr

/-- A timeline interval (R79). `stop` is none while the to second is OPEN. `step` is the place of the stay in the
rack's chain: 0 at the load station, k + 1 for the stay that move k brings about. -/
structure Interval where
  slot    : Nat
  start   : Nat
  stop    : Option Nat
  purpose : Purpose
  step    : Nat
  deriving DecidableEq, Repr

/-- A record of the deferred set (R91). -/
structure Deferred where
  slot   : Nat
  kind   : MoveKind
  second : Nat
  deriving DecidableEq, Repr

/-- States of the Carriage Driver (R94). -/
inductive DriverState where
  | idle | approaching | waiting | raise | drain | travel | lower | stopped
  deriving DecidableEq, Repr, Inhabited

/-- Carriage Driver (R94, R95). `entry` is the slot and move index of the entry it works on, `phaseStart` and `deadline`
the phase timer and the second of its timeout. -/
structure Driver where
  state        : DriverState
  position     : Nat
  goTo         : Nat
  entry        : Option (Nat × Nat)
  phaseStart   : Option Nat
  deadline     : Option Nat
  approachFrom : Nat
  upSecond     : Option Nat
  faultCleared : Bool
  deriving DecidableEq, Repr

/-- States of a cradle (R113); `none` on a station that holds no bath. -/
inductive CradleState where
  | none | down | rising | out | falling | held
  deriving DecidableEq, Repr, Inhabited

/-- A cradle: `since` is the start second of RISING and FALLING and the up-limit second of OUT; `outTime` is that of the
dunk in progress (R116). -/
structure Cradle where
  state   : CradleState
  since   : Nat
  outTime : Nat
  deriving DecidableEq, Repr, Inhabited

/-- A fixed dunk (R114). -/
structure Dunk where
  second  : Nat
  outTime : Nat
  quiet   : Nat
  deriving DecidableEq, Repr

/-- A dunk plan (R114). -/
structure DunkPlan where
  slot      : Nat
  station   : Nat
  immersion : Nat
  dunk      : Option Dunk
  deriving DecidableEq, Repr

/-- The manifold and the burst maps the Agitation Controller holds beside the live map (R118, R119). -/
structure Manifold where
  running      : Bool
  tick         : Nat
  frame        : Nat
  staged       : List Burst
  applyPending : Bool
  valves       : List Bool
  deriving DecidableEq, Repr

/-- What the Bath Monitor and the Replenish Controller hold for one station (R126, R136), with its presence sample. What the
samples of presence, levels and temperature read before the first one the manual leaves open; false, and 0 marked invalid, is
the model's choice (notes/assumptions/13.md). -/
structure Bath where
  presence     : Bool := false
  levelLow     : Bool := false
  levelHigh    : Bool := false
  raw          : Nat := 0
  rawValid     : Bool := false
  history      : List Nat := []
  lastAccepted : Option Nat := none
  filtered     : Option Nat := none
  invalid      : Nat := 0
  rejected     : Nat := 0
  fresh        : Bool := false
  conds        : FlagSet := {}
  latches      : FlagSet := {}
  exhaustion   : Nat := 0
  deriving DecidableEq, Repr, Inhabited

/-- An entry of the replenish queue (R138). `running`: the pump serves it. -/
structure Delivery where
  station  : Nat
  volume   : Nat
  credit   : Nat
  enqueued : Nat
  running  : Bool
  deriving DecidableEq, Repr

/-- A pump run (R139, R140). -/
structure PumpRun where
  station  : Nat
  start    : Nat
  length   : Nat
  flowSeen : Bool
  deriving DecidableEq, Repr

/-- An event record (R165). -/
structure Event where
  second  : Nat
  kind    : EventKind
  station : Nat
  slot    : Nat
  tag     : Nat
  detail  : Nat
  deriving DecidableEq, Repr

/-- The whole part. `accrualDue` is the model's own: the slots the Integrator's work of the present line second has still
to reach, none between commands (notes/assumptions/4.md). -/
structure State where
  run         : RunState
  clock       : Nat
  accrualDue  : List Nat
  pins        : Inputs
  out         : Outputs
  cfg         : Settings
  nv          : NvImage
  storeWrite  : Option Settings
  link        : Link
  line        : Line
  slots       : List (Option Rack)
  completions : List Completion
  schedule    : List Entry
  timelines   : List (List Interval)
  deferred    : List Deferred
  evacOrder   : List Nat
  driver      : Driver
  cradles     : List Cradle
  plans       : List DunkPlan
  manifold    : Manifold
  baths       : List Bath
  deliveries  : List Delivery
  pump        : Option PumpRun
  events      : List Event
  lost        : Nat
  pending     : List Instr
  deriving DecidableEq, Repr

/-! ### Reset -/

/-- The inputs `State.reset` is taken with: nothing asserted, the trolley between stations. DESIGN CHOICE (the manual
gives no levels), unsafe: notes/assumptions/6.md. -/
def quietInputs : Inputs :=
  { stations := List.replicate 16 ⟨false, 0, false, false, false, false⟩, atStation := 0, hoistUp := false,
    hoistDown := false, hook := false, gasOk := false, flowOk := false, lock := false, straps := 0, reset := false }

/-- Every output released (R3, R4, R5, R143, R153). -/
def Outputs.released : Outputs :=
  { lifts := List.replicate 16 false, valves := List.replicate 16 false, selectors := List.replicate 16 false,
    raise := false, lower := false, pumpRun := false, temper := false, setback := false, circulate := false,
    alert := false, indicators := List.replicate 8 false, driverOn := false }

/-- The Link Port at full reset (R155, R158, R162): closed while the settings are loaded. The watchdog is started by the
load, which brings the timeout. -/
def Link.reset : Link :=
  { path := .closed, rx := [], reply := none, restartPending := false, baud := .b57600, addr := 1, straps := 0,
    watchdog := .off, discards := 0, lost := false, degraded := false }

/-- The Line State Controller at full reset (R143), every line flag clear (R108, R125, R139). -/
def Line.reset : Line :=
  { state := .dormant, drainTarget := none, warmStart := none, settle := List.replicate 16 0, gasLow := false,
    pumpFault := false, configDefaulted := false, carriageFault := false }

/-- The Carriage Driver at full reset over a trolley between stations (R4, R94). -/
def Driver.reset : Driver :=
  { state := .idle, position := 1, goTo := 1, entry := none, phaseStart := none, deadline := none, approachFrom := 1,
    upSecond := none, faultCleared := false }

/-- The manifold at full reset (R118, R119). -/
def Manifold.reset : Manifold :=
  { running := false, tick := 0, frame := 0, staged := List.replicate 16 .factory, applyPending := false,
    valves := List.replicate 16 false }

/-- The part right after the full reset of POWER_ON, its start-up load still to end, over a machine whose image was never
written (notes/assumptions/6.md and 7.md). While the load runs the settings are the factory defaults. -/
def State.reset : State :=
  { run := .loading .power
    clock := 0
    accrualDue := []
    pins := quietInputs
    out := .released
    cfg := .factory
    nv := .blank
    storeWrite := none
    link := .reset
    line := .reset
    slots := List.replicate 24 none
    completions := []
    schedule := []
    timelines := List.replicate 16 []
    deferred := []
    evacOrder := []
    driver := .reset
    cradles := List.replicate 16 ⟨.none, 0, 0⟩
    plans := []
    manifold := .reset
    baths := List.replicate 16 {}
    deliveries := []
    pump := none
    events := []
    lost := 0
    pending := [] }

end Sys2Proof.Machine
end

