-- ==== Sys2Proof/Machine/Operands.lean ====
section
/-! DEFINITION. The operand forms of the telegrams (chapter Telegram and Record Formats): numbers as bytes, the check,
the enumeration codes, and the setting records in both directions. -/

namespace Sys2Proof.Machine

/-! ### Numbers (R171) -/

/-- One-byte field at offset `i`. -/
def u8 (p : List Byte) (i : Nat) : Nat := (p.getD i 0).toNat

/-- Two-byte field, most significant byte first. -/
def u16 (p : List Byte) (i : Nat) : Nat := u8 p i * 256 + u8 p (i + 1)

/-- Four-byte field, most significant byte first. -/
def u32 (p : List Byte) (i : Nat) : Nat := u16 p i * 65536 + u16 p (i + 2)

/-- A one-byte field; a value past its largest is sent as the largest (R171). -/
def b1 (n : Nat) : List Byte := [BitVec.ofNat 8 (min n 255)]

/-- The low sixteen bits of a number as two bytes. -/
def wordBytes (n : Nat) : List Byte := [BitVec.ofNat 8 (n / 256), BitVec.ofNat 8 n]

/-- A two-byte field, stopping at its largest value. -/
def b2 (n : Nat) : List Byte := wordBytes (min n 65535)

/-- A four-byte field, stopping at its largest value. -/
def b4 (n : Nat) : List Byte := wordBytes (min n 4294967295 / 65536) ++ wordBytes (min n 4294967295)

/-- A four-byte signed field in two's complement (R171). -/
def bSigned (z : Int) : List Byte :=
  wordBytes ((BitVec.ofInt 32 z).toNat / 65536) ++ wordBytes (BitVec.ofInt 32 z).toNat

/-- A truth value as one byte. -/
def bBool (b : Bool) : List Byte := [if b then 1 else 0]

/-- An optional line second: 0 when absent (R171). -/
def bSecond (t : Option Nat) : List Byte := b4 (t.getD 0)

/-- Bits of a flag set, bit 0 first, as a number. -/
def bitsToNat : List Bool → Nat
  | [] => 0
  | b :: bs => (if b then 1 else 0) + 2 * bitsToNat bs

/-! ### The check (R154) -/

/-- One shift of the check register; an outgoing 1 combines it with 0x1021 (12.10). -/
def crcShift (r : Check) : Check := if r.msb then (r <<< 1) ^^^ 0x1021#16 else r <<< 1

/-- One byte taken into the high half of the register and shifted out over eight steps. -/
def crcByte (r : Check) (b : Byte) : Check :=
  (crcShift ∘ crcShift ∘ crcShift ∘ crcShift ∘ crcShift ∘ crcShift ∘ crcShift ∘ crcShift)
    (r ^^^ (b.setWidth 16 <<< 8))

/-- CRC-16: generator x^16 + x^12 + x^5 + 1, preset all ones, no final inversion (R154). -/
def crc16 (bytes : List Byte) : Check := bytes.foldl crcByte 0xFFFF#16

/-- The bytes a frame's check runs over: address, tag, kind, length, payload (R154). -/
def checkedBytes (addr tag kind : Byte) (payload : List Byte) : List Byte :=
  addr :: tag :: kind :: BitVec.ofNat 8 payload.length :: payload

/-- The check of a frame of the given kind matches (R157). -/
def frameIntact (kind : Byte) (f : Frame) : Bool :=
  crc16 (checkedBytes f.addr f.tag kind f.payload) == f.check

/-- The two bytes of a check, high byte first. -/
def checkBytes (c : Check) : List Byte := wordBytes c.toNat

/-- The bytes of a frame on the line (12.1). -/
def frameBytes (addr tag kind : Byte) (payload : List Byte) (check : Check) : List Byte :=
  0xA9#8 :: checkedBytes addr tag kind payload ++ checkBytes check

/-- The bytes of a reply on the line (R161, 12.1). -/
def Reply.bytes (r : Reply) : List Byte :=
  frameBytes r.addr r.tag r.kind r.payload (crc16 (checkedBytes r.addr r.tag r.kind r.payload))

/-! ### Enumeration codes (12.3) -/

def LineState.code : LineState → Nat
  | .dormant => 0 | .standby => 1 | .warmup => 2 | .ready => 3 | .draining => 4 | .faulted => 5

def LineCause.code : LineCause → Nat
  | .mode => 0 | .settled => 1 | .timeout => 2 | .drainDone => 3 | .fault => 4 | .recovered => 5 | .linkLost => 6

def Role.code : Role → Nat
  | .unused => 0 | .load => 1 | .develop => 2 | .bath => 3 | .unload => 4

def Role.ofCode : Nat → Option Role
  | 0 => some .unused | 1 => some .load | 2 => some .develop | 3 => some .bath | 4 => some .unload | _ => none

def Phase.code : Phase → Nat
  | .waitingEntry => 0 | .inBath => 1 | .onCarriage => 2 | .atUnload => 3 | .orphan => 4 | .awaitingReport => 5

def RackOutcome.code : RackOutcome → Nat
  | .none => 0 | .complete => 1 | .abandoned => 2 | .interrupted => 3 | .withdrawn => 4 | .lost => 5

def MoveKind.code : MoveKind → Nat
  | .entry => 0 | .transfer => 1 | .exit => 2 | .evacuate => 3

def WalkReason.code : WalkReason → Nat
  | .carriage => 0 | .station => 1 | .timelineFull => 2 | .scheduleFull => 3

def FaultCode.code : FaultCode → Nat
  | .phaseTimeout => 1 | .missedPick => 2 | .dropped => 3 | .notReleased => 4 | .position => 5

def ResetCause.code : ResetCause → Nat
  | .power => 0 | .pin => 1 | .restart => 2

def Purpose.code : Purpose → Nat
  | .loadWait => 0 | .immerse => 1 | .unloadHold => 2

def StepKind.code : StepKind → Nat
  | .develop => 0 | .bath => 1

def StepKind.ofCode : Nat → Option StepKind
  | 0 => some .develop | 1 => some .bath | _ => none

def PatternMode.code : PatternMode → Nat
  | .none => 0 | .dunk => 1 | .gas => 2 | .both => 3

def PatternMode.ofCode : Nat → Option PatternMode
  | 0 => some .none | 1 => some .dunk | 2 => some .gas | 3 => some .both | _ => Option.none

def Baud.code : Baud → Nat
  | .b19200 => 0 | .b57600 => 1 | .b115200 => 2

def Baud.ofCode : Nat → Option Baud
  | 0 => some .b19200 | 1 => some .b57600 | 2 => some .b115200 | _ => none

def LostAction.code : LostAction → Nat
  | .continue => 0 | .drain => 1

def LostAction.ofCode : Nat → Option LostAction
  | 0 => some .continue | 1 => some .drain | _ => none

def Source.code : Source → Nat
  | .off => 0 | .on => 1 | .lineReady => 2 | .alert => 3 | .linkLost => 4 | .anyLatch => 5 | .stationClosed => 6
  | .groupOpen => 7 | .unloadWaiting => 8 | .carriageFault => 9 | .pumpFault => 10

def Source.ofCode : Nat → Option Source
  | 0 => some .off | 1 => some .on | 2 => some .lineReady | 3 => some .alert | 4 => some .linkLost
  | 5 => some .anyLatch | 6 => some .stationClosed | 7 => some .groupOpen | 8 => some .unloadWaiting
  | 9 => some .carriageFault | 10 => some .pumpFault | _ => none

def Result.code : Result → Nat
  | .ok => 0 | .badKind => 1 | .badLength => 2 | .badValue => 3 | .wrongState => 4 | .locked => 5 | .busy => 6
  | .inUse => 7 | .full => 8 | .duplicate => 9 | .notFound => 10 | .notPresent => 11 | .closed => 12 | .noSlot => 13
  | .orphans => 14

/-- The bit number of a station flag (12.3). -/
def Flag.bit : Flag → Nat
  | .tempLow => 0 | .tempHigh => 1 | .spread => 2 | .probeFault => 3 | .levelLow => 4 | .levelHigh => 5
  | .cradleFault => 6 | .exhUnknown => 7 | .exhausted => 8

/-- The code of an event kind (12.3). -/
def EventKind.code : EventKind → Nat
  | .resetDone => 1 | .configDefaulted => 2 | .storeDone => 3 | .storeFailed => 4 | .lineState => 5
  | .warmupTimeout => 6 | .rackEntered => 7 | .rackAtUnload => 8 | .rackRemoved => 9 | .moveDeferred => 10
  | .slideRefused => 11 | .devOutOfTol => 12 | .overstay => 13 | .flagAsserted => 14 | .burstApplied => 15
  | .burstClash => 16 | .burstOffShared => 17 | .gasLow => 18 | .pumpFault => 19 | .replenishOverflow => 20
  | .carriageFault => 21 | .evacuationDone => 22 | .orphanFound => 23 | .linkLost => 24 | .linkRestored => 25
  | .linkDegraded => 26

/-- A truth field: NO 0, YES 1 (12.3). -/
def truthOfCode : Nat → Option Bool
  | 0 => some false | 1 => some true | _ => none

/-- A result code alone. -/
def resultByte (r : Result) : List Byte := b1 r.code

/-- The nine bits of a flag set (12.3). -/
def FlagSet.bits (f : FlagSet) : Nat :=
  bitsToNat [f.tempLow, f.tempHigh, f.spread, f.probeFault, f.levelLow, f.levelHigh, f.cradleFault, f.exhUnknown,
    f.exhausted]

/-- The seven bits of a rack's flags (12.3). -/
def RackFlags.bits (f : RackFlags) : Nat :=
  bitsToNat [f.compClamped, f.tempSubstituted, f.slideRefused, f.devOutOfTol, f.lateMove, f.overstay, f.interrupted]

/-- The masks a two-byte field names: bits 0, 1, 2 and 5; an unassigned bit is disregarded (R171). -/
def FlagSet.ofMaskBits (n : Nat) : FlagSet :=
  { tempLow := n.testBit 0, tempHigh := n.testBit 1, spread := n.testBit 2, levelHigh := n.testBit 5 }

/-- The field names an assigned flag that is not maskable (R10): bit 3, 4, 6, 7 or 8. -/
def maskBitsBad (n : Nat) : Bool :=
  n.testBit 3 || n.testBit 4 || n.testBit 6 || n.testBit 7 || n.testBit 8

/-! ### Setting records (12.11) -/

/-- A value lies in an inclusive range. -/
def within (lo n hi : Nat) : Bool := lo ≤ n && n ≤ hi

/-- The LINE record, the payload of SET LINE. -/
def LineCfg.bytes (c : LineCfg) : List Byte :=
  b1 c.count ++ b1 c.tl ++ b1 c.tw ++ b1 c.tp ++ b1 c.guard ++ b2 c.window ++ b2 c.hold ++ b1 c.margin ++
  b1 c.cradleTime ++ b2 c.settle ++ b2 c.warmTimeout ++ b1 c.lostAction.code ++ b1 c.linkTimeout ++ b2 c.threshold ++
  b1 c.baud.code ++ b1 c.override ++ b2 c.pumpFlow

/-- The record a SET LINE payload spells; none for an unlisted link-lost action or baud code. -/
def LineCfg.parse (p : List Byte) : Option LineCfg :=
  match LostAction.ofCode (u8 p 15), Baud.ofCode (u8 p 19) with
  | some act, some baud =>
    some { count := u8 p 0, tl := u8 p 1, tw := u8 p 2, tp := u8 p 3, guard := u8 p 4, window := u16 p 5, hold := u16 p 7,
           margin := u8 p 9, cradleTime := u8 p 10, settle := u16 p 11, warmTimeout := u16 p 13, lostAction := act,
           linkTimeout := u8 p 16, threshold := u16 p 17, baud := baud, override := u8 p 20, pumpFlow := u16 p 21 }
  | _, _ => none

/-- Every field of a line configuration lies in its range (1.5). -/
def LineCfg.inRange (c : LineCfg) : Bool :=
  within 2 c.count 16 && within 1 c.tl 30 && within 1 c.tw 30 && within 5 c.tp 100 && within 0 c.guard 30 &&
  within 0 c.window 900 && within 30 c.hold 1800 && within 1 c.margin 20 && within 1 c.cradleTime 10 &&
  within 10 c.settle 600 && within 60 c.warmTimeout 7200 && within 0 c.linkTimeout 255 && within 1 c.threshold 65535 &&
  within 0 c.override 30 && within 50 c.pumpFlow 2000

/-- A station record, the SET STATION payload from offset 1. -/
def StationCfg.bytes (c : StationCfg) : List Byte :=
  b1 c.role.code ++ b1 c.group ++ b2 c.winLow ++ b2 c.winHigh ++ b1 c.depth ++ b1 c.jump ++ b1 c.spreadLimit ++
  b1 c.probeHold ++ b2 c.masks.bits ++ b1 c.exhPerLoad ++ b2 c.slope ++ b2 c.exhLimit ++ b1 c.mlPerLoad

/-- The station configuration a SET STATION payload spells; none for an unlisted role or a mask of a flag that is not
maskable. -/
def StationCfg.parse (p : List Byte) : Option StationCfg :=
  match Role.ofCode (u8 p 1) with
  | some role =>
    if maskBitsBad (u16 p 11) then none
    else
      some { role := role, group := u8 p 2, winLow := u16 p 3, winHigh := u16 p 5, depth := u8 p 7, jump := u8 p 8,
             spreadLimit := u8 p 9, probeHold := u8 p 10, masks := .ofMaskBits (u16 p 11), exhPerLoad := u8 p 13,
             slope := u16 p 14, exhLimit := u16 p 16, mlPerLoad := u8 p 18 }
  | none => none

/-- A role that holds a bath (R1). -/
def Role.holdsBath : Role → Bool
  | .develop | .bath => true
  | .unused | .load | .unload => false

/-- Every field of a station configuration lies in its range, the windows are in order and the group suits the role
(1.6, R10). -/
def StationCfg.inRange (c : StationCfg) : Bool :=
  within 0 c.winLow 600 && within 0 c.winHigh 600 && decide (c.winLow < c.winHigh) &&
  [1, 2, 4, 8].contains c.depth && within 5 c.jump 50 && within 1 c.spreadLimit 100 && within 2 c.probeHold 30 &&
  within 0 c.exhPerLoad 50 && within 0 c.slope 512 && within 100 c.exhLimit 1000 && within 0 c.mlPerLoad 200 &&
  (if c.role.holdsBath then within 1 c.group 15 else c.group == 0)

/-- The points of a curve as they are sent. -/
def pointBytes (ps : List Nat) : List Byte := ps.flatMap b2

/-- A curve record, the SET CURVE payload from offset 1; an undefined curve reads NO and zeros (R31). -/
def curveBytes : Option Curve → List Byte
  | none => b1 0 ++ b2 0 ++ pointBytes (List.replicate 17 0)
  | some c => b1 1 ++ b2 c.tref ++ pointBytes c.points

/-- The curve a SET CURVE payload carries. -/
def Curve.parse (p : List Byte) : Curve :=
  { tref := u16 p 2, points := (List.range 17).map fun i => u16 p (4 + 2 * i) }

/-- A step record (12.11). -/
def Step.bytes (st : Step) : List Byte :=
  b1 st.group ++ b1 st.kind.code ++ b1 st.drain ++ b1 (st.pattern.getD 255) ++ b2 st.nominal ++ b1 st.curve ++
  b1 st.tolerance ++ b2 st.immersion ++ b2 st.stretch

/-- A recipe record, the SET RECIPE payload from offset 1. -/
def recipeBytes (steps : List Step) : List Byte := b1 steps.length ++ steps.flatMap Step.bytes

/-- A step pattern: 0 to 7, or none as 0xFF; the outer none is an unlisted code (12.3). -/
def stepPattern (n : Nat) : Option (Option Nat) :=
  if n ≤ 7 then some (some n) else if n = 255 then some none else none

/-- The step at payload offset `o`, the fields of the other kind stored as 0 (R21); none for an unlisted kind or
pattern. -/
def Step.parse (p : List Byte) (o : Nat) : Option Step :=
  match StepKind.ofCode (u8 p (o + 1)), stepPattern (u8 p (o + 3)) with
  | some .develop, some pat =>
    some { group := u8 p o, kind := .develop, drain := u8 p (o + 2), pattern := pat, nominal := u16 p (o + 4),
           curve := u8 p (o + 6), tolerance := u8 p (o + 7), immersion := 0, stretch := 0 }
  | some .bath, some pat =>
    some { group := u8 p o, kind := .bath, drain := u8 p (o + 2), pattern := pat, nominal := 0, curve := 0,
           tolerance := 0, immersion := u16 p (o + 8), stretch := u16 p (o + 10) }
  | _, _ => none

/-- The fields of a step's own kind lie in their ranges (2.1.2). -/
def Step.inRange (st : Step) : Bool :=
  within 1 st.group 15 && within 0 st.drain 30 &&
  match st.kind with
  | .develop => within 30 st.nominal 3600 && within 0 st.curve 3 && within 0 st.tolerance 200
  | .bath => within 10 st.immersion 3600 && within 0 st.stretch 3600

/-- The steps of a SET RECIPE payload, each none where it spells no step. -/
def parseSteps (p : List Byte) : List (Option Step) :=
  (List.range (u8 p 1)).map fun j => Step.parse p (2 + 12 * j)

/-- A pattern record, the SET PATTERN payload from offset 1. -/
def Pattern.bytes (c : Pattern) : List Byte :=
  b1 c.mode.code ++ b1 c.initialCount ++ b1 c.initialInterval ++ b2 c.period ++ b1 c.outTime ++ b1 c.quiet ++
  b1 c.everyN

/-- The pattern a SET PATTERN payload carries; none for an unlisted mode. -/
def Pattern.parse (p : List Byte) : Option Pattern :=
  match PatternMode.ofCode (u8 p 1) with
  | some mode =>
    some { mode := mode, initialCount := u8 p 2, initialInterval := u8 p 3, period := u16 p 4, outTime := u8 p 6,
           quiet := u8 p 7, everyN := u8 p 8 }
  | none => none

/-- The conditions of R28. -/
def Pattern.inRange (c : Pattern) : Bool :=
  within 0 c.initialCount 10 && within 5 c.initialInterval 60 && within 10 c.period 600 && within 2 c.outTime 20 &&
  within 0 c.quiet 60 && within 1 c.everyN 30 && decide (c.outTime < c.period) &&
  (c.initialCount == 0 || decide (c.outTime < c.initialInterval))

/-- A burst entry as sent, with its station (12.11). -/
def Burst.bytes (station : Nat) (b : Burst) : List Byte :=
  b1 station ++ bBool b.enabled ++ b1 b.onTick ++ b1 b.offTick

/-- A burst map as sent, stations 1 to 16 in order. -/
def burstMapBytes (m : List Burst) : List Byte :=
  ((List.range m.length).zip m).flatMap fun e => Burst.bytes (e.1 + 1) e.2

/-- The entry at payload offset `o` of SET BURSTS; none for a station, truth code or tick outside its range (R120). -/
def parseBurst (p : List Byte) (o : Nat) : Option (Nat × Burst) :=
  match truthOfCode (u8 p (o + 1)) with
  | some en =>
    if within 1 (u8 p o) 16 && within 0 (u8 p (o + 2)) 199 && within 0 (u8 p (o + 3)) 199 then
      some (u8 p o, { enabled := en, onTick := u8 p (o + 2), offTick := u8 p (o + 3) })
    else none
  | none => none

/-- The entries of a SET BURSTS payload; none when one of them is outside its range. -/
def parseBursts (p : List Byte) : Option (List (Nat × Burst)) :=
  (List.range (u8 p 0)).mapM fun j => parseBurst p (2 + 4 * j)

/-- A route record, the SET ROUTE payload from offset 1. -/
def Route.bytes (r : Route) : List Byte := b1 r.source.code ++ b1 r.arg ++ bBool r.inverted

/-- The source takes an argument (R169). -/
def Source.takesArg : Source → Bool
  | .stationClosed | .groupOpen => true
  | _ => false

/-- The route a SET ROUTE payload carries, an argument its source does not take stored as 0 (R170); none for an unlisted
source or polarity. -/
def Route.parse (p : List Byte) : Option Route :=
  match Source.ofCode (u8 p 1), truthOfCode (u8 p 3) with
  | some src, some inv => some { source := src, arg := if src.takesArg then u8 p 2 else 0, inverted := inv }
  | _, _ => none

/-- The bytes the image check runs over: every record of the image in the layout it is read back in, in the order of
1.11. DESIGN CHOICE, the manual gives no layout: notes/assumptions/8.md. -/
def Settings.bytes (c : Settings) : List Byte :=
  c.line.bytes ++ c.stations.flatMap StationCfg.bytes ++ c.closures.flatMap bBool ++ c.curves.flatMap curveBytes ++
  c.recipes.flatMap recipeBytes ++ c.patterns.flatMap Pattern.bytes ++ burstMapBytes c.live ++
  c.routes.flatMap Route.bytes

end Sys2Proof.Machine
end

