-- ==== Sys2Proof/Machine/Ops.lean ====
section
/-! DEFINITION. The named operations over the tables of the part, and what every command shares: reading a station or a
slot by its number, changing one, posting an event (R166), adding to a line second (R6), the travel time (R7). -/

namespace Sys2Proof.Machine

/-! ### Line seconds and travel -/

/-- A line second plus a number of seconds, saturating (R6). -/
def addSec (t n : Nat) : Nat := min (t + n) Config.maxSecond

/-- The quotient rounded up (0.5). -/
def ceilDiv (a b : Nat) : Nat := (a + b - 1) / b

/-- The distance of two stations in pitches. -/
def pitches (a b : Nat) : Nat := (a - b) + (b - a)

/-- Travel time between two stations for pitch time `tp` (R7). -/
def travelTime (tp a b : Nat) : Nat := ceilDiv (pitches a b * tp) 10

/-- Duration M of a move with drain `d` (R7). -/
def moveDuration (c : LineCfg) (a b d : Nat) : Nat := c.tl + d + travelTime c.tp a b + c.tw

/-! ### Tables by number -/

/-- The element of a table of stations (numbered from 1). -/
def atStation {α : Type} (l : List α) (d : α) : Nat → α
  | 0 => d
  | n + 1 => l.getD n d

/-- The table with the element of a station replaced. -/
def setStation {α : Type} (l : List α) (n : Nat) (v : α) : List α :=
  match n with
  | 0 => l
  | k + 1 => l.set k v

/-- The stations of the rail in rail order. -/
def allStations : List Nat := List.range' 1 16

/-- The rack slots in ascending order. -/
def allSlots : List Nat := List.range 24

/-- Configured stations: 1 up to the station count (1.1). -/
def State.configured (s : State) (n : Nat) : Bool := 1 ≤ n && n ≤ s.cfg.line.count

/-- The configured stations in rail order. -/
def State.stations (s : State) : List Nat := allStations.filter s.configured

/-- The station configuration as it is kept. -/
def State.stationCfg (s : State) (n : Nat) : StationCfg := atStation s.cfg.stations .factory n

/-- The role of a station; UNUSED above the station count (R1). -/
def State.role (s : State) (n : Nat) : Role := if s.configured n then (s.stationCfg n).role else .unused

/-- The group of a station; 0 above the station count (R1). -/
def State.group (s : State) (n : Nat) : Nat := if s.configured n then (s.stationCfg n).group else 0

/-- The station holds a bath. -/
def State.isBath (s : State) (n : Nat) : Bool := (s.role n).holdsBath

/-- The host closure of a station (R12). -/
def State.hostClosed (s : State) (n : Nat) : Bool := atStation s.cfg.closures false n

/-- What the Bath Monitor holds for a station. -/
def State.bath (s : State) (n : Nat) : Bath := atStation s.baths {} n

/-- The cradle of a station. -/
def State.cradle (s : State) (n : Nat) : Cradle := atStation s.cradles ⟨.none, 0, 0⟩ n

/-- The timeline of a station. -/
def State.timeline (s : State) (n : Nat) : List Interval := atStation s.timelines [] n

/-- The burst valve of a station is open. -/
def State.valve (s : State) (n : Nat) : Bool := atStation s.manifold.valves false n

/-- The inputs of a station as they stand. -/
def State.pin (s : State) (n : Nat) : StationIn := atStation s.pins.stations ⟨false, 0, false, false, false, false⟩ n

def State.setBath (s : State) (n : Nat) (b : Bath) : State := { s with baths := setStation s.baths n b }

def State.setCradle (s : State) (n : Nat) (c : Cradle) : State := { s with cradles := setStation s.cradles n c }

def State.setTimeline (s : State) (n : Nat) (l : List Interval) : State :=
  { s with timelines := setStation s.timelines n l }

def State.setValve (s : State) (n : Nat) (b : Bool) : State :=
  { s with manifold := { s.manifold with valves := setStation s.manifold.valves n b } }

/-! ### Racks -/

/-- The rack of a slot, none when the slot is free (R52). -/
def State.rack (s : State) (k : Nat) : Option Rack := s.slots.getD k none

def State.setRack (s : State) (k : Nat) (r : Rack) : State := { s with slots := s.slots.set k (some r) }

def State.freeSlot (s : State) (k : Nat) : State := { s with slots := s.slots.set k none }

/-- The record of a slot changed, where the slot is in use. -/
def State.modifyRack (s : State) (k : Nat) (f : Rack → Rack) : State :=
  match s.rack k with
  | some r => s.setRack k (f r)
  | none => s

/-- The slots in use, ascending, each with its record. -/
def State.racks (s : State) : List (Nat × Rack) :=
  allSlots.filterMap fun k => (s.rack k).map fun r => (k, r)

/-- The lowest free slot (R52). -/
def State.lowestFree (s : State) : Option Nat := allSlots.find? fun k => (s.rack k).isNone

/-- The rack whose current station is `n` (R53). -/
def State.rackAt (s : State) (n : Nat) : Option (Nat × Rack) :=
  if n = 0 then none else s.racks.find? fun e => e.2.station == n

/-- The rack that holds a tag (R57). -/
def State.rackTagged (s : State) (tag : Nat) : Option (Nat × Rack) := s.racks.find? fun e => e.2.tag == tag

/-- The rack ON_CARRIAGE, if any. -/
def State.carried (s : State) : Option (Nat × Rack) := s.racks.find? fun e => e.2.phase == .onCarriage

/-- The tag a rack slot carries in events and replies, 0 for a free one. -/
def State.tagOf (s : State) (k : Nat) : Nat := ((s.rack k).map (·.tag)).getD 0

/-- The recipe of a number; no steps when undefined (R20). -/
def State.recipe (s : State) (n : Nat) : List Step := s.cfg.recipes.getD n []

/-- The steps a rack follows; none for an orphan. -/
def State.stepsOf (s : State) (r : Rack) : List Step :=
  match r.recipe with
  | some n => s.recipe n
  | none => []

/-- Step k of a list of steps, counted from 1. -/
def stepAt (steps : List Step) : Nat → Option Step
  | 0 => none
  | k + 1 => steps[k]?

/-- The recipe step a rack's step index names; none before entry, at unload and for an orphan (R20). -/
def State.stepOf (s : State) (r : Rack) : Option Step := stepAt (s.stepsOf r) r.step

/-- The drain of the step a rack's step index names, 0 where it names none (R67, R90). -/
def State.drainOf (s : State) (r : Rack) : Nat := ((s.stepOf r).map (·.drain)).getD 0

/-- The recipe is in use (R26). -/
def State.recipeInUse (s : State) (n : Nat) : Bool := s.racks.any fun e => e.2.recipe == some n

/-- A curve by number; none when undefined (R25). -/
def State.curve (s : State) (n : Nat) : Option Curve := s.cfg.curves.getD n none

/-- A pattern by number (R28). -/
def State.pattern (s : State) (n : Nat) : Pattern := s.cfg.patterns.getD n .factory

/-- The recipe names the curve in a DEVELOP step. -/
def namesCurve (n : Nat) (steps : List Step) : Bool := steps.any fun st => st.kind == .develop && st.curve == n

/-- The curve is in use (R26). -/
def State.curveInUse (s : State) (n : Nat) : Bool :=
  (List.range 8).any fun i => s.recipeInUse i && namesCurve n (s.recipe i)

/-- Some rack slot is in use (R8). -/
def State.anyRack (s : State) : Bool := !s.racks.isEmpty

/-! ### Events (R165, R166) -/

/-- A block posts an event: it is appended, or counted as lost when the queue is full. -/
def State.post (s : State) (kind : EventKind) (station slot tag detail : Nat) : State :=
  if s.events.length < Config.eventCapacity then
    { s with events := s.events ++ [⟨s.clock, kind, station, slot, tag, detail⟩] }
  else { s with lost := min (s.lost + 1) 255 }

/-- An event that concerns no rack: slot 255, tag 0. -/
def State.postLine (s : State) (kind : EventKind) (station detail : Nat) : State := s.post kind station 255 0 detail

/-- An event that concerns the rack of a slot. -/
def State.postRack (s : State) (kind : EventKind) (station slot detail : Nat) : State :=
  s.post kind station slot (s.tagOf slot) detail

/-! ### What every command does -/

/-- The part has power and is not held by RESET (R5). -/
def RunState.live : RunState → Bool
  | .loading _ | .running => true
  | .off | .held => false

/-- The input pins take the levels a command brings. -/
def State.latch (s : State) (inp : Inputs) : State := { s with pins := inp }

/-- The position the fit rule takes for an idle carriage: the at-station code, or go-to-station while it is 0 (R76). -/
def State.carriageAt (s : State) : Nat := if s.pins.atStation = 0 then s.driver.goTo else s.pins.atStation

/-- The at-station code shows station `n`: a code above the station count is a wrong position in every check against a
target (R4). -/
def State.standsAt (s : State) (n : Nat) : Bool := s.pins.atStation == n && s.configured n

/-- The hoist reads one of its limits: the Driver changes go-to-station only then (R4). -/
def State.atLimit (s : State) : Bool := s.pins.hoistUp || s.pins.hoistDown

/-- The result of a request with its further reply bytes. -/
def replyOk (fields : List Byte) : List Byte := resultByte .ok ++ fields

end Sys2Proof.Machine
end

