-- ==== Sys2Proof/Machine/Flags.lean ====
section
/-! DEFINITION. The flags: station flags with condition and latch (8.3), the line flags (12.3), open, usable and clear
stations (R82), and the validity of the configuration (R14). -/

namespace Sys2Proof.Machine

/-! ### One flag of a set -/

/-- The value of a flag in a set. -/
def FlagSet.get (fs : FlagSet) : Flag → Bool
  | .tempLow => fs.tempLow
  | .tempHigh => fs.tempHigh
  | .spread => fs.spread
  | .probeFault => fs.probeFault
  | .levelLow => fs.levelLow
  | .levelHigh => fs.levelHigh
  | .cradleFault => fs.cradleFault
  | .exhUnknown => fs.exhUnknown
  | .exhausted => fs.exhausted

/-- The set with one flag given a value. -/
def FlagSet.set (fs : FlagSet) (f : Flag) (v : Bool) : FlagSet :=
  match f with
  | .tempLow => { fs with tempLow := v }
  | .tempHigh => { fs with tempHigh := v }
  | .spread => { fs with spread := v }
  | .probeFault => { fs with probeFault := v }
  | .levelLow => { fs with levelLow := v }
  | .levelHigh => { fs with levelHigh := v }
  | .cradleFault => { fs with cradleFault := v }
  | .exhUnknown => { fs with exhUnknown := v }
  | .exhausted => { fs with exhausted := v }

/-- The flags of the first set that are not in the second. -/
def FlagSet.without (a b : FlagSet) : FlagSet :=
  { tempLow := a.tempLow && !b.tempLow, tempHigh := a.tempHigh && !b.tempHigh, spread := a.spread && !b.spread,
    probeFault := a.probeFault && !b.probeFault, levelLow := a.levelLow && !b.levelLow,
    levelHigh := a.levelHigh && !b.levelHigh, cradleFault := a.cradleFault && !b.cradleFault,
    exhUnknown := a.exhUnknown && !b.exhUnknown, exhausted := a.exhausted && !b.exhausted }

/-- The flags in both sets. -/
def FlagSet.inter (a b : FlagSet) : FlagSet :=
  { tempLow := a.tempLow && b.tempLow, tempHigh := a.tempHigh && b.tempHigh, spread := a.spread && b.spread,
    probeFault := a.probeFault && b.probeFault, levelLow := a.levelLow && b.levelLow,
    levelHigh := a.levelHigh && b.levelHigh, cradleFault := a.cradleFault && b.cradleFault,
    exhUnknown := a.exhUnknown && b.exhUnknown, exhausted := a.exhausted && b.exhausted }

/-- Some flag of the set is true. -/
def FlagSet.any (a : FlagSet) : Bool :=
  a.tempLow || a.tempHigh || a.spread || a.probeFault || a.levelLow || a.levelHigh || a.cradleFault || a.exhUnknown ||
  a.exhausted

/-! ### Conditions of a station -/

/-- The condition of a flag at a station. -/
def State.cond (s : State) (n : Nat) (f : Flag) : Bool := (s.bath n).conds.get f

/-- The flag can be masked (8.3, R10). -/
def Flag.maskable : Flag → Bool
  | .tempLow | .tempHigh | .spread | .levelHigh => true
  | .probeFault | .levelLow | .cradleFault | .exhUnknown | .exhausted => false

/-- The station masks the flag (R10, R130). -/
def State.masked (s : State) (n : Nat) (f : Flag) : Bool := f.maskable && (s.stationCfg n).masks.get f

/-- The slot and tag an event about a station carries: the rack whose current station it is, else 255 and 0 (R130). -/
def State.occupantOf (s : State) (n : Nat) : Nat × Nat :=
  match s.rackAt n with
  | some (k, r) => (k, r.tag)
  | none => (255, 0)

/-- A condition becomes true: the latch is set and FLAG_ASSERTED posted, unless it was true already or the station masks
the flag (R130). EXH_UNKNOWN has no latch and posts nothing. -/
def State.assertFlag (s : State) (n : Nat) (f : Flag) : State :=
  if s.cond n f || s.masked n f then s
  else
    let b := s.bath n
    if f = .exhUnknown then s.setBath n { b with conds := b.conds.set f true }
    else
      let s := s.setBath n { b with conds := b.conds.set f true, latches := b.latches.set f true }
      s.post .flagAsserted n (s.occupantOf n).1 (s.occupantOf n).2 f.bit

/-- A condition becomes false (R130). -/
def State.releaseFlag (s : State) (n : Nat) (f : Flag) : State :=
  let b := s.bath n
  s.setBath n { b with conds := b.conds.set f false }

/-- A condition takes the value of its cause. -/
def State.judgeFlag (s : State) (n : Nat) (f : Flag) (present : Bool) : State :=
  if present then s.assertFlag n f else s.releaseFlag n f

/-- EXHAUSTED is judged from the station's exhaustion index (R134). -/
def State.judgeExhausted (s : State) (n : Nat) : State :=
  s.judgeFlag n .exhausted (decide ((s.stationCfg n).exhLimit ≤ (s.bath n).exhaustion))

/-! ### Open, usable, clear (R82) -/

/-- The station is open: admission may plan into it. -/
def State.isOpen (s : State) (n : Nat) : Bool :=
  match s.role n with
  | .unused => false
  | .load => true
  | .unload => !s.hostClosed n
  | .develop | .bath =>
    let c := (s.bath n).conds
    !s.hostClosed n && (s.bath n).filtered.isSome &&
    !(c.tempLow || c.tempHigh || c.probeFault || c.levelLow || c.cradleFault || c.exhUnknown || c.exhausted)

/-- The station is usable: re-placement and evacuation may use it. -/
def State.isUsable (s : State) (n : Nat) : Bool :=
  match s.role n with
  | .unused => false
  | .load => true
  | .unload => !s.hostClosed n
  | .develop | .bath => !s.hostClosed n && !(s.bath n).conds.levelLow && !(s.bath n).conds.cradleFault

/-- An UNLOAD station is clear: usable, and no rack at its last presence sample. -/
def State.isClear (s : State) (n : Nat) : Bool := s.role n == .unload && s.isUsable n && !(s.bath n).presence

/-- The configured stations of a group, ascending. -/
def State.groupStations (s : State) (g : Nat) : List Nat :=
  s.stations.filter fun n => s.isBath n && s.group n == g

/-- The configured UNLOAD stations, ascending. -/
def State.unloads (s : State) : List Nat := s.stations.filter fun n => s.role n == .unload

/-! ### Line flags and validity -/

/-- The line flags as a bit set (12.3). -/
def State.lineFlagBits (s : State) : Nat :=
  bitsToNat [s.link.lost, s.link.degraded, s.line.gasLow, s.line.pumpFault, s.line.configDefaulted, s.line.carriageFault]

/-- Conditions 1 to 3 of R14: a LOAD, an UNLOAD and a DEVELOP station among the configured ones. -/
def State.rolesPresent (s : State) : Bool :=
  s.stations.any (fun n => s.role n == .load) && s.stations.any (fun n => s.role n == .unload) &&
  s.stations.any (fun n => s.role n == .develop)

/-- The configuration is valid (R14). -/
def State.validConfig (s : State) : Bool := s.rolesPresent && !s.line.configDefaulted

/-! ### Outputs -/

/-- The source of a route is true (R169); `alert` is the ALERT output. -/
def State.sourceTrue (s : State) (alert : Bool) (r : Route) : Bool :=
  match r.source with
  | .off => false
  | .on => true
  | .lineReady => s.line.state == .ready
  | .alert => alert
  | .linkLost => s.link.lost
  | .anyLatch => s.stations.any fun n => s.isBath n && (s.bath n).latches.any
  | .stationClosed => s.configured r.arg && !s.isOpen r.arg
  | .groupOpen => !(s.groupStations r.arg).isEmpty && (s.groupStations r.arg).all s.isOpen
  | .unloadWaiting => s.unloads.any fun n => (s.bath n).presence
  | .carriageFault => s.line.carriageFault
  | .pumpFault => s.line.pumpFault

/-- ALERT (R168). -/
def State.alertDue (s : State) : Bool :=
  !s.events.isEmpty || !s.completions.isEmpty || s.racks.any fun e => e.2.phase == .awaitingReport

/-- The level a route drives (R169). -/
def State.indicatorLevel (s : State) (r : Route) : Bool := Bool.xor (s.sourceTrue s.alertDue r) r.inverted

/-- The tempering outputs of a line state: TEMPER, SETBACK, CIRCULATE (R143). -/
def LineState.tempering : LineState → Bool × Bool × Bool
  | .dormant => (false, false, false)
  | .standby => (true, true, true)
  | .warmup | .ready | .draining | .faulted => (true, false, true)

/-- The cradle asserts its lift output (R113). -/
def CradleState.lifts : CradleState → Bool
  | .rising | .out => true
  | .none | .down | .falling | .held => false

/-- The level of every output in a running part (R3, R4, R113, R123, R139, R143, R153, R168, R169). The RS-485 driver is
enabled while a reply is on its way (notes/assumptions/39.md). -/
def State.outputs (s : State) : Outputs :=
  { lifts := s.cradles.map fun c => c.state.lifts
    valves := s.manifold.valves
    selectors := allStations.map fun n => match s.pump with | some p => p.station == n | none => false
    raise := s.driver.state == .raise
    lower := s.driver.state == .lower
    pumpRun := s.pump.isSome
    temper := s.line.state.tempering.1
    setback := s.line.state.tempering.2.1
    circulate := s.line.state.tempering.2.2
    alert := s.alertDue
    indicators := s.cfg.routes.map s.indicatorLevel
    driverOn := s.link.reply.isSome }

/-- The outputs take their levels at the end of a command. Without power or under RESET every output is released
(R5). While the settings are loaded the outputs stand as the full reset leaves them: ALERT and the indicators take their
values from the start of operation on (R168, R169). -/
def State.drive (s : State) : State :=
  match s.run with
  | .running => { s with out := s.outputs }
  | .off | .held | .loading _ => { s with out := .released }

/-- A command in a part that runs: the pins take their levels, the command has its effect, the outputs follow. Without
power, or while RESET is asserted, nothing happens (notes/assumptions/27.md). -/
def event (inp : Inputs) (f : State → State) (s : State) : Host.Outcome State Fault Refusal :=
  if s.run.live then .next (f (s.latch inp)).drive else .next s

end Sys2Proof.Machine
end

