-- ==== Sys2Proof/Machine/Development.lean ====
section
/-! DEFINITION. Development arithmetic (chapter Development Arithmetic): rate temperature, curve rate, derate, target,
accrual, prediction, deviation. -/

namespace Sys2Proof.Machine

/-! ### Rates -/

/-- The least number of a list, none for an empty one. -/
def least : List Nat → Option Nat
  | [] => none
  | x :: xs => some (xs.foldl min x)

/-- The station has a filtered temperature and no PROBE_FAULT condition: it has a temperature of its own to give (R34,
R35, R132). -/
def State.healthyTemp (s : State) (n : Nat) : Option Nat :=
  if s.cond n .probeFault then none else (s.bath n).filtered

/-- The lowest healthy temperature among the other configured stations of the station's group (R35). -/
def State.neighbourTemp (s : State) (n : Nat) : Option Nat :=
  least (((s.groupStations (s.group n)).filter (· != n)).filterMap s.healthyTemp)

/-- The rate temperature of a station under a curve of reference `tref`, and whether it is substituted (R34, R35). -/
def State.rateTemp (s : State) (n tref : Nat) : Nat × Bool :=
  match s.healthyTemp n with
  | some t => (t, false)
  | none =>
    match s.neighbourTemp n with
    | some t => (t, true)
    | none => ((s.bath n).filtered.getD tref, true)

/-- The index u of R36, and whether the offset was clamped. -/
def curveIndex (tref t : Nat) : Nat × Bool :=
  if t + 80 < tref then (0, true) else if tref + 80 < t then (160, true) else (t + 80 - tref, false)

/-- A point of a curve. -/
def Curve.point (c : Curve) (i : Nat) : Nat := c.points.getD i 0

/-- The rate between the points at index u (R36). -/
def Curve.rateAt (c : Curve) (u : Nat) : Nat :=
  if u / 10 = 16 then c.point 16
  else (c.point (u / 10) * (10 - u % 10) + c.point (u / 10 + 1) * (u % 10) + 5) / 10

/-- The derate X of an exhaustion index and a slope (R37). -/
def derate (e slope : Nat) : Nat := e * slope / 1000

/-- The effective rate of a curve rate under a derate, at least 1 (R37). -/
def effectiveRate (kt x : Nat) : Nat := max 1 (kt * (1024 - x) / 1024)

/-- A rate with the marks it gives when it is applied to a dose (R35, R36). -/
structure Rate where
  rate        : Nat
  clamped     : Bool
  substituted : Bool
  deriving DecidableEq, Repr

/-- The effective rate of a station under a curve (R34 to R37, R49). -/
def State.stationRate (s : State) (n : Nat) (c : Curve) : Rate :=
  let t := s.rateTemp n c.tref
  let u := curveIndex c.tref t.1
  { rate := effectiveRate (c.rateAt u.1) (derate (s.bath n).exhaustion (s.stationCfg n).slope)
    clamped := u.2
    substituted := t.2 }

/-- The curve a step names (R25: a defined one, by R22). -/
def State.stepCurve (s : State) (st : Step) : Curve := (s.curve st.curve).getD default

/-- The target of a DEVELOP step at a scale (R38). -/
def targetOf (nominal scale : Nat) : Nat := nominal * scale * 1024 / 100

/-- The dose after an accrual, saturating (R42). -/
def accrue (dose rate : Nat) : Nat := min (dose + rate) Config.maxDose

/-- The predicted completion second (R46). -/
def predictedSecond (t dose target rate : Nat) : Nat :=
  if dose < target then addSec t (ceilDiv (target - dose) rate) else t

/-- The lift start for a predicted completion and a move duration in second t, a line second (R6, R47, R48). -/
def liftStart (t c m : Nat) : Nat := min (max (addSec t 1) (c - m)) Config.maxSecond

/-- The deviation allowance of a step (R44). -/
def allowance (target tolerance : Nat) : Nat := target * tolerance / 1000

/-! ### The Integrator's work on a rack -/

/-- The DEVELOP step a rack is in development in: from its immersion there until its next immersion (R33). -/
def State.developing (s : State) (r : Rack) : Option Step :=
  if r.phase = .inBath ∨ r.phase = .onCarriage then
    match s.stepOf r with
    | some st => if st.kind = .develop then some st else none
    | none => none
  else none

/-- The marks a rate applied to a dose gives its rack (R35, R36, R51). -/
def Rack.mark (r : Rack) (q : Rate) : Rack :=
  { r with flags := { r.flags with compClamped := r.flags.compClamped || q.clamped,
                                   tempSubstituted := r.flags.tempSubstituted || q.substituted } }

/-- Accrual in the station: rate, dose, prediction of second t (R40, R46). -/
def Rack.accrueAt (r : Rack) (t : Nat) (q : Rate) : Rack :=
  let dose := accrue r.dose q.rate
  { r.mark q with dose := dose, rate := q.rate, predicted := some (predictedSecond t dose r.target q.rate) }

/-- Accrual of the held rate after the lift has begun (R42). -/
def Rack.accrueHeld (r : Rack) : Rack := { r with dose := accrue r.dose r.heldRate, rate := r.heldRate }

/-- The start notice of a move out of a DEVELOP station fixes the held rate (R41). -/
def Rack.hold (r : Rack) : Rack := { r with heldRate := r.rate }

/-- Immersion in a DEVELOP station in second t: dose 0, target, rate and first prediction (R39). -/
def Rack.beginDevelopment (r : Rack) (t target : Nat) (q : Rate) : Rack :=
  { r.mark q with dose := 0, target := target, rate := q.rate, heldRate := 0,
                  predicted := some (predictedSecond t 0 target q.rate) }

/-- The end of a development: its deviation is listed, the rates are 0, the prediction is absent (R43). -/
def Rack.endDevelopment (r : Rack) : Rack :=
  { r with deviations := r.deviations ++ [(r.step, (r.dose : Int) - r.target)], rate := 0, heldRate := 0,
           predicted := none }

/-- The dose ends outside the allowance of the step (R44). -/
def Rack.outOfTolerance (r : Rack) (tolerance : Nat) : Bool :=
  allowance r.target tolerance < ((r.dose : Int) - r.target).natAbs

end Sys2Proof.Machine
end

