-- ==== Sys2Proof/Machine/Agitation.lean ====
section
/-! DEFINITION. The Agitation Controller (chapter Agitation): cradles and dunks, the manifold, burst maps and valves. -/

namespace Sys2Proof.Machine

/-! ### Cradles (R113, R116) -/

/-- A lowering begins with the given start second; a true down-limit ends it at once (R113). -/
def State.beginFalling (s : State) (n start : Nat) : State :=
  s.setCradle n
    { s.cradle n with state := if (s.pin n).cradleDown then .down else .falling, since := start }

/-- The station leaves the bath roles: it has no cradle state (R113). -/
def State.dropCradle (s : State) (n : Nat) : State := s.setCradle n ⟨.none, 0, 0⟩

/-- A cradle fault: the lift output is released, the cradle is HELD, and the Bath Monitor asserts CRADLE_FAULT (R116). -/
def State.cradleFault (s : State) (n : Nat) : State :=
  (s.setCradle n { s.cradle n with state := .held }).assertFlag n .cradleFault

/-- A dunk begins: the open valve closes as the cradle leaves DOWN (R124), the cradle rises, and an up-limit already true
ends RISING at once (R115, R116). -/
def State.beginDunk (s : State) (n outTime : Nat) : State :=
  (s.setValve n false).setCradle n
    { state := if (s.pin n).cradleUp then .out else .rising, since := s.clock, outTime := outTime }

/-! ### Dunk plans (R114) -/

/-- The pattern gives dunks (R28). -/
def PatternMode.dunks : PatternMode → Bool
  | .dunk | .both => true
  | .none | .gas => false

/-- The pattern gives bursts (R28). -/
def PatternMode.bursts : PatternMode → Bool
  | .gas | .both => true
  | .none | .dunk => false

/-- The earliest dunk time later than `t` of a rack immersed in second `i` (R114). -/
def nextDunkTime (p : Pattern) (i t : Nat) : Nat :=
  let initialEnd := i + p.initialCount * p.initialInterval
  if t < initialEnd then i + ((t - i) / p.initialInterval + 1) * p.initialInterval
  else initialEnd + ((t - initialEnd) / p.period + 1) * p.period

/-- The dunk fixed from a pattern as it stands: the earliest dunk time later than `t`, a line second that stops at the
largest (R6). None under a mode without dunks, and none where no line second is later than `t` (R114). -/
def fixDunk (p : Pattern) (i t : Nat) : Option Dunk :=
  let x := min (nextDunkTime p i t) Config.maxSecond
  if p.mode.dunks && decide (t < x) then some ⟨x, p.outTime, p.quiet⟩ else none

/-- The agitation pattern a rack in a step is given; none for a step without one and for a rack in no step (R71). -/
def State.patternOf (s : State) (r : Rack) : Option Nat := (s.stepOf r).bind (·.pattern)

/-- The plan of a rack just immersed (R114). -/
def State.createPlan (s : State) (slot : Nat) : State :=
  match s.rack slot with
  | some r =>
    match s.patternOf r with
    | some p =>
      let i := r.immersion.getD s.clock
      { s with plans := s.plans ++ [⟨slot, r.station, i, fixDunk (s.pattern p) i i⟩] }
    | none => s
  | none => s

/-- The plan of a rack is discarded (R114). -/
def State.dropPlan (s : State) (slot : Nat) : State := { s with plans := s.plans.filter (·.slot != slot) }

/-- Every plan changed by a function. -/
def State.mapPlans (s : State) (f : DunkPlan → DunkPlan) : State := { s with plans := s.plans.map f }

/-- The next dunk of a plan, fixed later than second `t` from the pattern its step names now (R114). -/
def State.refix (s : State) (t : Nat) (p : DunkPlan) : DunkPlan :=
  match (s.rack p.slot).bind s.patternOf with
  | some k => { p with dunk := fixDunk (s.pattern k) p.immersion t }
  | none => { p with dunk := none }

/-- The two tests of R115 for a fixed dunk in second t; a planned start at or before t fails the second. -/
def State.dunkFits (s : State) (p : DunkPlan) (d : Dunk) : Bool :=
  (s.cradle p.station).state == .down &&
  match (s.rack p.slot).bind (·.nextStart) with
  | some start => decide (s.clock < start) && decide (addSec s.clock (d.outTime + d.quiet) ≤ start)
  | none => true

/-- A fixed dunk comes due: it begins or is skipped, and the next is fixed (R114, R115). -/
def State.dunkDue (s : State) (p : DunkPlan) (d : Dunk) : State :=
  let s' := if s.dunkFits p d then s.beginDunk p.station d.outTime else s
  s'.mapPlans fun q => if q.slot = p.slot then s'.refix s'.clock q else q

/-- An accepted SET PATTERN fixes a dunk for every plan of the pattern that holds none (R114, R29). -/
def State.refixPattern (s : State) (k : Nat) : State :=
  s.mapPlans fun p =>
    if p.dunk.isNone && (s.rack p.slot).bind s.patternOf == some k then s.refix s.clock p else p

/-! ### Burst maps (R119, R121) -/

/-- A burst map's entry for a station. -/
def burstOf (m : List Burst) (n : Nat) : Burst := atStation m .factory n

/-- The lowest pair of enabled entries that agree in a tick: the lower station least, then the higher (R121). -/
def lowestPair (tick : Burst → Nat) (m : List Burst) : Option (Nat × Nat) :=
  allStations.findSome? fun i =>
    (allStations.find? fun j =>
      decide (i < j) && (burstOf m i).enabled && (burstOf m j).enabled &&
        tick (burstOf m i) == tick (burstOf m j)).map fun j => (i, j)

/-- Two enabled entries share an on tick (R121). -/
def clash (m : List Burst) : Option (Nat × Nat) := lowestPair (·.onTick) m

/-- The number of entries in which two maps differ (R121). -/
def burstChanges (a b : List Burst) : Nat := (allStations.filter fun n => burstOf a n != burstOf b n).length

/-- An apply of the staged map: a clash leaves the live map, otherwise the staged map becomes live (R121). -/
def State.applyBursts (s : State) : State :=
  let s := { s with manifold := { s.manifold with applyPending := false } }
  match clash s.manifold.staged with
  | some (i, j) => s.postLine .burstClash i j
  | none =>
    let n := burstChanges s.cfg.live s.manifold.staged
    let t := { s with cfg := { s.cfg with live := s.manifold.staged } }
    let t := match lowestPair (·.offTick) s.manifold.staged with
      | some (i, j) => t.postLine .burstOffShared i j
      | none => t
    t.postLine .burstApplied 0 n

/-! ### The manifold (R118) -/

/-- The line states in which the manifold runs (R118). -/
def LineState.runsManifold : LineState → Bool
  | .warmup | .ready | .draining | .faulted => true
  | .dormant | .standby => false

/-- Every burst valve closed. -/
def State.closeValves (s : State) : State :=
  { s with manifold := { s.manifold with valves := s.manifold.valves.map fun _ => false } }

/-- The manifold stops: valves closed, tick 0 without a wrap, a pending apply performed (R118, R120). -/
def State.stopManifold (s : State) : State :=
  let s := s.closeValves
  let s := { s with manifold := { s.manifold with running := false, tick := 0 } }
  if s.manifold.applyPending then s.applyBursts else s

/-- The manifold starts at tick 0 of the frame number it holds (R118). -/
def State.startManifold (s : State) : State :=
  { s with manifold := { s.manifold with running := true, tick := 0 } }

/-- The manifold follows the line state (R118). -/
def State.followLineState (s : State) (st : LineState) : State :=
  if st.runsManifold then (if s.manifold.running then s else s.startManifold)
  else if s.manifold.running then s.stopManifold else s

/-- The gas pressure input is read (R124, R125). -/
def State.readGas (s : State) : State :=
  if s.pins.gasOk then { s with line := { s.line with gasLow := false } }
  else
    let t := s.closeValves
    if s.line.gasLow then t else ({ t with line := { t.line with gasLow := true } }).postLine .gasLow 0 0

/-- A valve open at a wrap stays open: its entry is unchanged and its tail is not empty (R122, R123). -/
def keepsTail (old new : List Burst) (n : Nat) : Bool :=
  burstOf old n == burstOf new n && (burstOf new n).offTick != 0

/-- The frame wrap: tick 0, the next frame number, a pending apply, and the valves that do not keep a tail close (R118,
R121, R122). -/
def State.wrapFrame (s : State) : State :=
  let old := s.cfg.live
  let t := { s with manifold := { s.manifold with tick := 0, frame := (s.manifold.frame + 1) % 65536 } }
  let t := if t.manifold.applyPending then t.applyBursts else t
  { t with manifold := { t.manifold with
      valves := allStations.map fun n => t.valve n && keepsTail old t.cfg.live n } }

/-- One tick of 10 ms while the manifold runs: the counter advances, the step from 199 being the wrap, and the gas
pressure is read (R118, R125). -/
def State.tick (s : State) : State :=
  let t := if s.manifold.tick < 199 then { s with manifold := { s.manifold with tick := s.manifold.tick + 1 } }
    else s.wrapFrame
  t.readGas

/-! ### Bursts (R124) -/

/-- The rack IN_BATH at a station is in a step whose pattern gives a burst in this frame (R124, conditions 1 to 3). -/
def State.burstWanted (s : State) (n : Nat) : Bool :=
  match s.rackAt n with
  | some (_, r) =>
    r.phase == .inBath &&
    match s.patternOf r with
    | some p => (s.pattern p).mode.bursts && s.manifold.frame % (s.pattern p).everyN == 0
    | none => false
  | none => false

/-- The seven conditions of R124 hold at a station. -/
def State.burstAllowed (s : State) (n : Nat) : Bool :=
  s.burstWanted n && (s.cradle n).state == .down && (s.pin n).cradleDown && !s.cond n .levelLow && s.pins.gasOk &&
  s.manifold.running

/-- The on tick of an enabled live entry: the valve opens when R124 allows. An entry with equal ticks gives no burst
(R123). -/
def State.burstOn (s : State) (n : Nat) : State :=
  let e := burstOf s.cfg.live n
  if s.manifold.running && e.enabled && e.onTick != e.offTick && s.manifold.tick == e.onTick && s.burstAllowed n then
    s.setValve n true
  else s

/-- The off tick of a live entry: the open valve closes (R123). -/
def State.burstOff (s : State) (n : Nat) : State :=
  if s.manifold.running && s.manifold.tick == (burstOf s.cfg.live n).offTick then s.setValve n false else s

end Sys2Proof.Machine
end

