-- ==== Sys2Proof/Machine/BathMonitor.lean ====
section
/-! DEFINITION. The Bath Monitor (chapter Bath Monitoring and Replenishment): samples, filter, flag evaluation. -/

namespace Sys2Proof.Machine

/-- Magnitude of the difference of two readings. -/
def diff (a b : Nat) : Nat := (a - b) + (b - a)

/-- A valid sample is accepted (R128). -/
def Bath.accepts (b : Bath) (jump x : Nat) : Bool :=
  match b.lastAccepted with
  | none => true
  | some y => decide (diff x y ≤ jump) || decide (3 ≤ b.rejected)

/-- The history after an acceptance: the oldest leaves when it holds F samples (R129). -/
def pushSample (depth : Nat) (h : List Nat) (x : Nat) : List Nat := (h ++ [x]).drop (h.length + 1 - depth)

/-- The filtered temperature of a history (R129). -/
def mean (h : List Nat) : Nat := h.sum / h.length

/-- An accepted sample enters the filter (R129). -/
def Bath.accept (b : Bath) (depth x : Nat) : Bath :=
  let h := pushSample depth b.history x
  { b with rejected := 0, lastAccepted := some x, history := h, filtered := some (mean h), fresh := true }

/-- One sample of a station's temperature channel (R127 to R129, R133). -/
def State.sampleTemp (s : State) (n : Nat) : State :=
  let x := (s.pin n).temp
  let cfg := s.stationCfg n
  let b := { s.bath n with raw := x, rawValid := decide (x ≤ 600) }
  if x ≤ 600 then
    let b := { b with invalid := 0 }
    if b.accepts cfg.jump x then (s.setBath n (b.accept cfg.depth x)).releaseFlag n .probeFault
    else s.setBath n { b with rejected := b.rejected + 1 }
  else
    let b := { b with invalid := min (b.invalid + 1) 30 }
    let t := s.setBath n b
    if cfg.probeHold ≤ b.invalid then t.assertFlag n .probeFault else t

/-- TEMP_LOW from a filtered temperature, with its hysteresis (R131). -/
def tempLowPresent (was : Bool) (low : Nat) : Option Nat → Bool
  | some t => if was then decide (t < low + 2) else decide (t < low)
  | none => false

/-- TEMP_HIGH from a filtered temperature, with its hysteresis (R131). -/
def tempHighPresent (was : Bool) (high : Nat) : Option Nat → Bool
  | some t => if was then decide (high < t + 2) else decide (high < t)
  | none => false

/-- TEMP_LOW and TEMP_HIGH of a station (R131). -/
def State.judgeTemps (s : State) (n : Nat) : State :=
  let cfg := s.stationCfg n
  let t := s.judgeFlag n .tempLow (tempLowPresent (s.cond n .tempLow) cfg.winLow (s.bath n).filtered)
  t.judgeFlag n .tempHigh (tempHighPresent (s.cond n .tempHigh) cfg.winHigh (s.bath n).filtered)

/-- LEVEL_LOW and LEVEL_HIGH follow the sampled switches; a LEVEL_LOW that is present closes the open valve (R124,
R133). -/
def State.judgeLevels (s : State) (n : Nat) : State :=
  let p := s.pin n
  let t := s.setBath n { s.bath n with levelLow := p.levelLow, levelHigh := p.levelHigh }
  let t := (t.judgeFlag n .levelLow p.levelLow).judgeFlag n .levelHigh p.levelHigh
  if t.cond n .levelLow then t.setValve n false else t

/-- The healthy temperatures of a station's group (R132). -/
def State.groupTemps (s : State) (n : Nat) : List Nat := (s.groupStations (s.group n)).filterMap s.healthyTemp

/-- SPREAD of a station holds (R132). -/
def State.spreadPresent (s : State) (n : Nat) : Bool :=
  match s.healthyTemp n, least (s.groupTemps n) with
  | some t, some low => decide (2 ≤ (s.groupTemps n).length) && decide (low + (s.stationCfg n).spreadLimit < t)
  | _, _ => false

/-- SPREAD of a station is evaluated (R132). -/
def State.judgeSpread (s : State) (n : Nat) : State := s.judgeFlag n .spread (s.spreadPresent n)

/-- One station's sample and the flags judged from it and from E. -/
def State.watchStation (s : State) (n : Nat) : State :=
  (((s.sampleTemp n).judgeTemps n).judgeLevels n).judgeExhausted n

/-- The configured DEVELOP and BATH stations, ascending. -/
def State.bathStations (s : State) : List Nat := s.stations.filter s.isBath

/-- The Bath Monitor's work of one line second: every station's sample and flags, then SPREAD (R127 to R134). -/
def State.watchBaths (s : State) : State :=
  let t := s.bathStations.foldl State.watchStation s
  t.bathStations.foldl State.judgeSpread t

/-- The filter and sample history of a station are emptied (R11). -/
def State.emptyFilter (s : State) (n : Nat) : State :=
  s.setBath n { s.bath n with history := [], lastAccepted := none, filtered := none }

/-- A station that holds no bath any more: nothing but its presence sample stays, E is 0 (R11). -/
def State.clearBath (s : State) (n : Nat) : State := s.setBath n { presence := (s.bath n).presence }

end Sys2Proof.Machine
end

