-- ==== Sys2Proof/Machine/Replenishment.lean ====
section
/-! DEFINITION. The Replenish Controller (chapter Bath Monitoring and Replenishment): exhaustion, the replenish queue, the
pump. -/

namespace Sys2Proof.Machine

/-- The last element that satisfies a test changed; none when there is none. -/
def modifyLast {α : Type} (p : α → Bool) (f : α → α) : List α → Option (List α)
  | [] => none
  | x :: xs =>
    match modifyLast p f xs with
    | some ys => some (x :: ys)
    | none => if p x then some (f x :: xs) else none

/-- The exhaustion index of a station is set and EXHAUSTED judged in the same event (R136). -/
def State.setExhaustionIndex (s : State) (n e : Nat) : State :=
  (s.setBath n { s.bath n with exhaustion := e }).judgeExhausted n

/-- A delivery is queued, merged into the newest entry of the station that the pump does not run, or dropped (R138). -/
def State.enqueue (s : State) (slot n volume credit : Nat) : State :=
  if s.deliveries.length < Config.replenishCapacity then
    { s with deliveries := s.deliveries ++ [⟨n, volume, credit, s.clock, false⟩] }
  else
    match modifyLast (fun d => d.station == n && !d.running)
        (fun d => { d with volume := min (d.volume + volume) Config.maxVolume, credit := d.credit + credit })
        s.deliveries with
    | some ds => { s with deliveries := ds }
    | none => s.postRack .replenishOverflow n slot volume

/-- The lift of a rack of the given load out of the bath of a station: the rise of E with its credit, and the delivery it
calls for (R136, R138). -/
def State.liftReplenish (s : State) (slot n load : Nat) : State :=
  if s.isBath n then
    let cfg := s.stationCfg n
    let e := (s.bath n).exhaustion
    let e' := if s.role n = .develop then min (e + load * cfg.exhPerLoad) 1000 else e
    let t := if s.role n = .develop then s.setExhaustionIndex n e' else s
    if load * cfg.mlPerLoad = 0 then t else t.enqueue slot n (load * cfg.mlPerLoad) (e' - e)
  else s

/-- The entry may be served (R139). -/
def State.eligible (s : State) (d : Delivery) : Bool :=
  !s.cond d.station .levelHigh && s.line.state != .dormant && !s.line.pumpFault

/-- The first element that satisfies a test changed, with that element as it was; none when there is none. -/
def modifyFirst {α : Type} (p : α → Bool) (f : α → α) : List α → Option (α × List α)
  | [] => none
  | x :: xs => if p x then some (x, f x :: xs) else (modifyFirst p f xs).map fun e => (e.1, x :: e.2)

/-- An IDLE pump starts the oldest eligible entry (R139). -/
def State.startPump (s : State) : State :=
  if s.pump.isSome then s
  else
    match modifyFirst s.eligible (fun d => { d with running := true }) s.deliveries with
    | some (d, ds) =>
      { s with deliveries := ds, pump := some ⟨d.station, s.clock, ceilDiv (d.volume * 60) s.cfg.line.pumpFlow, false⟩ }
    | none => s

/-- The run stops, its entry stays whole (R141). -/
def State.stopPump (s : State) : State :=
  { s with pump := none, deliveries := s.deliveries.map fun d => { d with running := false } }

/-- The once-per-second reading of the flow input (R140). It is made in LINE_SECOND alone, so the readings of the seconds
after the start count, up to that of the second in which the flow is judged (notes/assumptions/43.md). -/
def State.readFlow (s : State) : State :=
  match s.pump with
  | some p => { s with pump := some { p with flowSeen := p.flowSeen || s.pins.flowOk } }
  | none => s

/-- No flow within 5 s of the start: the pump stops, PUMP_FAULT is set and posted, the entry stays (R140). The judgement
comes after the reading of its own second (notes/assumptions/43.md). -/
def State.flowFault (s : State) : State :=
  match s.pump with
  | some p =>
    if addSec p.start 5 ≤ s.clock ∧ p.flowSeen = false then
      let t := s.stopPump
      ({ t with line := { t.line with pumpFault := true } }).postLine .pumpFault p.station 0
    else s
  | none => s

/-- The run length is reached with flow seen: the entry leaves the queue and its credit leaves E (R140). -/
def State.completeRun (s : State) : State :=
  match s.pump with
  | some p =>
    if addSec p.start p.length ≤ s.clock ∧ p.flowSeen = true then
      let credit := ((s.deliveries.find? (·.running)).map (·.credit)).getD 0
      let t := { s with pump := none, deliveries := s.deliveries.filter fun d => !d.running }
      t.setExhaustionIndex p.station ((s.bath p.station).exhaustion - credit)
    else s
  | none => s

/-- Every entry of a station leaves the queue, and a run of one of them stops (R11). -/
def State.dropDeliveries (s : State) (n : Nat) : State :=
  { s with deliveries := s.deliveries.filter fun d => d.station != n,
           pump := match s.pump with | some p => if p.station = n then none else some p | none => none }

end Sys2Proof.Machine
end

