-- ==== Sys2Proof/Machine/LineStates.lean ====
section
/-! DEFINITION. The Line State Controller (chapter Line States): passages, warm-up, drain, recovery. -/

namespace Sys2Proof.Machine

/-- The settle counts all at 0 (R146). -/
def settleZero : List Nat := List.replicate 16 0

/-- A passage of the line state, with all that comes about in its event: the warm-up begins or is abandoned, LINE_STATE is
posted, the manifold follows, a pump run stops on entry to DORMANT, and entry to FAULTED clears the fault-cleared
indication (R108, R118, R141, R143, R144, R146). -/
def State.enterLine (s : State) (st : LineState) (cause : LineCause) : State :=
  let t := { s with
    line := { s.line with
      state := st
      warmStart := if st = LineState.warmup then some s.clock else none
      settle := if st = LineState.warmup then settleZero else s.line.settle }
    driver := { s.driver with faultCleared := if st = LineState.faulted then false else s.driver.faultCleared } }
  let t := (t.postLine .lineState 0 (st.code * 256 + cause.code)).followLineState st
  if st = LineState.dormant then t.stopPump else t

/-! ### Racks that hold the line -/

/-- The rack's current station is a DEVELOP or BATH station. -/
def State.standsInBath (s : State) (r : Rack) : Bool := s.isBath r.station

/-- The rack counts for a drain (R149). -/
def State.countsForDrain (s : State) (r : Rack) : Bool :=
  match r.phase with
  | .waitingEntry | .inBath | .onCarriage => true
  | .orphan => s.standsInBath r
  | .atUnload | .awaitingReport => false

/-- The rack is in flight (R145). -/
def State.inFlight (s : State) (r : Rack) : Bool :=
  s.standsInBath r || r.phase == .onCarriage || r.phase == .waitingEntry

/-- The rack remains to be evacuated (R112, R145). -/
def State.remains (s : State) (r : Rack) : Bool := s.standsInBath r || r.phase == .onCarriage

/-- Some rack satisfies a test. -/
def State.someRack (s : State) (p : Rack → Bool) : Bool := s.racks.any fun e => p e.2

/-! ### Drain (R149) -/

/-- The drain target is set. -/
def State.setDrainTarget (s : State) (t : Option LineState) : State := { s with line := { s.line with drainTarget := t } }

/-- A drain is asked for: the line enters DRAINING, or the target at once when no rack counts (R146, R149, R151). -/
def State.beginDrain (s : State) (target : LineState) (cause : LineCause) : State :=
  if s.someRack s.countsForDrain then (s.setDrainTarget (some target)).enterLine .draining cause
  else (s.setDrainTarget none).enterLine target cause

/-- The drain judgement after the end of a rack or of a move (R149). -/
def State.judgeDrain (s : State) : State :=
  if s.line.state = .draining ∧ s.someRack s.countsForDrain = false then
    (s.setDrainTarget none).enterLine (s.line.drainTarget.getD .standby) .drainDone
  else s

/-! ### Recovery (R112) -/

/-- The line may return from FAULTED to READY (R112). -/
def State.recoverable (s : State) : Bool :=
  s.line.state == .faulted && s.driver.faultCleared && !s.someRack s.remains

/-- The return to READY, where nothing remains to be evacuated (R112). -/
def State.judgeRecovery (s : State) : State :=
  if s.recoverable then s.enterLine .ready .recovered else s

/-! ### Warm-up (R147, R148) -/

/-- A station is in window (R147). -/
def State.inWindow (s : State) (n : Nat) : Bool :=
  match s.healthyTemp n with
  | some t => decide ((s.stationCfg n).winLow ≤ t) && decide (t ≤ (s.stationCfg n).winHigh)
  | none => false

/-- The settle count of a station. -/
def State.settleOf (s : State) (n : Nat) : Nat := atStation s.line.settle 0 n

/-- The settle count of a station after a judgement (R147). -/
def State.settleNext (s : State) (n : Nat) : Nat :=
  if s.isBath n then
    (if s.inWindow n then min (s.settleOf n + 1) s.cfg.line.settle else 0)
  else s.settleOf n

/-- The settle counts are updated (R147). -/
def State.updateSettle (s : State) : State :=
  { s with line := { s.line with settle := allStations.map s.settleNext } }

/-- The stations considered for warm-up (R148). -/
def State.considered (s : State) : List Nat := s.bathStations.filter fun n => !s.hostClosed n

/-- The considered stations below the settle time, ascending (R148). -/
def State.unsettled (s : State) : List Nat := s.considered.filter fun n => decide (s.settleOf n < s.cfg.line.settle)

/-- The judgement of one line second of WARMUP (R147, R148): counts, then READY when all are settled. -/
def State.judgeWarmup (s : State) : State :=
  if s.line.state = .warmup then
    let t := s.updateSettle
    if t.unsettled.isEmpty then t.enterLine .ready .settled else t
  else s

/-- The warm-up timeout (R148). -/
def State.timeoutWarmup (s : State) : State :=
  match s.line.warmStart with
  | some start =>
    if s.line.state = .warmup ∧ addSec start s.cfg.line.warmTimeout ≤ s.clock then
      match s.unsettled with
      | [] => s.enterLine .ready .settled
      | n :: ns => (s.postLine .warmupTimeout n (ns.length + 1)).enterLine .ready .timeout
    else s
  | none => s

end Sys2Proof.Machine
end

