-- ==== Sys2Proof/Machine/Planner.lean ====
section
/-! DEFINITION. The Transport Planner (chapter The Carriage Schedule and Station Timelines): schedule, timelines and the
placement walk. -/

namespace Sys2Proof.Machine

/-! ### Schedule entries (R74, R75) -/

/-- A booked move with its duration and span (R74, R75). -/
def mkEntry (c : LineCfg) (slot index src dst : Nat) (kind : MoveKind) (firm : Bool) (start drain : Nat) : Entry :=
  let m := moveDuration c src dst drain
  { slot := slot, index := index, src := src, dst := dst, kind := kind, firm := firm, start := start, duration := m,
    drain := drain, spanStart := if firm then start - c.guard else start,
    spanEnd := addSec start (if firm then m + c.guard else m), executing := false, lateness := 0 }

/-- Entry put in its place by span start (R76). -/
def insertEntry (m : Entry) : List Entry → List Entry
  | [] => [m]
  | e :: es => if m.spanStart < e.spanStart then m :: e :: es else e :: insertEntry m es

/-- The entry is a BOOKED one of the rack. -/
def Entry.bookedFor (slot : Nat) (e : Entry) : Bool := e.slot == slot && !e.executing

/-- A schedule without the BOOKED entries of a rack. -/
def dropBooked (slot : Nat) (l : List Entry) : List Entry := l.filter fun e => !e.bookedFor slot

/-- The planned start of a rack's earliest BOOKED entry (R53, R77). -/
def nextStartIn (l : List Entry) (slot : Nat) : Option Nat := least ((l.filter (Entry.bookedFor slot)).map (·.start))

/-- The Planner writes the rack's planned start of next move (R53). -/
def State.noteStart (s : State) (slot : Nat) : State :=
  s.modifyRack slot fun r => { r with nextStart := nextStartIn s.schedule slot }

/-- Every BOOKED entry of a rack leaves the schedule (R59, R67, R105). A Driver on its approach to one of them works on no
entry then, so that its approach turns anew to whatever is first (R95). -/
def State.removeBooked (s : State) (slot : Nat) : State :=
  { s with
    schedule := dropBooked slot s.schedule
    driver := { s.driver with
      entry := if s.driver.state = .approaching ∧ s.driver.entry.map (·.1) = some slot then none else s.driver.entry } }

/-! ### Fit (R76) -/

/-- The entry with the greatest span start, the last of several. -/
def latestEntry : List Entry → Option Entry
  | [] => none
  | e :: es => some (es.foldl (fun a b => if a.spanStart ≤ b.spanStart then b else a) e)

/-- The entry with the least span start. -/
def earliestEntry : List Entry → Option Entry
  | [] => none
  | e :: es => some (es.foldl (fun a b => if b.spanStart < a.spanStart then b else a) e)

/-- The predecessor of a candidate: an EXECUTING entry whose span start it does not exceed, else the entry with the
greatest span start not greater than its own (R76). -/
def predecessor (l : List Entry) (m : Entry) : Option Entry :=
  match l.find? fun e => e.executing && decide (m.spanStart ≤ e.spanStart) with
  | some e => some e
  | none => latestEntry (l.filter fun e => decide (e.spanStart ≤ m.spanStart))

/-- The successor of a candidate (R76). -/
def successor (l : List Entry) (m : Entry) : Option Entry :=
  earliestEntry (l.filter fun e => decide (m.spanStart < e.spanStart))

/-- The fit rule of R76 for a candidate among the entries `l`, at line second `now`, the carriage standing at `c`. -/
def fits (tp now c : Nat) (l : List Entry) (m : Entry) : Bool :=
  (match predecessor l m with
   | some p => decide (addSec p.spanEnd (travelTime tp p.dst m.src) ≤ m.spanStart)
   | none => decide (addSec now (travelTime tp c m.src) ≤ m.spanStart)) &&
  (match successor l m with
   | some q => decide (addSec m.spanEnd (travelTime tp m.dst q.src) ≤ q.spanStart)
   | none => true)

/-! ### Intervals (R79, R80) -/

/-- Interval put in its place by from second (R80). -/
def insertInterval (iv : Interval) : List Interval → List Interval
  | [] => [iv]
  | i :: is => if iv.start < i.start then iv :: i :: is else i :: insertInterval iv is

/-- The interval covers a second, an OPEN end reaching without end. -/
def Interval.covers (iv : Interval) (t : Nat) : Bool :=
  decide (iv.start ≤ t) && match iv.stop with | some e => decide (t < e) | none => true

/-- Two intervals share a second: one covers the second the other begins with; an OPEN end reaches without end (R80). -/
def Interval.meets (a b : Interval) : Bool := a.covers b.start || b.covers a.start

/-- The interval is the rack's stay number `step`. -/
def Interval.isStay (slot step : Nat) (iv : Interval) : Bool := iv.slot == slot && iv.step == step

/-- Every timeline changed by a function. -/
def State.mapTimelines (s : State) (f : List Interval → List Interval) : State :=
  { s with timelines := s.timelines.map f }

/-- Every interval of a rack leaves the timelines (R59). -/
def State.removeIntervals (s : State) (slot : Nat) : State := s.mapTimelines fun l => l.filter (·.slot != slot)

/-- The intervals of a rack from its stay number `step` on leave the timelines, for a chain that starts with that stay
(R79, R89). Those of the stations it came from stay until they expire (R81). -/
def State.removeStaysFrom (s : State) (slot step : Nat) : State :=
  s.mapTimelines fun l => l.filter fun iv => !(iv.slot == slot && decide (step ≤ iv.step))

/-- The intervals of a rack at every station but its current one leave the timelines, and of that one those beyond its
current stay (R67). -/
def State.keepStay (s : State) (slot station step : Nat) : State :=
  let t := s.mapTimelines fun l => l.filter (·.slot != slot)
  t.setTimeline station ((s.timeline station).filter fun iv => !(iv.slot == slot && decide (step < iv.step)))

/-- The intervals of a rack beyond its current stay leave the timelines (R105). -/
def State.removeLaterIntervals (s : State) (slot step : Nat) : State :=
  s.mapTimelines fun l => l.filter fun iv => !(iv.slot == slot && decide (step < iv.step))

/-- The end of a rack's current stay becomes OPEN (R67, R105). -/
def State.openStay (s : State) (slot step : Nat) : State :=
  s.mapTimelines fun l => l.map fun iv => if iv.isStay slot step then { iv with stop := none } else iv

/-- An interval enters the timeline of its station. -/
def State.addInterval (s : State) (n : Nat) (iv : Interval) : State := s.setTimeline n (insertInterval iv (s.timeline n))

/-- The rack hangs at the interval's station or is on its way to it (R81). -/
def State.holdsInterval (s : State) (n : Nat) (iv : Interval) : Bool :=
  match s.rack iv.slot with
  | some r =>
    r.station == n ||
    (r.phase == .onCarriage && s.schedule.any fun e => e.executing && e.slot == iv.slot && e.dst == n)
  | none => false

/-- The examination of one interval (R81): none when it is removed. -/
def State.examine (s : State) (n : Nat) (iv : Interval) : Option Interval :=
  match iv.stop with
  | some t =>
    if t ≤ s.clock then (if s.holdsInterval n iv then some { iv with stop := none } else none) else some iv
  | none => if s.holdsInterval n iv then some iv else none

/-- The examination of every interval of a line second (R81). -/
def State.examineAll (s : State) : State :=
  allStations.foldl (fun t n => t.setTimeline n ((t.timeline n).filterMap (t.examine n))) s

/-- The examination of the interval at one position of a timeline (R81). -/
def State.examineAt (s : State) (n i : Nat) : State :=
  match (s.timeline n)[i]? with
  | some iv =>
    match s.examine n iv with
    | some iv' => s.setTimeline n ((s.timeline n).set i iv')
    | none => s.setTimeline n ((s.timeline n).eraseIdx i)
  | none => s

/-! ### The placement walk (R83 to R90) -/

/-- What a walk books for: the rack's slot and recipe, the number of the stay its chain starts with, whether it is an
evacuation (with its drain), whether it is an admission. -/
structure Trip where
  slot      : Nat
  first     : Nat
  steps     : List Step
  scale     : Nat
  evac      : Bool
  evacDrain : Nat
  admission : Bool
  deriving DecidableEq, Repr

/-- Where a chain under construction stands: station, step index, immersion second there, the from second of its interval
there (if it has one), whether a move has been accepted, the predicted completion of the rack, and what was accepted. -/
structure Cursor where
  station   : Nat
  step      : Nat
  immersion : Nat
  stayFrom  : Option Nat
  placed    : Bool
  predicted : Nat
  entries   : List Entry
  stays     : List (Nat × Interval)
  deriving DecidableEq, Repr

/-- Stations a walk tries for a group (R83). -/
def State.tripStations (s : State) (w : Trip) (g : Nat) : List Nat :=
  (s.groupStations g).filter fun n => if w.admission then s.isOpen n else s.isUsable n

/-- UNLOAD stations a walk tries for the last move (R83). -/
def State.tripUnloads (s : State) (w : Trip) : List Nat :=
  s.unloads.filter fun n => if w.admission then s.isOpen n else s.isClear n

/-- The start of the move out of the cursor's station for candidate `e` and move duration `m` (R50, R84, R90). -/
def State.tripStart (s : State) (w : Trip) (e : Nat) (c : Cursor) (m : Nat) : Nat :=
  if w.evac then e
  else
    match stepAt w.steps c.step with
    | none => e
    | some st =>
      match st.kind with
      | .bath =>
        if c.placed then addSec c.immersion st.immersion
        else max e (addSec s.clock (st.immersion - (s.clock - c.immersion)))
      | .develop =>
        if c.placed then
          let r := (s.stationRate c.station (s.stepCurve st)).rate
          max (addSec c.immersion 1) (addSec c.immersion (ceilDiv (targetOf st.nominal w.scale) r) - m)
        else max e (liftStart s.clock c.predicted m)

/-- The kind of the move out of step `k` (R74). -/
def Trip.kind (w : Trip) (k : Nat) (last : Bool) : MoveKind :=
  if w.evac then .evacuate else if k = 0 then .entry else if last then .exit else .transfer

/-- The drain of the move out of step `k` (R7, R90). -/
def Trip.drain (w : Trip) (k : Nat) : Nat :=
  if w.evac then w.evacDrain else ((stepAt w.steps k).map (·.drain)).getD 0

/-- The move out of step `k` is firm (R74). -/
def Trip.firm (w : Trip) (k : Nat) : Bool :=
  !w.evac && match stepAt w.steps k with | some st => st.kind == .develop | none => false

/-- The intervals at a station that the chain does not replace: those of other racks, and the rack's own of the stations it
came from, which stay in their timelines (R79, R80; notes/assumptions/35.md). -/
def State.foreign (s : State) (w : Trip) (n : Nat) : List Interval :=
  (s.timeline n).filter fun iv => !(iv.slot == w.slot && decide (w.first ≤ iv.step))

/-- The intervals of the chain under construction at a station. -/
def Cursor.staysAt (c : Cursor) (n : Nat) : List Interval := (c.stays.filter (·.1 == n)).map (·.2)

/-- An interval of the chain covers no second of an interval that stays at its station, nor of one the chain has there
already (R80, R85, R87). -/
def State.stayFits (s : State) (w : Trip) (c : Cursor) (n : Nat) (iv : Interval) : Bool :=
  !(s.foreign w n ++ c.staysAt n).any iv.meets

/-- A rack hangs at the station and no interval of its timeline covers the present second (R86). -/
def State.untracked (s : State) (n : Nat) : Bool :=
  (s.bath n).presence && !(s.timeline n).any fun iv => iv.covers s.clock

/-- The station is occupied at a second by another rack (R85 check 5, R86). -/
def State.occupied (s : State) (w : Trip) (n t : Nat) : Bool :=
  s.untracked n || (s.foreign w n).any fun iv => iv.covers t

/-- The stay at the cursor's station, its end fixed by a move that starts at `start` with drain `d` (R79, R90). -/
def Cursor.stay (c : Cursor) (tl : Nat) (w : Trip) (from_ start d : Nat) : Interval :=
  { slot := w.slot, start := from_, stop := some (addSec start (tl + d)),
    purpose := if c.step = 0 then .loadWait else .immerse, step := c.step }

/-- The UNLOAD_HOLD interval of a move (R79). -/
def holdInterval (hold : Nat) (m : Entry) : Interval :=
  { slot := m.slot, start := m.start, stop := some (addSec m.start (m.duration + hold)), purpose := .unloadHold,
    step := m.index + 1 }

/-- The capacity check of R88 for a move to `x`. -/
def State.capacity (s : State) (w : Trip) (c : Cursor) (x : Nat) : Option WalkReason :=
  let here := if c.stayFrom.isSome then 1 else 0
  if Config.scheduleCapacity < s.schedule.length + c.entries.length + 1 then some .scheduleFull
  else if Config.timelineCapacity < (s.foreign w c.station).length + (c.staysAt c.station).length + here then some .timelineFull
  else if Config.timelineCapacity <
      (s.foreign w x).length + (c.staysAt x).length + (if c.station = x then here else 0) + 1 then some .timelineFull
  else none

/-- One station tried for the next step of a chain, with the checks of R85 in their order and R87 for the last move. -/
def State.tryStation (s : State) (w : Trip) (e : Nat) (c : Cursor) (last : Bool) (x : Nat) : Except WalkReason Cursor :=
  match s.capacity w c x with
  | some r => .error r
  | none =>
    let cfg := s.cfg.line
    let d := w.drain c.step
    let start := s.tripStart w e c (moveDuration cfg c.station x d)
    let m := mkEntry cfg w.slot c.step c.station x (w.kind c.step last) (w.firm c.step) start d
    let here := c.stayFrom.map fun t => c.stay cfg.tl w t start d
    let left := { c with stays := c.stays ++ (here.map fun iv => (c.station, iv)).toList }
    if !here.all (s.stayFits w c c.station) then .error .station
    else if !fits cfg.tp s.clock s.carriageAt (s.schedule ++ c.entries) m then .error .carriage
    else if s.occupied w x start then .error .station
    else
      let hold := holdInterval cfg.hold m
      if last && !s.stayFits w left x hold then .error .station
      else
        .ok { station := x, step := c.step + 1, immersion := addSec start m.duration, stayFrom := some start,
              placed := true, predicted := c.predicted, entries := c.entries ++ [m],
              stays := if last then left.stays ++ [(x, hold)] else left.stays }

/-- The eligible stations tried in turn; the reason is that of the last one rejected, STATION when there is none (R85,
R88). -/
def State.tryStations (s : State) (w : Trip) (e : Nat) (c : Cursor) (last : Bool) :
    List Nat → WalkReason → Except WalkReason Cursor
  | [], r => .error r
  | x :: xs, _ =>
    match s.tryStation w e c last x with
    | .ok c' => .ok c'
    | .error r => s.tryStations w e c last xs r

/-- The chain of a candidate: the remaining steps, then the UNLOAD station (R84 to R87). -/
def State.buildChain (s : State) (w : Trip) (e : Nat) : List Step → Cursor → Except WalkReason Cursor
  | [], c => s.tryStations w e c true (s.tripUnloads w) .station
  | st :: rest, c =>
    match s.tryStations w e c false (s.tripStations w st.group) .station with
    | .ok c' => s.buildChain w e rest c'
    | .error r => .error r

/-- The candidates from `e` on, `n` of them after the first (R83). -/
def State.walkFrom (s : State) (w : Trip) (c : Cursor) (rest : List Step) : Nat → Nat → Except WalkReason Cursor
  | 0, e => s.buildChain w e rest c
  | n + 1, e =>
    match s.buildChain w e rest c with
    | .ok c' => .ok c'
    | .error _ => s.walkFrom w c rest n (addSec e 1)

/-- The walk of a trip from candidate `t0` over the search window (R83). -/
def State.walk (s : State) (w : Trip) (c : Cursor) (t0 : Nat) : Except WalkReason Cursor :=
  s.walkFrom w c (if w.evac then [] else w.steps.drop c.step) s.cfg.line.window t0

/-- The chain that passed is booked in the same event (R89): its moves in their places, its intervals in the place of the
rack's own from stay number `first` on, the rack out of the deferred set, its planned start written. The chain holds all the
moves the rack still has (R84, R90), so it stands for every BOOKED entry of the rack; a rack that is placed has none
(R67, R105, R108). -/
def State.bookChain (s : State) (slot first : Nat) (c : Cursor) : State :=
  let t := { s with
    schedule := c.entries.foldl (fun l m => insertEntry m l) (dropBooked slot s.schedule)
    deferred := s.deferred.filter (·.slot != slot) }
  let t := c.stays.foldl (fun u e => u.addInterval e.1 e.2) (t.removeStaysFrom slot first)
  t.noteStart slot

/-! ### Walks for a rack on the line -/

/-- The source of a rack's next move: its current station, or the station the at-station code shows for a rack on the hook
(R90). Which station that is while the code is 0 the manual leaves open; the model takes the one R76 takes for the
carriage's position (notes/assumptions/34.md). -/
def State.sourceOf (s : State) (r : Rack) : Nat := if r.phase = .onCarriage then s.carriageAt else r.station

/-- The cursor at which a rack on the line starts. -/
def State.cursorOf (s : State) (slot : Nat) (r : Rack) : Cursor :=
  { station := s.sourceOf r, step := r.step, immersion := r.immersion.getD s.clock,
    stayFrom :=
      if r.phase = .onCarriage then none
      else ((s.timeline r.station).find? fun iv => iv.isStay slot r.step).map (·.start),
    placed := false, predicted := r.predicted.getD s.clock, entries := [], stays := [] }

/-- The trip of a re-placement (R83). -/
def State.replaceTrip (s : State) (slot : Nat) (r : Rack) : Trip :=
  { slot := slot, first := r.step, steps := s.stepsOf r, scale := r.scale, evac := false, evacDrain := 0, admission := false }

/-- The trip of an evacuation: the drain of the step the rack stands in, 0 for an orphan or a rack on the hook (R90). -/
def State.evacTrip (s : State) (slot : Nat) (r : Rack) : Trip :=
  { slot := slot, first := r.step, steps := s.stepsOf r, scale := r.scale, evac := true,
    evacDrain := if r.phase = .onCarriage then 0 else s.drainOf r, admission := false }

/-- A walk for a rack on the line, from the next second on (R83, R90): none when no candidate passes. -/
def State.placeRack (s : State) (slot : Nat) (evac : Bool) : Option State :=
  match s.rack slot with
  | some r =>
    match s.walk (if evac then s.evacTrip slot r else s.replaceTrip slot r) (s.cursorOf slot r) (addSec s.clock 1) with
    | .ok c => some (s.bookChain slot r.step c)
    | .error _ => none
  | none => none

/-- A rack joins the deferred set, at its end and once (R91). -/
def State.joinDeferred (s : State) (slot : Nat) (kind : MoveKind) : State :=
  { s with deferred := s.deferred.filter (·.slot != slot) ++ [{ slot := slot, kind := kind, second := s.clock }] }

/-- An evacuation is placed, or joins the deferred set with kind EVACUATE (R67, R111). The Bool says which. -/
def State.placeEvacuation (s : State) (slot : Nat) : State × Bool :=
  match s.placeRack slot true with
  | some t => (t, true)
  | none => (s.joinDeferred slot .evacuate, false)

/-- A rack on the hook waits in the deferred set for its evacuation (R106, R111). -/
def State.hookedWaits (s : State) : Bool :=
  s.deferred.any fun d => match s.rack d.slot with | some r => r.phase == .onCarriage | none => false

/-- The walk of one rack of the deferred set (R106): skipped while another rack on the hook waits. -/
def State.retry (s : State) (d : Deferred) : State :=
  match s.rack d.slot with
  | some r =>
    if s.hookedWaits && r.phase != .onCarriage then s
    else (s.placeRack d.slot (d.kind == .evacuate)).getD s
  | none => s

/-- The re-placement pass of a line second, in the order the racks joined (R106). -/
def State.retryAll (s : State) : State := s.deferred.foldl State.retry s

/-- A due move is deferred (R105). -/
def State.deferMove (s : State) (e : Entry) (cause : Nat) : State :=
  match s.rack e.slot with
  | some r =>
    let t := ((s.removeBooked e.slot).removeLaterIntervals e.slot r.step).openStay e.slot r.step
    let t := t.joinDeferred e.slot e.kind
    (t.noteStart e.slot).postRack .moveDeferred e.dst e.slot cause
  | none => s.removeBooked e.slot

/-- Schedule, timelines, deferred set and evacuation order are cleared, and no rack has a planned start (R53, R108). -/
def State.clearPlanner (s : State) : State :=
  { s with schedule := [], timelines := s.timelines.map fun _ => [], deferred := [], evacOrder := [],
           slots := s.slots.map fun o => o.map fun r => { r with nextStart := none } }

end Sys2Proof.Machine
end

