-- ==== Sys2Proof/Machine/Slides.lean ====
section
/-! DEFINITION. Firm-move slides (R101 to R103): what the Planner does with a lift-start offer of the Integrator. -/

namespace Sys2Proof.Machine

/-- The entry is the booked firm one of a rack's move `index`. -/
def Entry.firmFor (slot index : Nat) (e : Entry) : Bool := e.bookedFor slot && e.firm && e.index == index

/-- A timeline in order of from second (R80). -/
def sortIntervals (l : List Interval) : List Interval := l.foldl (fun t iv => insertInterval iv t) []

/-- The timeline as it is held, an OPEN end reaching up to the next from second (R80; notes/assumptions/18.md). -/
def heldEnds : List Interval → List Interval
  | [] => []
  | [i] => [i]
  | i :: j :: rest => { i with stop := some (i.stop.getD j.start) } :: heldEnds (j :: rest)

/-- The interval at the source of a firm entry for planned start `p` (R101). -/
def moveSourceStay (tl drain p : Nat) (iv : Interval) : Interval := { iv with stop := some (addSec p (tl + drain)) }

/-- The interval at the destination of a firm entry of duration `m` for planned start `p` (R101). -/
def moveDestStay (hold m p : Nat) (iv : Interval) : Interval :=
  { iv with start := p,
            stop := if iv.purpose = Purpose.unloadHold then some (addSec p (m + hold)) else iv.stop }

/-- Every interval of a timeline that a test picks, changed by `f`, overlaps no other interval of it as it is held. -/
def movedFits (pick : Interval → Bool) (f : Interval → Interval) (l : List Interval) : Bool :=
  let others := (heldEnds l).filter fun iv => !pick iv
  (l.filter pick).all fun iv => !others.any (f iv).meets

/-- Neither moved interval of a firm entry overlaps another interval of its station at planned start `p` (R101). The two
overlap each other at one station. -/
def State.slideFits (s : State) (e : Entry) (p : Nat) : Bool :=
  e.src != e.dst &&
  movedFits (·.isStay e.slot e.index) (moveSourceStay s.cfg.line.tl e.drain p) (s.timeline e.src) &&
  movedFits (·.isStay e.slot (e.index + 1)) (moveDestStay s.cfg.line.hold e.duration p) (s.timeline e.dst)

/-- The intervals a test picks, changed by `f`, the timeline in order again. -/
def moveStays (pick : Interval → Bool) (f : Interval → Interval) (l : List Interval) : List Interval :=
  sortIntervals (l.map fun iv => if pick iv then f iv else iv)

/-- The planned start of the firm entry `e` becomes `p`; every other entry stays (R101). -/
def slideEntry (e : Entry) (p : Nat) (m : Entry) : Entry :=
  if Entry.firmFor e.slot e.index m then { m with start := p } else m

/-- The planned start of a firm entry becomes `p` and its intervals follow (R101). -/
def State.slideTo (s : State) (e : Entry) (p : Nat) : State :=
  let t := { s with schedule := s.schedule.map (slideEntry e p) }
  let t := t.setTimeline e.src
    (moveStays (·.isStay e.slot e.index) (moveSourceStay s.cfg.line.tl e.drain p) (t.timeline e.src))
  let t := t.setTimeline e.dst
    (moveStays (·.isStay e.slot (e.index + 1)) (moveDestStay s.cfg.line.hold e.duration p) (t.timeline e.dst))
  t.noteStart e.slot

/-! ### Re-booking (R102) -/

/-- A line second shifted by the offset from `old` to `new`. -/
def shiftSec (t old new : Nat) : Nat := min (t + new - old) Config.maxSecond

/-- An entry of the remaining chain shifted by a re-booking of the firm entry `e` to `p`; it keeps the width its span was
booked with, which is at least its duration (R75, R102). -/
def shiftEntry (guard : Nat) (e : Entry) (p : Nat) (m : Entry) : Entry :=
  if m.index = e.index then
    { m with start := p, spanStart := p - guard, spanEnd := addSec p (m.duration + guard) }
  else
    { m with start := shiftSec m.start e.start p, spanStart := shiftSec m.spanStart e.start p,
             spanEnd := addSec (shiftSec m.spanStart e.start p) (max (m.spanEnd - m.spanStart) m.duration) }

/-- An interval of the rack shifted by a re-booking of the firm entry `e` to `p` (R102). -/
def shiftStay (tl : Nat) (e : Entry) (p : Nat) (iv : Interval) : Interval :=
  if iv.slot = e.slot ∧ iv.step = e.index then moveSourceStay tl e.drain p iv
  else if iv.slot = e.slot ∧ e.index < iv.step then
    { iv with start := shiftSec iv.start e.start p, stop := iv.stop.map fun t => shiftSec t e.start p }
  else iv

/-- The interval is one that a re-booking of the firm entry `e` shifts. -/
def shifted (e : Entry) (iv : Interval) : Bool := iv.slot == e.slot && decide (e.index ≤ iv.step)

/-- Every shifted interval of a timeline overlaps no other one, an OPEN end reaching without end (R102). -/
def shiftedFits (e : Entry) (l : List Interval) : Bool :=
  (l.filter (shifted e)).all fun iv =>
    !(l.filter fun o => !o.isStay iv.slot iv.step).any iv.meets

/-- The re-booking of the remaining chain for an offer `p`, where every check passes (R102). -/
def State.rebook (s : State) (e : Entry) (p : Nat) : Option State :=
  let moved := (s.schedule.filter (Entry.bookedFor e.slot)).map (shiftEntry s.cfg.line.guard e p)
  let plan := moved.foldl (fun l m => insertEntry m l) (dropBooked e.slot s.schedule)
  let lines := s.timelines.map fun l => sortIntervals (l.map (shiftStay s.cfg.line.tl e p))
  if moved.all (fun m => fits s.cfg.line.tp s.clock s.carriageAt (plan.erase m) m) &&
      lines.all (shiftedFits e) then
    some (({ s with schedule := plan, timelines := lines }).noteStart e.slot)
  else none

/-! ### Refusal (R103) -/

/-- The value nearest to `p`, going toward the planned start over at most `n` seconds, at which the intervals fit. -/
def State.nearestFit (s : State) (e : Entry) : Nat → Nat → Nat
  | 0, _ => e.start
  | n + 1, p =>
    if s.slideFits e p then p
    else s.nearestFit e n (if p < e.start then p + 1 else p - 1)

/-- The offer brought into the range of a firm entry (R103). -/
def intoRange (e : Entry) (p : Nat) : Nat := max e.spanStart (min p (e.spanEnd - e.duration))

/-- The slide is refused: the planned start goes as near to the offer as it can, or stays, the rack gets SLIDE_REFUSED, and
the event is posted once for a step (R103). -/
def State.refuseSlide (s : State) (e : Entry) (p : Nat) : State :=
  let q := intoRange e p
  let near := s.nearestFit e ((q - e.start) + (e.start - q)) q
  let t := if near = e.start then s else s.slideTo e near
  match t.rack e.slot with
  | some r =>
    let u := t.setRack e.slot { r with flags := { r.flags with slideRefused := true }, slideMark := e.index }
    if r.slideMark = e.index then u else u.postRack .slideRefused e.src e.slot e.index
  | none => t

/-! ### Offers (R47, R101) -/

/-- The offer lies in the range of the entry (R101). -/
def inSpan (e : Entry) (p : Nat) : Bool := decide (e.spanStart ≤ p) && decide (p ≤ e.spanEnd - e.duration)

/-- The Planner takes an offer `p` for a firm entry (R101 to R103). -/
def State.takeOffer (s : State) (e : Entry) (p : Nat) : State :=
  if e.start ≤ s.clock ∨ p = e.start then s
  else if inSpan e p && s.slideFits e p then s.slideTo e p
  else (s.rebook e p).getD (s.refuseSlide e p)

/-- The Integrator offers the lift start of a rack it has just predicted for, where the rack's next move is a booked firm
entry (R47). -/
def State.offer (s : State) (slot : Nat) : State :=
  match s.rack slot with
  | some r =>
    match r.predicted, s.schedule.find? (Entry.firmFor slot r.step) with
    | some c, some e => s.takeOffer e (liftStart s.clock c e.duration)
    | _, _ => s
  | none => s

end Sys2Proof.Machine
end

