-- ==== Sys2Proof/Machine/Tracker.lean ====
section
/-! DEFINITION. The Rack Tracker (chapter Racks): new records, the end of a rack, the completion queue, presence falls,
orphans, and ABANDON of a standing rack. -/

namespace Sys2Proof.Machine

/-! ### New records (R58, R70, R33) -/

/-- A record with the Integrator's fields, flags and markers as a slot is given with (R33, R58, R70, R103, R107). -/
def Rack.fresh (tag : Nat) (recipe : Option Nat) (scale load loadStation : Nat) (phase : Phase) (station : Nat)
    (nextStart : Option Nat) (now : Nat) : Rack :=
  { tag := tag, recipe := recipe, scale := scale, load := load, loadStation := loadStation, phase := phase, step := 0,
    station := station, immersion := none, dose := 0, target := 0, rate := 0, heldRate := 0, predicted := none,
    deviations := [], nextStart := nextStart, flags := {}, pending := .none, admitted := now, entered := none,
    unload := none, ended := none, outcome := .none, slideMark := 0, overMark := 0, lift := none }

/-- The orphan record of a station (R70). -/
def Rack.orphanAt (n now : Nat) : Rack := Rack.fresh 0 none 0 0 0 .orphan n none now

/-- An orphan record is made for a station that shows presence (R70). -/
def State.findOrphan (s : State) (n : Nat) : State :=
  match s.lowestFree with
  | some k => (s.setRack k (.orphanAt n s.clock)).post .orphanFound n k 0 0
  | none => s

/-- A station whose presence makes an orphan at full reset (R70). -/
def Role.keepsOrphan : Role → Bool
  | .develop | .bath | .unload => true
  | .unused | .load => false

/-- The first presence sample of a station after the load (R70). -/
def State.firstPresence (s : State) (n : Nat) : State := s.setBath n { s.bath n with presence := (s.pin n).presence }

/-- The first presence samples after the load, and the orphans they show, in ascending stations (R70). The other stations keep
the sample they have (notes/assumptions/30.md). -/
def State.createOrphans (s : State) : State :=
  let sampled := s.stations.filter fun n => (s.role n).keepsOrphan
  let found := sampled.filter fun n => (s.pin n).presence
  found.foldl State.findOrphan (sampled.foldl State.firstPresence s)

/-! ### The completion queue (R64, R65) -/

/-- The completion record of a rack as it stands (R64). -/
def Rack.completion (r : Rack) : Completion :=
  { tag := r.tag, recipe := r.recipe.getD 0, scale := r.scale, load := r.load, admitted := r.admitted,
    entered := r.entered, unload := r.unload, removed := r.ended.getD 0, outcome := r.outcome, flags := r.flags,
    deviations := r.deviations }

/-- The record of an ended rack enters the queue and its slot is freed, or the rack awaits report (R59). -/
def State.fileRack (s : State) (k : Nat) (r : Rack) : State :=
  if s.completions.length < Config.completionCapacity then
    { s with completions := s.completions ++ [r.completion] }.freeSlot k
  else s.setRack k { r with phase := .awaitingReport }

/-- The slots AWAITING_REPORT, ascending. -/
def State.awaiting (s : State) : List Nat :=
  (s.racks.filter fun e => e.2.phase == .awaitingReport).map (·.1)

/-- A waiting rack's record enters the queue where there is room (R65). -/
def State.fileWaiting (s : State) (k : Nat) : State :=
  match s.rack k with
  | some r => if s.completions.length < Config.completionCapacity then s.fileRack k r else s
  | none => s

/-- The places made by READ COMPLETIONS are filled in slot order (R65). -/
def State.fillCompletions (s : State) : State := s.awaiting.foldl State.fileWaiting s

/-! ### The end of a rack (R59, R72) -/

/-- A rack leaves the evacuation order; EVACUATION_DONE is posted when the order becomes empty (R112). -/
def State.leaveEvacuation (s : State) (k : Nat) : State :=
  if s.evacOrder.contains k then
    let t := { s with evacOrder := s.evacOrder.filter (· != k) }
    if t.evacOrder.isEmpty then t.postLine .evacuationDone 0 0 else t
  else s

/-- What the end of a rack or of a move may bring about: EVACUATION_DONE, the return to READY, the end of a drain (R112,
R149). -/
def State.settleLine (s : State) (k : Nat) : State := ((s.leaveEvacuation k).judgeRecovery).judgeDrain

/-- The bookings and plans of a rack that ends are removed, and the open valve of its station closes (R59, R114, R124). -/
def State.forgetRack (s : State) (k : Nat) (r : Rack) : State :=
  let t := (((s.setValve r.station false).removeBooked k).removeIntervals k).dropPlan k
  { t with deferred := t.deferred.filter (·.slot != k) }

/-- The record of a rack ended with an outcome in second `now` (R59). -/
def Rack.endedWith (r : Rack) (outcome : RackOutcome) (now : Nat) : Rack :=
  { r with ended := some now, station := 0, outcome := outcome, nextStart := none }

/-- A rack with a recipe ends at `station`, 0 on the hook (R59). -/
def State.endRack (s : State) (k station : Nat) (outcome : RackOutcome) : State :=
  match s.rack k with
  | some r =>
    let q := r.endedWith outcome s.clock
    let t := ((s.forgetRack k r).setRack k q).post .rackRemoved station k r.tag outcome.code
    (t.fileRack k q).settleLine k
  | none => s

/-- An orphan ends at `station`, 0 on the hook, without a record (R72). -/
def State.endOrphan (s : State) (k station : Nat) : State :=
  match s.rack k with
  | some r => (((s.forgetRack k r).freeSlot k).post .rackRemoved station k 0 RackOutcome.none.code).settleLine k
  | none => s

/-- The rack that was on the carriage is lost (R110, R72). -/
def State.loseCarried (s : State) (k : Nat) (r : Rack) : State :=
  if r.recipe.isNone then s.endOrphan k 0 else s.endRack k 0 .lost

/-! ### Presence (R2, R60 to R63, R72) -/

/-- The outcome of a rack taken off its UNLOAD station (R60). -/
def Rack.unloadOutcome (r : Rack) : RackOutcome := if r.pending = .none then .complete else r.pending

/-- A fall of presence at a station (R60 to R63, R72). -/
def State.presenceFall (s : State) (n : Nat) : State :=
  if s.role n = .unused then s
  else
    match s.rackAt n with
    | some (k, r) =>
      match r.phase with
      | .atUnload => s.endRack k n r.unloadOutcome
      | .waitingEntry => s.endRack k n .withdrawn
      | .inBath => s.endRack k n .lost
      | .orphan => s.endOrphan k n
      | .onCarriage | .awaitingReport => s
    | none => s

/-- The presence sample of one station (R2). -/
def State.samplePresence (s : State) (n : Nat) : State :=
  let was := (s.bath n).presence
  let t := s.setBath n { s.bath n with presence := (s.pin n).presence }
  if was && !(s.pin n).presence then t.presenceFall n else t

/-- The presence samples of one line second, in ascending stations. -/
def State.samplePresences (s : State) : State := allStations.foldl State.samplePresence s

/-! ### ABANDON of a standing rack (R67) -/

/-- The pending outcome becomes ABANDONED, unless it is INTERRUPTED (R67, R68). -/
def Rack.abandoned (r : Rack) : Rack := { r with pending := if r.pending = .interrupted then .interrupted else .abandoned }

/-- Everything booked for the standing rack `r` of a slot is removed but its present stay, whose end becomes OPEN, and the
rack leaves the deferred set (R67). -/
def State.clearStanding (s : State) (k : Nat) (r : Rack) : State :=
  let t := ((s.removeBooked k).keepStay k r.station r.step).openStay k r.step
  { t with deferred := t.deferred.filter (·.slot != k) }.noteStart k

/-- In READY or DRAINING a standing rack's bookings are removed and one evacuation is placed; elsewhere only the pending
outcome is set (R67). The Bool says whether the evacuation was booked. -/
def State.abandonStanding (s : State) (k : Nat) : State × Bool :=
  match s.rack k with
  | some r =>
    let t := s.setRack k r.abandoned
    if s.line.state = .ready ∨ s.line.state = .draining then (t.clearStanding k r).placeEvacuation k else (t, false)
  | none => (s, false)

end Sys2Proof.Machine
end

