-- ==== Sys2Proof/Machine/Carriage.lean ====
section
/-! DEFINITION. The Carriage Driver (chapter Carriage Execution): carriage faults, approach, the four phases of a move,
its start and end notices. -/

namespace Sys2Proof.Machine

/-! ### Carriage faults (R108, R109, R150, R69) -/

/-- The EXECUTING entry (R77). -/
def State.executing (s : State) : Option Entry := s.schedule.find? (·.executing)

/-- The slot and tag a carriage fault names: the rack whose move was executing, else the rack on the hook, else 255 and 0
(R108). -/
def State.faultRack (s : State) : Nat × Nat :=
  match s.executing with
  | some e => (e.slot, s.tagOf e.slot)
  | none =>
    match s.carried with
    | some (k, r) => (k, r.tag)
    | none => (255, 0)

/-- The Driver without entry, timers and up-limit second. -/
def Driver.rest (d : Driver) (st : DriverState) : Driver :=
  { d with state := st, entry := none, phaseStart := none, deadline := none, upSecond := none }

/-- A rack in a bath or on the carriage is marked INTERRUPTED (R69). -/
def Rack.interrupt (r : Rack) : Rack :=
  { r with flags := { r.flags with interrupted := true }, pending := .interrupted }

/-- What the Tracker does with one slot on the fault notice (R69). -/
def State.interruptRack (s : State) (k : Nat) : State :=
  match s.rack k with
  | some r =>
    match r.phase with
    | .inBath | .onCarriage => s.setRack k r.interrupt
    | .orphan => if s.standsInBath r then s.setRack k r.interrupt else s
    | .waitingEntry => s.endRack k r.station .withdrawn
    | .atUnload | .awaitingReport => s
  | none => s

/-- The fault notice taken by the Line State Controller, the Planner and the Tracker (R69, R108, R109, R150). The racks are
taken in ascending slot (notes/assumptions/40.md). -/
def State.faultNotice (s : State) : State :=
  match s.line.state with
  | .ready | .draining | .warmup =>
    allSlots.foldl State.interruptRack (((s.setDrainTarget none).enterLine .faulted .fault).clearPlanner)
  | .faulted => { s with driver := { s.driver with faultCleared := false } }.clearPlanner
  | .dormant | .standby => s

/-- A carriage fault (R108). -/
def State.carriageFault (s : State) (code : FaultCode) (station : Nat) : State :=
  let who := s.faultRack
  let t := { s with driver := s.driver.rest .stopped, line := { s.line with carriageFault := true } }
  (t.post .carriageFault station who.1 who.2 code.code).faultNotice

/-! ### Approach (R95) -/

/-- The approach to station `n` begins, or turns to it, in the present second; a code that shows it already ends the
approach at once (R95; notes/assumptions/15.md). Go-to-station changes only while the hoist reads a limit, so away from
both the Driver stays as it is until it turns again (R4; notes/assumptions/36.md). -/
def State.approach (s : State) (key : Nat × Nat) (n from_ : Nat) : State :=
  let d := s.driver
  if s.atLimit = false then s
  else if s.standsAt n then
    { s with driver := { d.rest .waiting with goTo := n, position := n, entry := some key } }
  else
    { s with driver := { d with
        state := .approaching, goTo := n, entry := some key, phaseStart := some s.clock, approachFrom := from_,
        deadline := some (addSec s.clock (travelTime s.cfg.line.tp from_ n + s.cfg.line.margin)) } }

/-- The Driver turns to the first entry of the schedule (R95). While a rack on the hook waits in the deferred set for its
evacuation the carriage stays where it is (R105; notes/assumptions/37.md). -/
def State.turn (s : State) : State :=
  let d := s.driver
  match d.state with
  | .idle | .waiting =>
    match s.schedule.head? with
    | none => { s with driver := d.rest .idle }
    | some e =>
      if e.src = d.position ∨ s.hookedWaits then
        { s with driver := { d.rest .waiting with entry := some (e.slot, e.index) } }
      else s.approach (e.slot, e.index) e.src d.position
  | .approaching =>
    match s.schedule.head? with
    | none => { s with driver := { d with entry := none } }
    | some e =>
      if d.entry = some (e.slot, e.index) then s else s.approach (e.slot, e.index) e.src d.approachFrom
  | .raise | .drain | .travel | .lower | .stopped => s

/-- The approach is complete (R95). -/
def State.endApproach (s : State) : State :=
  let d := s.driver
  if d.entry.isSome then { s with driver := { d.rest .waiting with position := d.goTo, entry := d.entry } }
  else { s with driver := { d.rest .idle with position := d.goTo } }

/-! ### The end of a move (R100, R55, R56, R39, R43) -/

/-- The EXECUTING entry leaves the schedule (R77). -/
def State.dropExecuting (s : State) : State := { s with schedule := s.schedule.filter fun e => !e.executing }

/-- The DEVELOP step whose development the end notice of a move ends (R43). -/
def State.endingStep (s : State) (r : Rack) : Option Step := if r.phase = .onCarriage then s.developing r else none

/-- The record after the end of its development, if it was in one (R43, R44). -/
def Rack.finish (r : Rack) : Option Step → Rack
  | some st =>
    let q := r.endDevelopment
    if r.outOfTolerance st.tolerance then { q with flags := { q.flags with devOutOfTol := true } } else q
  | none => r

/-- DEV_OUT_OF_TOL is posted for the development of `r` that ended in `n` (R44). -/
def State.postDeviation (s : State) (k n : Nat) (r : Rack) : Option Step → State
  | some st => if r.outOfTolerance st.tolerance then s.post .devOutOfTol n k r.tag r.step else s
  | none => s

/-- The record of a rack lowered into a bath (R55). -/
def Rack.enterBath (r : Rack) (n now : Nat) (entry : Bool) : Rack :=
  { r with phase := .inBath, station := n, step := r.step + 1, immersion := some now,
           entered := if entry then some now else r.entered }

/-- The record of a rack lowered at an UNLOAD station (R56). -/
def Rack.reachUnload (r : Rack) (n now steps : Nat) : Rack :=
  if r.recipe.isNone then { r with phase := .orphan, station := n, unload := some now, step := 0 }
  else { r with phase := .atUnload, station := n, unload := some now, step := steps + 1 }

/-- A development begins where the rack's new step is a DEVELOP step, with the first prediction and its offer (R39, R46,
R47). -/
def State.beginDevelopment (s : State) (k : Nat) : State :=
  match s.rack k with
  | some r =>
    match s.developing r with
    | some st =>
      let q := s.stationRate r.station (s.stepCurve st)
      (s.setRack k (r.beginDevelopment s.clock (targetOf st.nominal r.scale) q)).offer k
    | none => s
  | none => s

/-- The end notice at a DEVELOP or BATH station: Tracker, then Integrator, then the dunk plan (R55, R43, R39, R114). -/
def State.enterBath (s : State) (e : Entry) (r : Rack) : State :=
  let st := s.endingStep r
  let entry := e.kind == .entry
  let t := (s.setRack e.slot ((r.finish st).enterBath e.dst s.clock entry)).noteStart e.slot
  let t := if entry then t.post .rackEntered e.dst e.slot r.tag 0 else t
  let t := t.postDeviation e.slot e.dst r st
  let t := if r.pending = .abandoned then (t.abandonStanding e.slot).1 else t
  (t.beginDevelopment e.slot).createPlan e.slot

/-- The end notice at an UNLOAD station (R56, R43). -/
def State.reachUnload (s : State) (e : Entry) (r : Rack) : State :=
  let st := s.endingStep r
  let t := (s.setRack e.slot ((r.finish st).reachUnload e.dst s.clock (s.stepsOf r).length)).noteStart e.slot
  (t.post .rackAtUnload e.dst e.slot r.tag 0).postDeviation e.slot e.dst r st

/-- The end notice reaches the Integrator before its work for the second: an ending development gets the held rate for that
second at the notice, and the work finds nothing more to do for the rack (R39, R43). -/
def State.settleAccrual (s : State) (k : Nat) : State :=
  if s.accrualDue.contains k then
    { s with accrualDue := s.accrualDue.filter (· != k) }.modifyRack k fun r =>
      if (s.endingStep r).isSome then r.accrueHeld else r
  else s

/-- The move has ended: end notices, what they bring about for the line, and the approach to the next entry (R100,
R112, R149, R95). -/
def State.endMove (s : State) (e : Entry) : State :=
  let t := { s with driver := s.driver.rest .idle }.dropExecuting.settleAccrual e.slot
  let t := match t.rack e.slot with
    | some r => if t.isBath e.dst then t.enterBath e r else t.reachUnload e r
    | none => t
  let t := if e.kind = .evacuate then t.leaveEvacuation e.slot else t
  ((t.judgeRecovery).judgeDrain).turn

/-! ### The phases (R97 to R100) -/

/-- LOWER ends: the carriage is judged (R100). -/
def State.endLower (s : State) (e : Entry) : State :=
  if s.standsAt e.dst = false then s.carriageFault .position e.dst
  else if s.pins.hook then s.carriageFault .notReleased e.dst
  else s.endMove e

/-- A phase begins in the present second with the given expected time. -/
def State.beginPhase (s : State) (st : DriverState) (expected : Nat) : State :=
  { s with driver := { s.driver with
      state := st, phaseStart := some s.clock, deadline := some (addSec s.clock (expected + s.cfg.line.margin)) } }

/-- TRAVEL ends and LOWER begins (R99, R100). -/
def State.endTravel (s : State) (e : Entry) : State :=
  let t := { s with driver := { s.driver with position := e.dst } }.beginPhase .lower s.cfg.line.tw
  if t.pins.hoistDown then t.endLower e else t

/-- DRAIN ends: the carriage is judged and TRAVEL begins (R98, R99). The hoist is then held at its up-limit (R94), which is
not read again (notes/assumptions/36.md). -/
def State.endDrain (s : State) (e : Entry) : State :=
  if s.standsAt e.src = false then s.carriageFault .position e.src
  else
    let t := { s with driver := { s.driver with goTo := e.dst } }.beginPhase .travel
      (travelTime s.cfg.line.tp e.src e.dst)
    if t.standsAt e.dst then t.endTravel e else t

/-- RAISE ends: the carriage is judged and DRAIN begins (R97, R98). -/
def State.endRaise (s : State) (e : Entry) : State :=
  if s.standsAt e.src = false then s.carriageFault .position e.src
  else if !s.pins.hook then s.carriageFault .missedPick e.src
  else
    let t := { s with driver := { s.driver with upSecond := some s.clock } }.beginPhase .drain e.drain
    if e.drain = 0 then t.endDrain e else t

/-- RAISE begins (R97). -/
def State.beginRaise (s : State) (e : Entry) : State :=
  let t := { s with driver := { s.driver with entry := some (e.slot, e.index), upSecond := none } }.beginPhase .raise
    s.cfg.line.tl
  if t.pins.hoistUp then t.endRaise e else t

/-! ### The start of a move (R96, R104, R105) -/

/-- The entry is the evacuation of a rack on the hook. -/
def State.fromHook (s : State) (e : Entry) : Bool :=
  e.kind == .evacuate && match s.rack e.slot with | some r => r.phase == .onCarriage | none => false

/-- The line state lets a move begin (R96, condition 5). -/
def State.movesAllowed (s : State) : Bool :=
  match s.line.state with
  | .ready | .draining => true
  | .faulted => s.driver.faultCleared
  | .dormant | .standby | .warmup => false

/-- The five conditions of R96. -/
def State.startable (s : State) (e : Entry) : Bool :=
  decide (e.start ≤ s.clock) && s.standsAt e.src && s.pins.hook == s.fromHook e &&
  (!s.isBath e.src || (s.pin e.src).cradleDown) && s.movesAllowed

/-- The entry marked EXECUTING with its lateness (R96). -/
def startEntry (now : Nat) (e : Entry) : Entry := { e with executing := true, lateness := now - e.start }

/-- The first entry of the schedule becomes EXECUTING (R77, R96). -/
def State.markExecuting (s : State) : State :=
  match s.schedule with
  | e :: rest => { s with schedule := startEntry s.clock e :: rest }
  | [] => s

/-- The record after the start notice (R54, R41, R96), with the lift noted for the examination of its second (R107). -/
def State.liftedRack (s : State) (e : Entry) (r : Rack) : Rack :=
  let q := if r.phase = .inBath ∧ (s.developing r).isSome then r.hold else r
  { q with phase := .onCarriage, station := 0,
           lift := if r.phase = .inBath then some ⟨s.clock, r.station, r.step, r.immersion⟩ else r.lift,
           flags := { q.flags with lateMove := q.flags.lateMove || (e.firm && decide (e.start < s.clock)) } }

/-- The start notices of a move: Tracker and Integrator, then the Replenish Controller, and the plan and the burst of the
rack end (R54, R41, R136, R114, R124). -/
def State.startNotices (s : State) (e : Entry) : State :=
  match s.rack e.slot with
  | some r =>
    let t := (s.setRack e.slot (s.liftedRack e r)).noteStart e.slot
    let t := if r.station = e.src then t.liftReplenish e.slot e.src r.load else t
    (t.dropPlan e.slot).setValve r.station false
  | none => s

/-- A move begins (R96). -/
def State.beginMove (s : State) (e : Entry) : State := ((s.markExecuting).startNotices e).beginRaise e

/-- The destination check, then the start or the deferral (R104, R105). -/
def State.startOrDefer (s : State) (e : Entry) : State :=
  if (s.bath e.dst).presence then (s.deferMove e 0).turn
  else if s.cond e.dst .levelLow then (s.deferMove e 1).turn
  else s.beginMove e

/-- A WAITING Driver's move start (R96). -/
def State.moveStart (s : State) : State :=
  match s.schedule with
  | e :: _ => if s.driver.state = .waiting ∧ s.startable e then s.startOrDefer e else s
  | [] => s

/-! ### Carriage events -/

/-- The at-station code has changed (R95, R99; notes/assumptions/14.md). -/
def State.carriageArrival (s : State) : State :=
  let code := s.pins.atStation
  match s.driver.state with
  | .approaching =>
    if s.standsAt s.driver.goTo then s.endApproach.turn
    else if code = 0 then s else s.carriageFault .position s.driver.goTo
  | .travel =>
    match s.executing with
    | some e => if s.standsAt e.dst then s.endTravel e else if code = 0 then s else s.carriageFault .position e.dst
    | none => s
  | .idle | .waiting => if code = 0 then s else { s with driver := { s.driver with position := code } }.turn
  | .raise | .drain | .lower | .stopped => s

/-- The up-limit reads true: RAISE ends (R97), and a Driver that had to wait for a limit turns to its entry (R4, R95). -/
def State.upLimit (s : State) : State :=
  match s.driver.state, s.executing with
  | .raise, some e => if s.pins.hoistUp then s.endRaise e else s
  | .idle, _ | .waiting, _ | .approaching, _ => s.turn
  | _, _ => s

/-- The drain time has passed (R98). -/
def State.drainDue (s : State) : State :=
  match s.driver.state, s.executing, s.driver.upSecond with
  | .drain, some e, some u => if addSec u e.drain ≤ s.clock then s.endDrain e else s
  | _, _, _ => s

/-- The down-limit reads true: LOWER ends (R100), and a Driver that had to wait for a limit turns to its entry (R4, R95). -/
def State.downLimit (s : State) : State :=
  match s.driver.state, s.executing with
  | .lower, some e => if s.pins.hoistDown then s.endLower e else s
  | .idle, _ | .waiting, _ | .approaching, _ => s.turn
  | _, _ => s

/-- The hook input has fallen (R96, R98, R99, R108). -/
def State.hookFall (s : State) : State :=
  if s.pins.hook then s
  else
    match s.driver.state, s.executing with
    | .drain, some e => s.carriageFault .dropped e.src
    | .travel, some e => s.carriageFault .dropped e.dst
    | .stopped, _ => s
    | _, some _ => s
    | _, none => if s.carried.isSome then s.carriageFault .dropped s.driver.position else s

/-- The step of the Carriage Driver that is due as the inputs stand: the start of the first move, or the end of the phase or
approach it is in (R95 to R100). -/
def State.carriageStep (s : State) : State :=
  match s.driver.state, s.executing with
  | .waiting, _ => s.moveStart
  | .raise, _ => s.upLimit
  | .drain, _ => s.drainDue
  | .lower, _ => s.downLimit
  | .travel, some e => if s.standsAt e.dst then s.endTravel e else s
  | .approaching, _ => if s.standsAt s.driver.goTo then s.endApproach.turn else s
  | _, _ => s

/-- The phase or approach has outlasted its timeout (R95, R97, R99, R100, R108). The limit or code that would end it is not
read in this event (notes/assumptions/42.md). -/
def State.phaseTimeout (s : State) : State :=
  if (match s.driver.deadline with | some t => decide (t ≤ s.clock) | none => false) then
    match s.driver.state, s.executing with
    | .approaching, _ => s.carriageFault .phaseTimeout s.driver.goTo
    | .raise, some e => s.carriageFault .phaseTimeout e.src
    | .travel, some e => s.carriageFault .phaseTimeout e.dst
    | .lower, some e => s.carriageFault .phaseTimeout e.dst
    | _, _ => s
  else s

end Sys2Proof.Machine
end

