-- ==== Sys2Proof/Machine/Reset.lean ====
section
/-! DEFINITION. Power, RESET and full reset (R5, R16, R19), the start-up load, the end of a store write (R18). -/

namespace Sys2Proof.Machine

/-- The strap address of a strap value (R15). -/
def strapAddress (straps : Nat) : Nat := if within 1 straps 30 then straps else 1

/-- The unit address (R15). -/
def unitAddress (override straps : Nat) : Nat := if override = 0 then strapAddress straps else override

/-- The station a Driver takes at full reset from the at-station code (R4, R94). -/
def resetPosition (code : Nat) : Nat := if code = 0 then 1 else code

/-- A store write in progress stops where it stands: the image is the content captured, where `wrote` says that it had
been completely and correctly written, else it fails its check (R19; notes/assumptions/9.md). -/
def State.interruptStore (s : State) (wrote : Bool) : State :=
  match s.storeWrite with
  | some c => { s with nv := if wrote then .image c (crc16 c.bytes) else .damaged, storeWrite := none }
  | none => s

/-- Full reset: every block takes its full-reset state, the image and the waiting commands stay (R5, R15, R16, R94). -/
def State.fullReset (s : State) (run : RunState) (inp : Inputs) : State :=
  let p := resetPosition inp.atStation
  { State.reset with
    run := run, pins := inp, nv := s.nv, pending := s.pending
    link := { Link.reset with straps := inp.straps, addr := strapAddress inp.straps }
    driver := { Driver.reset with position := p, goTo := p, approachFrom := p } }

/-- Power is applied; RESET asserted at that moment holds the part (R5, R16). -/
def State.powerOn (s : State) (wrote : Bool) (inp : Inputs) : State :=
  (s.interruptStore wrote).fullReset (if inp.reset then .held else .loading .power) inp

/-- The part is stopped with every output released and takes nothing in (R5, R19, R155). -/
def State.halt (s : State) (run : RunState) (wrote : Bool) (inp : Inputs) : State :=
  { s.interruptStore wrote with
    run := run, pins := inp, out := .released, link := { s.link with path := .closed, rx := [], reply := none } }

/-- RESET is asserted (R5). -/
def State.resetAsserted (s : State) (wrote : Bool) (inp : Inputs) : State :=
  if s.run.live then s.halt .held wrote inp else s

/-- RESET is released (R5). -/
def State.resetReleased (s : State) (inp : Inputs) : State :=
  if s.run = .held then s.fullReset (.loading .pin) inp else s

/-- Power fails (R19). -/
def State.powerLoss (s : State) (wrote : Bool) (inp : Inputs) : State :=
  if s.run = .off then s else s.halt .off wrote inp

/-! ### Start-up load (R16) -/

/-- The settings of an image that passes its check (R16). -/
def NvImage.load : NvImage → Option Settings
  | .image c check => if crc16 c.bytes = check then some c else none
  | .blank | .damaged => none

/-- The link watchdog started in second `now` with a timeout (R162). -/
def Watchdog.start (timeout now : Nat) : Watchdog := if timeout = 0 then .off else .running (addSec now timeout)

/-- Every block receives its settings; the receive path opens (R15, R16, R119, R153, R155, R162, R166). -/
def State.takeSettings (s : State) (c : Settings) (defaulted : Bool) : State :=
  { s with
    run := .running, cfg := c, events := [], lost := 0
    line := { s.line with configDefaulted := defaulted }
    manifold := { s.manifold with staged := c.live, applyPending := false }
    link := { s.link with
      path := .hunting, rx := [], baud := c.line.baud, addr := unitAddress c.line.override s.link.straps,
      watchdog := .start c.line.linkTimeout 0 } }

/-- The cradles of the stations that hold a bath are commanded down from the second of the reset (R113). -/
def State.lowerCradles (s : State) : State := s.bathStations.foldl (fun t n => t.beginFalling n 0) s

/-- EXH_UNKNOWN is set on every configured DEVELOP station (R126, R134). -/
def State.doubtExhaustion (s : State) : State :=
  (s.stations.filter fun n => s.role n == .develop).foldl (fun t n => t.assertFlag n .exhUnknown) s

/-- The start-up load and check end (R16, R70, R166). -/
def State.loadDone (s : State) (cause : ResetCause) : State :=
  let img := s.nv.load
  let t := s.takeSettings (img.getD .factory) img.isNone
  let t := t.lowerCradles.doubtExhaustion
  let t := t.postLine .resetDone 0 cause.code
  let t := if img.isNone then t.postLine .configDefaulted 0 0 else t
  t.createOrphans

/-! ### The end of a store write (R18) -/

/-- The write and its read-back end (R18). -/
def State.storeWriteEnd (s : State) (good : Bool) : State :=
  match s.storeWrite with
  | some c =>
    let t := { s with storeWrite := none, nv := if good then .image c (crc16 c.bytes) else .damaged }
    t.postLine (if good then .storeDone else .storeFailed) 0 0
  | none => s

end Sys2Proof.Machine
end

