-- ==== Sys2Proof/Machine/LinkPort.lean ====
section
/-! DEFINITION. The Link Port (chapter The Link): receiving, discards, the watchdog, and what every request goes through
before and after its owner (R155 to R162). -/

namespace Sys2Proof.Machine

/-! ### Receiving (R155 to R158) -/

/-- The receive path returns to HUNTING with an empty buffer (R156, R157). -/
def State.hunt (s : State) : State := { s with link := { s.link with path := .hunting, rx := [] } }

/-- A frame is discarded and counted (R156, R158). -/
def State.discard (s : State) : State :=
  let n := min (s.link.discards + 1) 65535
  let t := { s with link := { s.link with path := .hunting, rx := [], discards := n } }
  if s.cfg.line.threshold ≤ n ∧ s.link.degraded = false then
    ({ t with link := { t.link with degraded := true } }).postLine .linkDegraded 0 s.cfg.line.threshold
  else t

/-- A gap, or a dropped byte, inside a frame (R153, R156). -/
def State.breakFrame (s : State) : State := if s.link.path = .receiving then s.discard else s

/-- The path can take a whole frame of these bytes: it looks for a lead byte, or it has collected the first of them (R156;
notes/assumptions/10.md). -/
def State.awaits (s : State) (bytes : List Byte) : Bool :=
  s.link.path == .hunting || (s.link.path == .receiving && s.link.rx.isPrefixOf bytes)

/-- The bytes a frame has after which it is complete, by its length byte (10.2). -/
def frameSize (rx : List Byte) : Nat := 7 + u8 rx 4

/-- The frame is addressed to this unit (R157). -/
def State.addressed (s : State) (f : Frame) : Bool := f.addr.toNat == s.link.addr

/-- The kind is a request's, below 0x80 (R154). -/
def isRequestKind (kind : Byte) : Bool := decide (kind.toNat < 128)

/-- The kind is one of the catalogue (12.2). -/
def isKnownKind (kind : Byte) : Bool := within 1 kind.toNat 27

/-- The frame the collected bytes spell, with its kind (10.2). -/
def frameOf (rx : List Byte) : Byte × Frame :=
  (rx.getD 3 0, { addr := rx.getD 1 0, tag := rx.getD 2 0, payload := (rx.drop 5).take (u8 rx 4),
                  check := BitVec.ofNat 16 (u16 rx (5 + u8 rx 4)) })

/-! ### The watchdog (R162) -/

/-- The watchdog restarts with the timeout as it stands (R9, R162). -/
def State.restartWatchdog (s : State) : State :=
  { s with link := { s.link with watchdog := .start s.cfg.line.linkTimeout s.clock } }

/-- The seconds since the watchdog expired, stopping at 65535 (R162). -/
def State.sinceExpiry (s : State) : Nat :=
  match s.link.watchdog with
  | .expired t => min (s.clock - t) 65535
  | .off | .running _ => 0

/-- The watchdog actions of an accepted frame (R162). -/
def State.touchWatchdog (s : State) : State :=
  let t := if s.link.lost then
      ({ s with link := { s.link with lost := false } }).postLine .linkRestored 0 s.sinceExpiry
    else s
  t.restartWatchdog

/-- The link-lost action (R151). -/
def State.linkLostAction (s : State) : State :=
  match s.cfg.line.lostAction, s.line.state with
  | .drain, .ready => s.beginDrain .standby .linkLost
  | .drain, .warmup => s.enterLine .standby .linkLost
  | _, _ => s

/-- The watchdog expires (R162). -/
def State.watchdogExpiry (s : State) : State :=
  match s.link.watchdog with
  | .running t =>
    if t ≤ s.clock then
      (({ s with link := { s.link with watchdog := .expired s.clock, lost := true } }).postLine .linkLost 0
        s.cfg.line.linkTimeout).linkLostAction
    else s
  | .off | .expired _ => s

/-! ### Requests (R156, R157, R160, R161) -/

/-- The code of a reply kind (R154). -/
def replyKind (kind : Byte) : Byte := kind + 0x80#8

/-- The path closes with the acceptance of a frame, and the watchdog is touched (R157, R160, R162). -/
def State.accept (s : State) (kind : Byte) (f : Frame) : State :=
  ({ s with link := { s.link with
      path := .closed, rx := frameBytes f.addr f.tag kind f.payload f.check } }).touchWatchdog

/-- The reply to an accepted frame (R161). -/
def State.answer (s : State) (kind : Byte) (f : Frame) (payload : List Byte) : State :=
  { s with link := { s.link with
      reply := some { addr := BitVec.ofNat 8 s.link.addr, tag := f.tag, kind := replyKind kind, payload := payload } } }

/-- An accepted request: the length check, then its owner (R160, R161). -/
def State.serve (s : State) (kind : Byte) (f : Frame) (lengthOk : List Byte → Bool)
    (owner : List Byte → State → State × List Byte) : State :=
  let t := s.accept kind f
  if lengthOk f.payload then
    let r := owner f.payload t
    r.1.answer kind f r.2
  else t.answer kind f (resultByte .badLength)

/-- A frame as its last check byte arrives: discarded when its check fails, served when it is a request for this unit,
passed over otherwise (R156, R157). A payload above 200 bytes never gets so far. -/
def State.endFrame (s : State) (kind : Byte) (f : Frame) (lengthOk : List Byte → Bool)
    (owner : List Byte → State → State × List Byte) : State :=
  if 200 < f.payload.length ∨ frameIntact kind f = false then s.discard
  else if s.addressed f && isRequestKind kind then s.serve kind f lengthOk owner
  else s.hunt

/-- The only length a kind with fixed fields allows (R160). -/
def fixedLength (n : Nat) (p : List Byte) : Bool := p.length == n

/-- The length of a kind that carries a count at offset `o` of parts of `part` bytes behind two fixed bytes (R160). -/
def countedLength (o part : Nat) (p : List Byte) : Bool := decide (2 ≤ p.length) && p.length == 2 + part * u8 p o

/-- A result alone, the state unchanged. -/
def refuse (r : Result) (s : State) : State × List Byte := (s, resultByte r)

/-- The last byte of the reply has been sent (R9, R15, R152, R157). -/
def State.replySent (s : State) (inp : Inputs) : State :=
  if s.link.reply.isSome then
    if s.link.restartPending then s.fullReset (.loading .restart) inp
    else
      { s with link := { s.link with
          path := .hunting, rx := [], reply := none, baud := s.cfg.line.baud,
          addr := unitAddress s.cfg.line.override s.link.straps } }
  else s

end Sys2Proof.Machine
end

