-- ==== Sys2Proof/Machine/SettingsRequests.lean ====
section
/-! DEFINITION. The owners of the requests that change, read and store settings (R8 to R14, R18, R22, R27, R29, R30, R120,
R152, R170). Each takes the payload and answers the state with the reply payload. -/

namespace Sys2Proof.Machine

/-- The store is busy (R18). -/
def State.storeBusy (s : State) : Bool := s.storeWrite.isSome

/-- SET LINE and SET STATION are taken: line at rest, no rack slot in use (R8, R10). -/
def State.atRest (s : State) : Bool := (s.line.state == .dormant || s.line.state == .standby) && !s.anyRack

/-! ### Roles (R9, R11) -/

/-- A station leaves the DEVELOP and BATH roles (R11, R113). -/
def State.leaveBath (s : State) (n : Nat) : State :=
  (((s.clearBath n).dropDeliveries n).dropCradle n).setValve n false

/-- The host closure of a station. -/
def State.setClosure (s : State) (n : Nat) (b : Bool) : State :=
  { s with cfg := { s.cfg with closures := setStation s.cfg.closures n b } }

/-- The station configuration of a station. -/
def State.setStationCfg (s : State) (n : Nat) (c : StationCfg) : State :=
  { s with cfg := { s.cfg with stations := setStation s.cfg.stations n c } }

/-! ### SET LINE (R8, R9) -/

/-- A station above a lowered station count becomes UNUSED (R9, R11). -/
def State.retireStation (s : State) (n : Nat) : State :=
  let t := if s.isBath n then s.leaveBath n else s
  (t.setClosure n false).setStationCfg n { t.stationCfg n with role := .unused, group := 0 }

/-- An accepted SET LINE (R9, R162). -/
def State.applyLine (s : State) (c : LineCfg) : State :=
  let t := (allStations.filter fun n => decide (c.count < n)).foldl State.retireStation s
  { t with cfg := { t.cfg with line := c } }.restartWatchdog

/-- SET LINE (R8). -/
def setLineOwner (p : List Byte) (s : State) : State × List Byte :=
  if s.storeBusy then refuse .busy s
  else if s.pins.lock then refuse .locked s
  else if !s.atRest then refuse .wrongState s
  else
    match LineCfg.parse p with
    | some c => if c.inRange then (s.applyLine c, resultByte .ok) else refuse .badValue s
    | none => refuse .badValue s

/-! ### SET STATION (R10, R11, R14) -/

/-- The role of a station that serves a step of a kind (2.1.2). -/
def StepKind.role : StepKind → Role
  | .develop => .develop
  | .bath => .bath

/-- Another configured station of the group has a different role (R10). -/
def State.groupConflict (s : State) (n : Nat) (c : StationCfg) : Bool :=
  c.role.holdsBath && (s.groupStations c.group).any fun m => m != n && s.role m != c.role

/-- A step of a defined recipe names the group with the other kind (R10). -/
def State.recipeConflict (s : State) (c : StationCfg) : Bool :=
  c.role.holdsBath && s.cfg.recipes.any fun steps => steps.any fun st => st.group == c.group && st.kind.role != c.role

/-- A station that holds no bath comes to hold one: empty state, cradle commanded down (R11, R113, R126). Its temperature and
level samples read 0 and false until it is sampled (notes/assumptions/13.md). -/
def State.enterBathRole (s : State) (n : Nat) : State :=
  (s.setBath n { presence := (s.bath n).presence }).beginFalling n s.clock

/-- The filter and the sample history are emptied; the conditions judged from a filtered temperature are then false (R11,
R129; notes/assumptions/32.md). -/
def State.restartFilter (s : State) (n : Nat) : State :=
  (((s.emptyFilter n).releaseFlag n .tempLow).releaseFlag n .tempHigh).releaseFlag n .spread

/-- The conditions and latches of the flags a station masks are cleared (R11, R130). -/
def State.applyMasks (s : State) (n : Nat) (m : FlagSet) : State :=
  let b := s.bath n
  s.setBath n { b with conds := b.conds.without m, latches := b.latches.without m }

/-- A station that keeps its bath role: a change of depth empties its filter, and the flags it masks are cleared (R11). -/
def State.keepBath (s : State) (n : Nat) (old new : StationCfg) : State :=
  (if old.depth = new.depth then s else s.restartFilter n).applyMasks n new.masks

/-- A station that passes between DEVELOP and BATH enters the other role: it starts with the empty state of R126 and its
cradle commanded down (R11, R113, R126). Its last samples and its exhaustion index stay (notes/assumptions/32.md). -/
def State.passBath (s : State) (n : Nat) : State :=
  let b := s.bath n
  (s.setBath n { presence := b.presence, levelLow := b.levelLow, levelHigh := b.levelHigh, raw := b.raw,
                 rawValid := b.rawValid, exhaustion := b.exhaustion }).beginFalling n s.clock

/-- What a change of role or settings does to the state other blocks hold for a station (R11): `old` is the configuration
before, the new one stands already. -/
def State.changeRole (s : State) (n : Nat) (old : StationCfg) : State :=
  let new := s.stationCfg n
  let t :=
    if old.role.holdsBath then
      if new.role = old.role then s.keepBath n old new
      else if new.role.holdsBath then s.passBath n else s.leaveBath n
    else if new.role.holdsBath then s.enterBathRole n else s
  let t := if new.role = .develop ∧ old.role ≠ .develop then t.assertFlag n .exhUnknown else t
  let t := if new.role = .bath ∧ old.role = .develop then t.releaseFlag n .exhUnknown else t
  if old.role ≠ new.role ∧ ¬ (old.role.holdsBath ∧ new.role.holdsBath) then t.setClosure n false else t

/-- CONFIG_DEFAULTED is cleared where conditions 1 to 3 of R14 hold (R14). -/
def State.judgeDefaulted (s : State) : State :=
  if s.rolesPresent then { s with line := { s.line with configDefaulted := false } } else s

/-- SET STATION (R10). -/
def setStationOwner (p : List Byte) (s : State) : State × List Byte :=
  let n := u8 p 0
  if s.storeBusy then refuse .busy s
  else if s.pins.lock then refuse .locked s
  else if !s.atRest then refuse .wrongState s
  else if !s.configured n then refuse .badValue s
  else
    match StationCfg.parse p with
    | some c =>
      if !c.inRange || s.groupConflict n c || s.recipeConflict c then refuse .badValue s
      else (((s.setStationCfg n c).changeRole n (s.stationCfg n)).judgeDefaulted, resultByte .ok)
    | none => refuse .badValue s

/-! ### STATION SERVICE (R12) -/

/-- The station can be host-closed (R12). -/
def Role.closable : Role → Bool
  | .develop | .bath | .unload => true
  | .unused | .load => false

/-- STATION SERVICE (R12; notes/assumptions/23.md). -/
def stationServiceOwner (p : List Byte) (s : State) : State × List Byte :=
  let n := u8 p 0
  if s.storeBusy then refuse .busy s
  else if !(s.role n).closable then refuse .badValue s
  else
    match truthOfCode (u8 p 1) with
    | some closed => (s.setClosure n closed, replyOk (bBool closed))
    | none => refuse .badValue s

/-! ### SET CURVE (R27) -/

/-- The index of the first point outside its range or below its predecessor (R27). -/
def badPoint (ps : List Nat) : Option Nat :=
  (List.range 17).find? fun i =>
    !within 64 (ps.getD i 0) 8192 || (i != 0 && decide (ps.getD i 0 < ps.getD (i - 1) 0))

/-- The figure of a curve that breaks R25: 17 for Tref, the first bad point, 8 where K[8] alone is wrong (R27;
notes/assumptions/22.md). -/
def Curve.fault (c : Curve) : Option Nat :=
  if !within 0 c.tref 600 then some 17
  else
    match badPoint c.points with
    | some i => some i
    | none => if c.point 8 = 1024 then none else some 8

/-- A BAD_VALUE of SET CURVE with its point index (12.11). -/
def curveBad (i : Nat) (s : State) : State × List Byte := (s, resultByte .badValue ++ b1 i)

/-- The curve of a number is replaced or deleted. -/
def State.putCurve (s : State) (n : Nat) (c : Option Curve) : State :=
  { s with cfg := { s.cfg with curves := s.cfg.curves.set n c } }

/-- Some defined recipe names the curve (R27). -/
def State.curveNamed (s : State) (n : Nat) : Bool := s.cfg.recipes.any (namesCurve n)

/-- SET CURVE (R27). -/
def setCurveOwner (p : List Byte) (s : State) : State × List Byte :=
  let n := u8 p 0
  if s.storeBusy then refuse .busy s
  else if s.pins.lock then refuse .locked s
  else
    match (if n ≤ 3 then truthOfCode (u8 p 1) else none) with
    | none => curveBad 17 s
    | some defined =>
      if s.curveInUse n then refuse .inUse s
      else if defined then
        match (Curve.parse p).fault with
        | some i => curveBad i s
        | none => (s.putCurve n (some (Curve.parse p)), resultByte .ok)
      else if s.curveNamed n then refuse .inUse s
      else (s.putCurve n none, resultByte .ok)

/-! ### SET RECIPE (R22, R23) -/

/-- A refusal of SET RECIPE with its step number (12.11; notes/assumptions/21.md). -/
def recipeRefused (r : Result) (k : Nat) (s : State) : State × List Byte := (s, resultByte r ++ b1 k)

/-- The step at place `j` (from 0) of a SET RECIPE payload fails a check of item 4 of R22. -/
def State.stepBad (s : State) (p : List Byte) (j : Nat) : Bool :=
  match Step.parse p (2 + 12 * j) with
  | none => true
  | some st =>
    !st.inRange || (s.groupStations st.group).isEmpty ||
    (s.groupStations st.group).any (fun n => s.role n != st.kind.role) ||
    (st.kind == .develop && (s.curve st.curve).isNone) ||
    (j != 0 && u8 p (2 + 12 * j) == u8 p (2 + 12 * (j - 1)))

/-- The number of the first failing step, 0 for more than four DEVELOP steps; none when all pass (R22). -/
def State.recipeFault (s : State) (p : List Byte) (steps : List Step) : Option Nat :=
  match (List.range (u8 p 1)).find? (s.stepBad p) with
  | some j => some (j + 1)
  | none => if 4 < (steps.filter fun st => st.kind == .develop).length then some 0 else none

/-- The recipe of a number is replaced, or deleted by an empty list (R23). -/
def State.putRecipe (s : State) (n : Nat) (steps : List Step) : State :=
  { s with cfg := { s.cfg with recipes := s.cfg.recipes.set n steps } }

/-- SET RECIPE (R22, R23). -/
def setRecipeOwner (p : List Byte) (s : State) : State × List Byte :=
  let n := u8 p 0
  let steps := (parseSteps p).filterMap id
  if s.storeBusy then recipeRefused .busy 0 s
  else if 7 < n ∨ 12 < u8 p 1 then recipeRefused .badValue 0 s
  else if s.recipeInUse n then recipeRefused .inUse 0 s
  else
    match s.recipeFault p steps with
    | some k => recipeRefused .badValue k s
    | none => (s.putRecipe n steps, resultByte .ok)

/-! ### SET PATTERN (R29) -/

/-- The pattern of a number is replaced. -/
def State.putPattern (s : State) (n : Nat) (c : Pattern) : State :=
  { s with cfg := { s.cfg with patterns := s.cfg.patterns.set n c } }

/-- SET PATTERN (R29, R114). -/
def setPatternOwner (p : List Byte) (s : State) : State × List Byte :=
  let n := u8 p 0
  if s.storeBusy then refuse .busy s
  else if 7 < n then refuse .badValue s
  else
    match Pattern.parse p with
    | some c => if c.inRange then ((s.putPattern n c).refixPattern n, resultByte .ok) else refuse .badValue s
    | none => refuse .badValue s

/-! ### SET BURSTS (R120) -/

/-- The staged map with the entries of a request (R120). -/
def putBursts (m : List Burst) (es : List (Nat × Burst)) : List Burst :=
  es.foldl (fun l e => setStation l e.1 e.2) m

/-- The clashing pair, 0 and 0 where there is none. -/
def pairOf (m : List Burst) : Nat × Nat := (clash m).getD (0, 0)

/-- An apply asked for: pending until the wrap, or performed at once while the manifold is stopped (R120). The numbers
are the reply's outcome and pair (12.11). -/
def State.requestApply (s : State) : State × List Nat :=
  if s.manifold.running then ({ s with manifold := { s.manifold with applyPending := true } }, [0, 0, 0])
  else
    (s.applyBursts,
      [if (clash s.manifold.staged).isSome then 2 else 1, (pairOf s.manifold.staged).1, (pairOf s.manifold.staged).2])

/-- SET BURSTS (R120). -/
def setBurstsOwner (p : List Byte) (s : State) : State × List Byte :=
  if s.storeBusy then refuse .busy s
  else
    match parseBursts p, truthOfCode (u8 p 1) with
    | some es, some apply =>
      if 16 < u8 p 0 ∨ ¬ (es.map (·.1)).Nodup then refuse .badValue s
      else
        let t := { s with manifold := { s.manifold with staged := putBursts s.manifold.staged es } }
        let r := if apply then t.requestApply else (t, [0, 0, 0])
        (r.1, replyOk (bBool r.1.manifold.applyPending ++ r.2.flatMap b1))
    | _, _ => refuse .badValue s

/-! ### SET ROUTE (R170) -/

/-- The argument suits the source (R170). -/
def State.routeArgOk (s : State) (r : Route) : Bool :=
  match r.source with
  | .stationClosed => s.configured r.arg
  | .groupOpen => within 1 r.arg 15 && !(s.groupStations r.arg).isEmpty
  | _ => true

/-- SET ROUTE (R170). -/
def setRouteOwner (p : List Byte) (s : State) : State × List Byte :=
  let n := u8 p 0
  if s.storeBusy then refuse .busy s
  else if !within 1 n 8 then refuse .badValue s
  else
    match Route.parse p with
    | some r =>
      if s.routeArgOk r then
        let t := { s with cfg := { s.cfg with routes := s.cfg.routes.set (n - 1) r } }
        (t, replyOk (b1 n ++ bBool (t.indicatorLevel r)))
      else refuse .badValue s
    | none => refuse .badValue s

/-! ### READ SETTING (R30, R31) -/

/-- The record a selector and an index name, none outside the table of R30. -/
def State.setting (s : State) (sel i : Nat) : Option (List Byte) :=
  match sel with
  | 0 => if i = 0 then some s.cfg.line.bytes else none
  | 1 => if within 1 i 16 then some ((s.stationCfg i).bytes ++ bBool (s.hostClosed i)) else none
  | 2 => if i ≤ 3 then some (curveBytes (s.curve i)) else none
  | 3 => if i ≤ 7 then some (recipeBytes (s.recipe i)) else none
  | 4 => if i ≤ 7 then some (s.pattern i).bytes else none
  | 5 => if i = 0 then some (burstMapBytes s.cfg.live) else none
  | 6 => if i = 0 then some (burstMapBytes s.manifold.staged ++ bBool s.manifold.applyPending) else none
  | 7 => if within 1 i 8 then some (Route.bytes (s.cfg.routes.getD (i - 1) .factory)) else none
  | _ => none

/-- READ SETTING (R30). -/
def readSettingOwner (p : List Byte) (s : State) : State × List Byte :=
  match s.setting (u8 p 0) (u8 p 1) with
  | some rec => (s, replyOk (b1 (u8 p 0) ++ b1 (u8 p 1) ++ rec))
  | none => refuse .badValue s

/-! ### STORE and RESTART (R18, R152) -/

/-- STORE (R18). -/
def storeOwner (_ : List Byte) (s : State) : State × List Byte :=
  if s.storeBusy then refuse .busy s
  else if s.line.state = .dormant ∨ s.line.state = .standby ∨ s.line.state = .ready then
    ({ s with storeWrite := some s.cfg }, resultByte .ok)
  else refuse .wrongState s

/-- RESTART (R152). -/
def restartOwner (_ : List Byte) (s : State) : State × List Byte :=
  if s.storeBusy then refuse .busy s
  else if s.anyRack then refuse .wrongState s
  else ({ s with link := { s.link with restartPending := true } }, resultByte .ok)

end Sys2Proof.Machine
end

