-- ==== Sys2Proof/Machine/Operations.lean ====
section
/-! DEFINITION. The owners of the operation requests: MODE, ADMIT, ABANDON, EVACUATE, CARRIAGE CLEAR, SET EXHAUSTION,
CLEAR FLAGS, CLEAR LINK (R57, R66, R110, R111, R135, R137, R145, R159). -/

namespace Sys2Proof.Machine

/-! ### MODE (R145, R146) -/

/-- The mode a MODE request carries, DRAIN with its target (12.3). -/
inductive Mode where
  | standby | run | drain (target : LineState) | dormant
  deriving DecidableEq, Repr

/-- The mode of a payload; none for an unlisted mode or drain target (R145). -/
def Mode.parse (p : List Byte) : Option Mode :=
  match u8 p 0, u8 p 1 with
  | 0, _ => some .standby
  | 1, _ => some .run
  | 2, 0 => some (.drain .dormant)
  | 2, 1 => some (.drain .standby)
  | 3, _ => some .dormant
  | _, _ => none

/-- The line state a mode asks for from a line state; none where it is no From state (R145). -/
def Mode.passage (m : Mode) (st : LineState) : Option LineState :=
  match m, st with
  | .standby, .dormant | .standby, .warmup => some .standby
  | .run, .dormant | .run, .standby => some .warmup
  | .run, .draining | .run, .ready => some .ready
  | .drain _, .ready => some .draining
  | .dormant, .standby | .dormant, .warmup | .dormant, .ready | .dormant, .faulted => some .dormant
  | _, _ => none

/-- The passage needs a valid configuration (R145). -/
def Mode.needsConfig (m : Mode) (st : LineState) : Bool :=
  match m, st with
  | .standby, .dormant | .run, .dormant | .run, .standby => true
  | _, _ => false

/-- Racks stand in the way of DORMANT (R145, check 4). -/
def State.racksHold (s : State) (m : Mode) : Bool :=
  match m with
  | .dormant => if s.line.state = .faulted then s.someRack s.remains else s.someRack s.inFlight
  | _ => false

/-- Entry to WARMUP, and to FAULTED in the same event while CARRIAGE_FAULT stands (R146, R150). -/
def State.enterWarmup (s : State) : State :=
  let t := s.enterLine .warmup .mode
  if t.line.carriageFault then t.faultNotice else t

/-- The fault-cleared indication becomes false out of FAULTED (R146). -/
def State.dropFaultCleared (s : State) : State :=
  if s.line.state = .faulted then { s with driver := { s.driver with faultCleared := false } } else s

/-- An accepted MODE makes its passage (R146). -/
def State.applyMode (s : State) : Mode → State
  | .standby => s.enterLine .standby .mode
  | .run =>
    match s.line.state with
    | .ready => s
    | .draining => (s.setDrainTarget none).enterLine .ready .mode
    | _ => s.enterWarmup
  | .drain target => s.beginDrain target .mode
  | .dormant => s.dropFaultCleared.enterLine .dormant .mode

/-- A reply to MODE: result, line state after the request, cause (12.11). -/
def modeReply (r : Result) (cause : Nat) (s : State) : State × List Byte :=
  (s, resultByte r ++ b1 s.line.state.code ++ b1 cause)

/-- MODE (R145). Causes: NONE 0, STATE 1, CONFIG 2, RACKS 3. -/
def modeOwner (p : List Byte) (s : State) : State × List Byte :=
  match Mode.parse p with
  | none => modeReply .badValue 0 s
  | some m =>
    if (m.passage s.line.state).isNone then modeReply .wrongState 1 s
    else if m.needsConfig s.line.state && !s.validConfig then modeReply .wrongState 2 s
    else if s.racksHold m then modeReply .wrongState 3 s
    else modeReply .ok 0 (s.applyMode m)

/-! ### ADMIT (R57, R58) -/

/-- The fields of ADMIT (12.4). -/
structure Admission where
  tag         : Nat
  recipe      : Nat
  scale       : Nat
  load        : Nat
  loadStation : Nat
  notBefore   : Nat
  deriving DecidableEq, Repr

/-- The fields a payload carries. -/
def Admission.parse (p : List Byte) : Admission :=
  { tag := u16 p 0, recipe := u8 p 2, scale := u8 p 3, load := u8 p 4, loadStation := u8 p 5, notBefore := u32 p 6 }

/-- Check 3 of R57: the fields lie in their ranges. -/
def State.admissionInRange (s : State) (a : Admission) : Bool :=
  within 1 a.tag 65535 && within 0 a.recipe 7 && within 50 a.scale 250 && within 1 a.load 40 &&
  s.configured a.loadStation

/-- An orphan stands in a bath (R57, check 2). -/
def State.orphanInBath (s : State) : Bool := s.someRack fun r => r.phase == .orphan && s.standsInBath r

/-- The number of the first step whose group has no open station, one more than the steps for the UNLOAD stations (R57,
check 9). -/
def State.closedStep (s : State) (steps : List Step) : Option Nat :=
  match steps.findIdx? fun st => !(s.groupStations st.group).any s.isOpen with
  | some j => some (j + 1)
  | none => if s.unloads.any s.isOpen then none else some (steps.length + 1)

/-- The first candidate of an admission (R83). -/
def firstCandidate (now notBefore : Nat) : Nat := max (addSec now 2) notBefore

/-- The trip of an admission into a slot (R83). -/
def admissionTrip (slot : Nat) (steps : List Step) (scale : Nat) : Trip :=
  { slot := slot, first := 0, steps := steps, scale := scale, evac := false, evacDrain := 0, admission := true }

/-- The cursor at which an admission starts: its load station, from the admitted second (R79, R84). -/
def admissionCursor (station now : Nat) : Cursor :=
  { station := station, step := 0, immersion := now, stayFrom := some now, placed := false, predicted := now,
    entries := [], stays := [] }

/-- The planned start of the first entry of a chain (R58). -/
def Cursor.entrySecond (c : Cursor) : Nat := (c.entries.head?.map (·.start)).getD 0

/-- The planned end of the exit move of a chain (R58). -/
def Cursor.arrivalSecond (c : Cursor) : Nat := (c.entries.getLast?.map fun e => addSec e.start e.duration).getD 0

/-- The rack takes its slot with its chain booked (R58, R89, R95). -/
def State.takeAdmission (s : State) (slot : Nat) (a : Admission) (c : Cursor) : State :=
  let r := Rack.fresh a.tag (some a.recipe) a.scale a.load a.loadStation .waitingEntry a.loadStation none s.clock
  ((s.setRack slot r).bookChain slot 0 c).turn

/-- A refusal of ADMIT with its figure (12.11). -/
def admitRefused (r : Result) (n : Nat) (s : State) : State × List Byte := (s, resultByte r ++ b1 n)

/-- ADMIT (R57). -/
def admitOwner (p : List Byte) (s : State) : State × List Byte :=
  let a := Admission.parse p
  let steps := s.recipe a.recipe
  if s.line.state ≠ .ready then refuse .wrongState s
  else if s.orphanInBath then refuse .orphans s
  else if !s.admissionInRange a then refuse .badValue s
  else if steps.isEmpty then refuse .notFound s
  else if (s.rackTagged a.tag).isSome then refuse .duplicate s
  else
    match s.lowestFree with
    | none => refuse .full s
    | some slot =>
      if s.role a.loadStation ≠ .load ∨ (s.bath a.loadStation).presence = false then refuse .notPresent s
      else if (s.rackAt a.loadStation).isSome then refuse .inUse s
      else
        match s.closedStep steps with
        | some k => admitRefused .closed k s
        | none =>
          match s.walk (admissionTrip slot steps a.scale) (admissionCursor a.loadStation s.clock)
              (firstCandidate s.clock a.notBefore) with
          | .error why => admitRefused .noSlot why.code s
          | .ok c => (s.takeAdmission slot a c, replyOk (b1 slot ++ b4 c.entrySecond ++ b4 c.arrivalSecond))

/-! ### Naming a rack (R66, R73) -/

/-- The selector and value of ABANDON and READ RACK lie outside their ranges. -/
def selectorBad (p : List Byte) : Bool :=
  match u8 p 0 with
  | 0 => u16 p 1 == 0
  | 1 => decide (23 < u16 p 1)
  | _ => true

/-- The rack a selector and value name. -/
def State.selected (s : State) (p : List Byte) : Option (Nat × Rack) :=
  match u8 p 0 with
  | 0 => s.rackTagged (u16 p 1)
  | 1 => (s.rack (u16 p 1)).map fun r => (u16 p 1, r)
  | _ => none

/-! ### ABANDON (R66 to R68) -/

/-- The rack can no longer be abandoned (R66, check 4). -/
def State.beyondAbandon (s : State) (r : Rack) : Bool :=
  r.phase == .atUnload || r.phase == .awaitingReport || (r.phase == .orphan && !s.standsInBath r)

/-- What ABANDON does with a rack, and its disposition: WITHDRAWN 0, EVACUATION_BOOKED 1, EVACUATION_WAITING 2, AFTER_MOVE
3, UNCHANGED 4 (R66 to R68). -/
def State.abandonRack (s : State) (k : Nat) (r : Rack) : State × Nat :=
  if r.pending = .abandoned then (s, 4)
  else
    match r.phase with
    | .waitingEntry => ((s.endRack k r.station .withdrawn).turn, 0)
    | .onCarriage => (s.setRack k r.abandoned, 3)
    | .inBath | .orphan | .atUnload | .awaitingReport =>
      let q := s.abandonStanding k
      (q.1.turn, if s.line.state = .faulted then 4 else if q.2 then 1 else 2)

/-- ABANDON (R66). -/
def abandonOwner (p : List Byte) (s : State) : State × List Byte :=
  if selectorBad p then refuse .badValue s
  else if s.line.state ≠ .ready ∧ s.line.state ≠ .draining ∧ s.line.state ≠ .faulted then refuse .wrongState s
  else
    match s.selected p with
    | none => refuse .notFound s
    | some (k, r) =>
      if s.beyondAbandon r then refuse .wrongState s
      else
        let q := s.abandonRack k r
        (q.1, replyOk (b1 q.2))

/-! ### EVACUATE (R111) -/

/-- The rack is in the evacuation order, or has a booked or deferred EVACUATE move (R111). -/
def State.evacuating (s : State) (k : Nat) : Bool :=
  s.evacOrder.contains k || s.schedule.any (fun e => e.slot == k && e.kind == .evacuate) ||
  s.deferred.any fun d => d.slot == k && d.kind == .evacuate

/-- The rack hangs on the hook with no move in progress (R96, R110). -/
def State.hooked (s : State) (r : Rack) : Bool := r.phase == .onCarriage && s.executing.isNone

/-- The rack stands INTERRUPTED, or as an orphan, in a bath (R111). -/
def State.stranded (s : State) (r : Rack) : Bool :=
  s.standsInBath r && (r.phase == .orphan || r.pending == .interrupted)

/-- The slots of the racks a test picks that no evacuation has taken, ascending. -/
def State.takeable (s : State) (p : Rack → Bool) : List Nat :=
  (s.racks.filter fun e => p e.2 && !s.evacuating e.1).map (·.1)

/-- The slots EVACUATE takes, in the order of R111. -/
def State.evacuees (s : State) : List Nat :=
  s.takeable s.hooked ++ s.takeable (fun r => s.stranded r && s.role r.station == .develop) ++
  s.takeable (fun r => s.stranded r && s.role r.station != .develop)

/-- One rack taken: its walk, or its place in the deferred set while the rack on the hook waits (R111). The count is that
of the evacuations booked. -/
def evacuateOne (q : State × Nat) (k : Nat) : State × Nat :=
  if q.1.hookedWaits then (q.1.joinDeferred k .evacuate, q.2)
  else
    let r := q.1.placeEvacuation k
    (r.1, if r.2 then q.2 + 1 else q.2)

/-- EVACUATE (R111, R112). -/
def evacuateOwner (_ : List Byte) (s : State) : State × List Byte :=
  if s.movesAllowed then
    let ks := s.evacuees
    let q := ks.foldl evacuateOne ({ s with evacOrder := s.evacOrder ++ ks }, 0)
    (q.1.judgeRecovery.turn, replyOk (b1 ks.length ++ b1 q.2 ++ b1 (ks.length - q.2)))
  else refuse .wrongState s

/-! ### CARRIAGE CLEAR (R110, R112) -/

/-- CARRIAGE CLEAR is refused (R110). -/
def State.cannotClear (s : State) : Bool :=
  s.line.state != .faulted || s.driver.faultCleared || !s.configured s.pins.atStation ||
  !(s.pins.hoistUp || s.pins.hoistDown) || (s.pins.hook && s.carried.isNone)

/-- The rack that was on the carriage is decided by the hook (R110). -/
def State.decideCarried (s : State) : State :=
  match s.carried with
  | some (k, r) => if s.pins.hook then s.setRack k r.interrupt else s.loseCarried k r
  | none => s

/-- The Driver takes the station shown and is IDLE, the fault is cleared (R110). -/
def State.clearFault (s : State) : State :=
  let n := s.pins.atStation
  { s with driver := { s.driver.rest .idle with position := n, goTo := n, faultCleared := true },
           line := { s.line with carriageFault := false } }

/-- With no rack left to evacuate, EVACUATION_DONE is posted and the line returns to READY (R110, R112). -/
def State.finishClear (s : State) : State :=
  if s.recoverable then (s.postLine .evacuationDone 0 0).judgeRecovery else s

/-- A slot and tag in a reply, 255 and 0 for none (12.11). -/
def slotTag : Option (Nat × Rack) → List Byte
  | some (k, r) => b1 k ++ b2 r.tag
  | none => b1 255 ++ b2 0

/-- The rack that ends LOST where the hook is clear: the one that was ON_CARRIAGE, unless it is an orphan, which ends without
a record and with outcome NONE (R72, R110). -/
def State.lostRack (s : State) : Option (Nat × Rack) := s.carried.filter fun e => e.2.recipe.isSome

/-- CARRIAGE CLEAR (R110). -/
def carriageClearOwner (_ : List Byte) (s : State) : State × List Byte :=
  if s.cannotClear then refuse .wrongState s
  else
    let hook := s.pins.hook
    (s.decideCarried.clearFault.finishClear.turn,
      replyOk (b1 s.pins.atStation ++ bBool hook ++ slotTag (if hook then s.carried else none) ++
        slotTag (if hook then none else s.lostRack)))

/-! ### SET EXHAUSTION (R137) -/

/-- The credits of a station's entries become 0 (R137). -/
def State.zeroCredits (s : State) (n : Nat) : State :=
  { s with deliveries := s.deliveries.map fun d => if d.station = n then { d with credit := 0 } else d }

/-- SET EXHAUSTION (R137). -/
def setExhaustionOwner (p : List Byte) (s : State) : State × List Byte :=
  let n := u8 p 0
  let e := min (u16 p 1) 1000
  if s.isBath n then
    let t := s.setBath n { s.bath n with exhaustion := e }
    (((t.releaseFlag n .exhUnknown).zeroCredits n).judgeExhausted n, replyOk (b2 e))
  else refuse .badValue s

/-! ### CLEAR FLAGS, CLEAR LINK (R135, R159) -/

/-- CRADLE_FAULT releases where the down-limit reads true, and the cradle becomes DOWN (R116, R135). -/
def State.releaseCradle (s : State) (n : Nat) : State :=
  if s.cond n .cradleFault && (s.pin n).cradleDown then
    (s.releaseFlag n .cradleFault).setCradle n { s.cradle n with state := .down }
  else s

/-- The latches whose condition is not present are cleared (R135). -/
def State.clearLatches (s : State) (n : Nat) : State :=
  let b := s.bath n
  s.setBath n { b with latches := b.latches.inter b.conds }

/-- CLEAR FLAGS (R135). -/
def clearFlagsOwner (p : List Byte) (s : State) : State × List Byte :=
  let n := u8 p 0
  if n = 0 then
    let t := { s with line := { s.line with pumpFault := false } }
    (t, replyOk (b1 0 ++ b2 t.lineFlagBits ++ b2 0))
  else if s.isBath n then
    let t := (s.releaseCradle n).clearLatches n
    (t, replyOk (b1 n ++ b2 (t.bath n).latches.bits ++ b2 (t.bath n).conds.bits))
  else refuse .badValue s

/-- CLEAR LINK (R159). -/
def clearLinkOwner (_ : List Byte) (s : State) : State × List Byte :=
  ({ s with link := { s.link with discards := 0, degraded := false } }, replyOk (b2 s.link.discards))

end Sys2Proof.Machine
end

