-- ==== Sys2Proof/Machine/Reads.lean ====
section
/-! DEFINITION. The owners of the reads: IDENTIFY, STATUS, READ RACK, READ STATION, READ SCHEDULE, READ TIMELINE, READ
EVENTS, READ COMPLETIONS (R65, R73, R92, R93, R142, R163, R164, R167; layouts of chapter 12). -/

namespace Sys2Proof.Machine

/-! ### IDENTIFY and STATUS -/

/-- IDENTIFY (R163). -/
def identifyOwner (_ : List Byte) (s : State) : State × List Byte :=
  (s, replyOk (b2 2416 ++ b1 (65 + Config.revision.val) ++
    [16, 24, 8, 12, 4, 4, 8, 192, 8, 24, 16, 64, 16, 8, 200].flatMap b1 ++ b1 s.link.addr ++
    bBool (s.cfg.line.override != 0) ++ b1 s.link.straps ++ b1 s.cfg.line.count))

/-- The Driver is moving the carriage (R94). -/
def DriverState.moving : DriverState → Bool
  | .approaching | .raise | .drain | .travel | .lower => true
  | .idle | .waiting | .stopped => false

/-- The busy indications of STATUS (R164). -/
def State.busyBits (s : State) : Nat :=
  bitsToNat [s.driver.state.moving, s.pump.isSome, s.manifold.applyPending, s.storeBusy, s.line.state == .warmup]

/-- A set of stations as a bit set, bit n − 1 for station n (12.11). -/
def stationBits (p : Nat → Bool) : Nat := bitsToNat (allStations.map p)

/-- STATUS (R164). -/
def statusOwner (_ : List Byte) (s : State) : State × List Byte :=
  (s, replyOk (b1 s.line.state.code ++ b4 s.clock ++ b1 s.lineFlagBits ++ b1 s.busyBits ++ b1 s.racks.length ++
    b1 (s.racks.filter fun e => e.2.recipe.isNone).length ++ b1 s.schedule.length ++ b1 s.deferred.length ++
    b1 s.events.length ++ b1 s.completions.length ++ b2 (stationBits fun n => s.configured n && s.hostClosed n) ++
    b2 (stationBits fun n => s.isBath n && !s.isOpen n) ++ b2 s.link.discards))

/-! ### READ RACK (R73, 12.5) -/

/-- The deviation list as sent. -/
def deviationBytes (l : List (Nat × Int)) : List Byte := l.flatMap fun e => b1 e.1 ++ bSigned e.2

/-- The outcome READ RACK shows: the one the rack will have, or the one it ended with (R73). -/
def Rack.shownOutcome (r : Rack) : RackOutcome := if r.phase = .awaitingReport then r.outcome else r.unloadOutcome

/-- The presence byte of a rack record (12.5). -/
def Rack.presenceBits (r : Rack) : Nat :=
  bitsToNat [r.immersion.isSome, r.predicted.isSome, r.nextStart.isSome, r.entered.isSome, r.unload.isSome,
    r.ended.isSome]

/-- A rack record from offset 1 of the READ RACK reply (12.5). -/
def Rack.bytes (k : Nat) (r : Rack) : List Byte :=
  b1 k ++ b2 r.tag ++ b1 (r.recipe.getD 255) ++ b1 r.scale ++ b1 r.load ++ b1 r.loadStation ++ b1 r.phase.code ++
  b1 r.step ++ b1 r.station ++ bSecond r.immersion ++ b4 r.dose ++ b4 r.target ++ b2 r.rate ++ b2 r.heldRate ++ b4 0 ++
  bSecond r.predicted ++ bSecond r.nextStart ++ b1 r.flags.bits ++ b1 r.pending.code ++ b4 r.admitted ++
  bSecond r.entered ++ bSecond r.unload ++ bSecond r.ended ++ b1 r.shownOutcome.code ++ b1 r.presenceBits ++
  b1 r.deviations.length ++ deviationBytes r.deviations

/-- READ RACK (R73). -/
def readRackOwner (p : List Byte) (s : State) : State × List Byte :=
  if selectorBad p then refuse .badValue s
  else
    match s.selected p with
    | none => refuse .notFound s
    | some (k, r) => (s, replyOk (r.bytes k))

/-! ### READ STATION (R142, 12.9) -/

/-- The Bath Monitor's and Replenish Controller's fields of a station, offsets 11 to 32 (12.9). -/
def State.bathBytes (s : State) (n : Nat) : List Byte :=
  let b := s.bath n
  let ds := s.deliveries.filter (·.station == n)
  if s.isBath n then
    b2 b.raw ++ bBool b.rawValid ++ b2 (b.filtered.getD 65535) ++ b1 b.invalid ++ b1 b.rejected ++ bBool b.levelLow ++
    bBool b.levelHigh ++ b2 b.conds.bits ++ b2 b.latches.bits ++ bBool b.fresh ++ b2 b.exhaustion ++ b1 ds.length ++
    b4 (ds.map (·.volume)).sum ++ bBool (ds.any (·.running))
  else b2 0 ++ b1 0 ++ b2 65535 ++ List.replicate 17 0#8

/-- A station record from offset 1 of the READ STATION reply (12.9). -/
def State.stationBytes (s : State) (n : Nat) : List Byte :=
  b1 n ++ b1 (s.role n).code ++ b1 (s.group n) ++ bBool (s.hostClosed n) ++ bBool (s.bath n).presence ++
  b1 (s.occupantOf n).1 ++ b2 (s.occupantOf n).2 ++ bBool (s.isOpen n) ++ bBool (s.isUsable n) ++ s.bathBytes n

/-- The fresh latch of a station is cleared (R129, R142). -/
def State.clearFresh (s : State) (n : Nat) : State := s.setBath n { s.bath n with fresh := false }

/-- READ STATION (R142). -/
def readStationOwner (p : List Byte) (s : State) : State × List Byte :=
  let n := u8 p 0
  if s.configured n then (s.clearFresh n, replyOk (s.stationBytes n)) else refuse .badValue s

/-! ### READ SCHEDULE and READ TIMELINE (R92, R93, 12.6, 12.11) -/

/-- An entry as sent (12.6). -/
def State.entryBytes (s : State) (e : Entry) : List Byte :=
  b1 e.slot ++ b2 (s.tagOf e.slot) ++ b1 e.index ++ b1 e.src ++ b1 e.dst ++
  b1 (e.kind.code + (if e.firm then 4 else 0) + (if e.executing then 8 else 0)) ++ b4 e.start ++ b1 e.duration ++
  b2 e.lateness ++ b4 e.spanStart ++ b4 e.spanEnd ++ b1 (e.spanEnd - e.duration - e.spanStart)

/-- READ SCHEDULE (R92). -/
def readScheduleOwner (p : List Byte) (s : State) : State × List Byte :=
  if within 0 (u8 p 0) 191 && within 1 (u8 p 1) 8 then
    let es := (s.schedule.drop (u8 p 0)).take (u8 p 1)
    (s, replyOk (b1 s.schedule.length ++ b1 es.length ++ es.flatMap s.entryBytes))
  else refuse .badValue s

/-- An interval as sent (12.11). -/
def State.intervalBytes (s : State) (iv : Interval) : List Byte :=
  b1 iv.slot ++ b2 (s.tagOf iv.slot) ++ b4 iv.start ++ bSecond iv.stop ++ b1 iv.purpose.code ++ bBool iv.stop.isNone

/-- READ TIMELINE (R93). -/
def readTimelineOwner (p : List Byte) (s : State) : State × List Byte :=
  let n := u8 p 0
  if s.configured n then
    (s, replyOk (b1 n ++ b1 (s.role n).code ++ bBool (s.isOpen n) ++ bBool (s.isUsable n) ++ bBool (s.hostClosed n) ++
      bBool (s.bath n).presence ++ b1 (s.occupantOf n).1 ++ b2 (s.occupantOf n).2 ++ b1 (s.timeline n).length ++
      (s.timeline n).flatMap s.intervalBytes))
  else refuse .badValue s

/-! ### READ EVENTS (R167, 12.8) -/

/-- An event record as sent (12.8). -/
def Event.bytes (e : Event) : List Byte :=
  b4 e.second ++ b1 e.kind.code ++ b1 e.station ++ b1 e.slot ++ b2 e.tag ++ b2 e.detail

/-- READ EVENTS (R167). -/
def readEventsOwner (_ : List Byte) (s : State) : State × List Byte :=
  let es := s.events.take 8
  let t := { s with events := s.events.drop 8, lost := 0 }
  (t, replyOk (b1 es.length ++ b1 s.lost ++ es.flatMap Event.bytes ++ b1 t.events.length))

/-! ### READ COMPLETIONS (R65, 12.7) -/

/-- A completion record as sent (12.7). -/
def Completion.bytes (c : Completion) : List Byte :=
  b2 c.tag ++ b1 c.recipe ++ b1 c.scale ++ b1 c.load ++ b1 (bitsToNat [c.entered.isSome, c.unload.isSome]) ++
  b4 c.admitted ++ bSecond c.entered ++ bSecond c.unload ++ b4 c.removed ++ b1 c.outcome.code ++ b1 c.flags.bits ++
  b1 c.deviations.length ++ deviationBytes c.deviations

/-- READ COMPLETIONS (R65). -/
def readCompletionsOwner (_ : List Byte) (s : State) : State × List Byte :=
  let cs := s.completions.take 2
  let t := { s with completions := s.completions.drop 2 }.fillCompletions
  (t, replyOk (b1 cs.length ++ cs.flatMap Completion.bytes ++ b1 t.completions.length ++ b1 t.awaiting.length))

end Sys2Proof.Machine
end

