-- ==== Sys2Proof/Machine/Second.lean ====
section
/-! DEFINITION. The line second (R6): the once-per-second work of the blocks, and the overstay examination (R107). -/

namespace Sys2Proof.Machine

/-- The Integrator's work of one second on the rack of a slot (R40, R42, R46, R47). -/
def State.developRack (s : State) (k : Nat) : State :=
  match s.rack k with
  | some r =>
    match s.developing r with
    | some st =>
      if r.phase = .inBath then
        (s.setRack k (r.accrueAt s.clock (s.stationRate r.station (s.stepCurve st)))).offer k
      else s.setRack k r.accrueHeld
    | none => s
  | none => s

/-- The Integrator's work of one second on the racks it has still to reach, slots ascending; none is left then
(notes/assumptions/4.md). -/
def State.developAll (s : State) : State := { s.accrualDue.foldl State.developRack s with accrualDue := [] }

/-- The readings of flow, and of gas pressure while the manifold is stopped (R125, R140). -/
def State.readPumpAndGas (s : State) : State :=
  if s.readFlow.manifold.running then s.readFlow else s.readFlow.readGas

/-- One piece of a line second's work. The re-placement pass weighs each rack in development by its prediction of this
second, so the Integrator's work precedes it (R48); done already, it is not done again. -/
def State.doTask (s : State) : SecondTask → State
  | .presence => s.samplePresences
  | .bath => s.watchBaths
  | .develop => s.developAll
  | .retry => s.developAll.retryAll
  | .warmup => s.judgeWarmup
  | .pump => s.readPumpAndGas
  | .expiry => s.examineAll
  | .carriage => s.carriageStep

/-- The pieces every line second holds. -/
def mandatoryTasks : List SecondTask := [.presence, .bath, .develop, .retry, .warmup, .pump]

/-- The list without repetitions, each element at its first place. -/
def firstPlaces : List SecondTask → List SecondTask
  | [] => []
  | x :: xs => x :: (firstPlaces xs).filter (· != x)

/-- The order in which a line second does its work: the order asked for, then whatever it leaves out
(notes/assumptions/4.md). -/
def taskOrder (order : List SecondTask) : List SecondTask := firstPlaces (order ++ mandatoryTasks)

/-- One piece of work, after which the Driver turns to what is first in the schedule (R95). -/
def State.doTurn (s : State) (t : SecondTask) : State := (s.doTask t).turn

/-- The line clock advances and every block does its work for the second reached (R6). Whether a start or end notice of the
carriage in this second comes before or after the Integrator's work for it R39, R41 and R43 leave open: it comes where
`order` has `carriage`, and the carriage commands of their own come after all the work (notes/assumptions/4.md). -/
def State.lineSecond (s : State) (order : List SecondTask) : State :=
  (taskOrder order).foldl State.doTurn { s with clock := addSec s.clock 1, accrualDue := allSlots }

/-- The lift begun in the present second, in which the rack is examined as IN_BATH (R107). -/
def State.liftNow (s : State) (r : Rack) : Option Lift := r.lift.filter fun l => l.second == s.clock

/-- Where a rack is examined as IN_BATH: where it stands, and where a lift of this second left, wherever the rack is by now
(R107). -/
def State.overstays (s : State) (r : Rack) : List Lift :=
  match r.phase with
  | .inBath => (s.liftNow r).toList ++ [⟨s.clock, r.station, r.step, r.immersion⟩]
  | .onCarriage | .atUnload => (s.liftNow r).toList
  | .waitingEntry | .orphan | .awaitingReport => []

/-- The BATH step of a stay whose immersion time and stretch have passed (R107). -/
def State.overdue (s : State) (r : Rack) (l : Lift) : Bool :=
  match stepAt (s.stepsOf r) l.step, l.immersion with
  | some st, some i => st.kind == .bath && decide (addSec i (st.immersion + st.stretch) < s.clock)
  | _, _ => false

/-- The overstay examination of one stay of the rack of a slot: the flag, and the event once for a step (R107). -/
def State.examineStay (s : State) (k : Nat) (l : Lift) : State :=
  match s.rack k with
  | some r =>
    if s.overdue r l then
      let t := s.setRack k { r with flags := { r.flags with overstay := true }, overMark := l.step }
      if r.overMark = l.step then t else t.post .overstay l.station k r.tag l.step
    else s
  | none => s

/-- The overstay examination of the rack of a slot (R107). -/
def State.examineOverstay (s : State) (k : Nat) : State :=
  match s.rack k with
  | some r => (s.overstays r).foldl (fun t l => t.examineStay k l) s
  | none => s

end Sys2Proof.Machine
end

