-- ==== Sys2Proof/Machine/LinkCommands.lean ====
section
/-! DEFINITION. The meanings of the commands of the serial line: bytes and frames (R153 to R158), replies (R161), and the
catalogue of the twenty-seven requests with their kinds (12.2), lengths (12.11) and owners. -/

namespace Sys2Proof.Machine

/-! ### Bytes and frames -/

/-- The catalogue of requests: the payload lengths a kind allows and its owner (12.2, 12.11). A kind outside it is answered
BAD_KIND whatever its length (R160). -/
def catalogue (kind : Byte) : (List Byte → Bool) × (List Byte → State → State × List Byte) :=
  match kind.toNat with
  | 0x01 => (fixedLength 0, identifyOwner)
  | 0x02 => (fixedLength 0, statusOwner)
  | 0x03 => (fixedLength 23, setLineOwner)
  | 0x04 => (fixedLength 19, setStationOwner)
  | 0x05 => (fixedLength 2, stationServiceOwner)
  | 0x06 => (fixedLength 38, setCurveOwner)
  | 0x07 => (countedLength 1 12, setRecipeOwner)
  | 0x08 => (fixedLength 9, setPatternOwner)
  | 0x09 => (countedLength 0 4, setBurstsOwner)
  | 0x0A => (fixedLength 3, setExhaustionOwner)
  | 0x0B => (fixedLength 2, readSettingOwner)
  | 0x0C => (fixedLength 0, storeOwner)
  | 0x0D => (fixedLength 0, restartOwner)
  | 0x0E => (fixedLength 2, modeOwner)
  | 0x0F => (fixedLength 10, admitOwner)
  | 0x10 => (fixedLength 3, abandonOwner)
  | 0x11 => (fixedLength 0, evacuateOwner)
  | 0x12 => (fixedLength 0, carriageClearOwner)
  | 0x13 => (fixedLength 1, clearFlagsOwner)
  | 0x14 => (fixedLength 0, clearLinkOwner)
  | 0x15 => (fixedLength 3, readRackOwner)
  | 0x16 => (fixedLength 1, readStationOwner)
  | 0x17 => (fixedLength 2, readScheduleOwner)
  | 0x18 => (fixedLength 1, readTimelineOwner)
  | 0x19 => (fixedLength 0, readEventsOwner)
  | 0x1A => (fixedLength 0, readCompletionsOwner)
  | 0x1B => (fixedLength 4, setRouteOwner)
  | _ => (fun _ => true, fun _ t => refuse .badKind t)

/-- A frame as it ends, with the owner its kind names (R156, R157, R160). -/
def State.judgeFrame (s : State) (kind : Byte) (f : Frame) : State :=
  s.endFrame kind f (catalogue kind).1 (catalogue kind).2

/-- The bytes collected of a frame in progress. -/
def State.collect (s : State) (rx : List Byte) : State := { s with link := { s.link with path := .receiving, rx := rx } }

/-- A byte arrives (R155, R156): in HUNTING 0xA9 begins a frame; in RECEIVING the byte is a field of the frame, a length
byte above 200 discards it, and its last check byte ends it. -/
def State.receiveByte (s : State) (b : Byte) : State :=
  match s.link.path with
  | .hunting => if b = 0xA9#8 then s.collect [b] else s
  | .receiving =>
    let rx := s.link.rx ++ [b]
    if rx.length < 5 then s.collect rx
    else if 200 < u8 rx 4 then s.discard
    else if rx.length < frameSize rx then s.collect rx
    else s.judgeFrame (frameOf rx).1 (frameOf rx).2
  | .closed => s

/-- A whole frame comes over the line with an outcome as it ends: lost while the path is CLOSED; where the bytes collected
so far do not begin it, its bytes are taken one by one into the frame in progress (R156; notes/assumptions/10.md). -/
def State.takeFrame (s : State) (kind : Byte) (f : Frame) (whole : State → State) : State :=
  let bytes := frameBytes f.addr f.tag kind f.payload f.check
  if s.link.path = .closed then s
  else if s.awaits bytes then whole s
  else bytes.foldl State.receiveByte s

/-- A telegram (R156, R157). -/
def State.telegram (s : State) (kind : Byte) (f : Frame) : State := s.takeFrame kind f fun t => t.judgeFrame kind f

/-- A length byte above 200 (R156). Where none is due yet the command stands for the bytes of the frame before it too; after
a frame's own length byte it is a field like any other (notes/assumptions/10.md). -/
def State.lengthByte (s : State) (length : Byte) : State :=
  if s.link.path = .closed ∨ length.toNat ≤ 200 then s
  else if s.link.path = .receiving ∧ 5 ≤ s.link.rx.length then s.receiveByte length
  else s.discard

/-- A frame whose check fails is discarded (R156). -/
def State.checkFailed (s : State) (kind : Byte) (f : Frame) : State :=
  if frameIntact kind f then s else s.takeFrame kind f State.discard

/-- An intact frame that is not for this unit, or that carries a reply kind, is passed over (R157). -/
def State.passOver (s : State) (kind : Byte) (f : Frame) : State :=
  if frameIntact kind f && !(s.addressed f && isRequestKind kind) then s.takeFrame kind f State.hunt else s

/-- A frame whose kind is not of the catalogue (R160). -/
def State.unknownKind (s : State) (kind : Byte) (f : Frame) : State :=
  if isRequestKind kind ∧ isKnownKind kind = false then s.telegram kind f else s

/-- LEAD_BYTE_RECEIVED (R156). -/
def execLeadByteReceived (b : Byte) (inp : Inputs) (s : State) : Host.Outcome State Fault Refusal :=
  event inp (fun t => t.receiveByte b) s

/-- FRAME_GAP (R156). -/
def execFrameGap (inp : Inputs) (s : State) : Host.Outcome State Fault Refusal := event inp State.breakFrame s

/-- BYTE_DROPPED (R153, R156). -/
def execByteDropped (inp : Inputs) (s : State) : Host.Outcome State Fault Refusal :=
  event inp (fun t => t.breakFrame) s

/-- FRAME_LENGTH_DISCARD (R156). -/
def execFrameLengthDiscard (length : Byte) (inp : Inputs) (s : State) : Host.Outcome State Fault Refusal :=
  event inp (fun t => t.lengthByte length) s

/-- FRAME_CHECK_FAILED (R156). -/
def execFrameCheckFailed (kind : Byte) (f : Frame) (inp : Inputs) (s : State) : Host.Outcome State Fault Refusal :=
  event inp (fun t => t.checkFailed kind f) s

/-- FRAME_PASSED_OVER (R157). -/
def execFramePassedOver (kind : Byte) (f : Frame) (inp : Inputs) (s : State) : Host.Outcome State Fault Refusal :=
  event inp (fun t => t.passOver kind f) s

/-- UNKNOWN_REQUEST_KIND (R160). -/
def execUnknownRequestKind (kind : Byte) (f : Frame) (inp : Inputs) (s : State) : Host.Outcome State Fault Refusal :=
  event inp (fun t => t.unknownKind kind f) s

/-- LINK_WATCHDOG_EXPIRY (R162, R151). -/
def execLinkWatchdogExpiry (inp : Inputs) (s : State) : Host.Outcome State Fault Refusal :=
  event inp State.watchdogExpiry s

/-- REPLY_SENT (R157, R9, R15, R152). -/
def execReplySent (inp : Inputs) (s : State) : Host.Outcome State Fault Refusal :=
  event inp (fun t => t.replySent inp) s

/-! ### Requests -/

/-- IDENTIFY (R163). -/
def execIdentify (f : Frame) (inp : Inputs) (s : State) : Host.Outcome State Fault Refusal :=
  event inp (fun t => t.telegram 0x01#8 f) s

/-- STATUS (R164). -/
def execStatus (f : Frame) (inp : Inputs) (s : State) : Host.Outcome State Fault Refusal :=
  event inp (fun t => t.telegram 0x02#8 f) s

/-- SET LINE (R8). -/
def execSetLine (f : Frame) (inp : Inputs) (s : State) : Host.Outcome State Fault Refusal :=
  event inp (fun t => t.telegram 0x03#8 f) s

/-- SET STATION (R10). -/
def execSetStation (f : Frame) (inp : Inputs) (s : State) : Host.Outcome State Fault Refusal :=
  event inp (fun t => t.telegram 0x04#8 f) s

/-- STATION SERVICE (R12). -/
def execStationService (f : Frame) (inp : Inputs) (s : State) : Host.Outcome State Fault Refusal :=
  event inp (fun t => t.telegram 0x05#8 f) s

/-- SET CURVE (R27). -/
def execSetCurve (f : Frame) (inp : Inputs) (s : State) : Host.Outcome State Fault Refusal :=
  event inp (fun t => t.telegram 0x06#8 f) s

/-- SET RECIPE (R22). -/
def execSetRecipe (f : Frame) (inp : Inputs) (s : State) : Host.Outcome State Fault Refusal :=
  event inp (fun t => t.telegram 0x07#8 f) s

/-- SET PATTERN (R29). -/
def execSetPattern (f : Frame) (inp : Inputs) (s : State) : Host.Outcome State Fault Refusal :=
  event inp (fun t => t.telegram 0x08#8 f) s

/-- SET BURSTS (R120). -/
def execSetBursts (f : Frame) (inp : Inputs) (s : State) : Host.Outcome State Fault Refusal :=
  event inp (fun t => t.telegram 0x09#8 f) s

/-- SET ROUTE (R170). -/
def execSetRoute (f : Frame) (inp : Inputs) (s : State) : Host.Outcome State Fault Refusal :=
  event inp (fun t => t.telegram 0x1B#8 f) s

/-- SET EXHAUSTION (R137). -/
def execSetExhaustion (f : Frame) (inp : Inputs) (s : State) : Host.Outcome State Fault Refusal :=
  event inp (fun t => t.telegram 0x0A#8 f) s

/-- READ SETTING (R30). -/
def execReadSetting (f : Frame) (inp : Inputs) (s : State) : Host.Outcome State Fault Refusal :=
  event inp (fun t => t.telegram 0x0B#8 f) s

/-- STORE (R18). -/
def execStore (f : Frame) (inp : Inputs) (s : State) : Host.Outcome State Fault Refusal :=
  event inp (fun t => t.telegram 0x0C#8 f) s

/-- RESTART (R152). -/
def execRestart (f : Frame) (inp : Inputs) (s : State) : Host.Outcome State Fault Refusal :=
  event inp (fun t => t.telegram 0x0D#8 f) s

/-- MODE (R145). -/
def execMode (f : Frame) (inp : Inputs) (s : State) : Host.Outcome State Fault Refusal :=
  event inp (fun t => t.telegram 0x0E#8 f) s

/-- ADMIT (R57). -/
def execAdmitRack (f : Frame) (inp : Inputs) (s : State) : Host.Outcome State Fault Refusal :=
  event inp (fun t => t.telegram 0x0F#8 f) s

/-- ABANDON (R66). -/
def execAbandon (f : Frame) (inp : Inputs) (s : State) : Host.Outcome State Fault Refusal :=
  event inp (fun t => t.telegram 0x10#8 f) s

/-- EVACUATE (R111). -/
def execEvacuate (f : Frame) (inp : Inputs) (s : State) : Host.Outcome State Fault Refusal :=
  event inp (fun t => t.telegram 0x11#8 f) s

/-- CARRIAGE CLEAR (R110). -/
def execCarriageClear (f : Frame) (inp : Inputs) (s : State) : Host.Outcome State Fault Refusal :=
  event inp (fun t => t.telegram 0x12#8 f) s

/-- CLEAR FLAGS (R135). -/
def execClearFlags (f : Frame) (inp : Inputs) (s : State) : Host.Outcome State Fault Refusal :=
  event inp (fun t => t.telegram 0x13#8 f) s

/-- CLEAR LINK (R159). -/
def execClearLink (f : Frame) (inp : Inputs) (s : State) : Host.Outcome State Fault Refusal :=
  event inp (fun t => t.telegram 0x14#8 f) s

/-- READ RACK (R73). -/
def execReadRack (f : Frame) (inp : Inputs) (s : State) : Host.Outcome State Fault Refusal :=
  event inp (fun t => t.telegram 0x15#8 f) s

/-- READ STATION (R142). -/
def execReadStation (f : Frame) (inp : Inputs) (s : State) : Host.Outcome State Fault Refusal :=
  event inp (fun t => t.telegram 0x16#8 f) s

/-- READ SCHEDULE (R92). -/
def execReadSchedule (f : Frame) (inp : Inputs) (s : State) : Host.Outcome State Fault Refusal :=
  event inp (fun t => t.telegram 0x17#8 f) s

/-- READ TIMELINE (R93). -/
def execReadTimeline (f : Frame) (inp : Inputs) (s : State) : Host.Outcome State Fault Refusal :=
  event inp (fun t => t.telegram 0x18#8 f) s

/-- READ EVENTS (R167). -/
def execReadEvents (f : Frame) (inp : Inputs) (s : State) : Host.Outcome State Fault Refusal :=
  event inp (fun t => t.telegram 0x19#8 f) s

/-- READ COMPLETIONS (R65). -/
def execReadCompletions (f : Frame) (inp : Inputs) (s : State) : Host.Outcome State Fault Refusal :=
  event inp (fun t => t.telegram 0x1A#8 f) s

end Sys2Proof.Machine
end

