-- ==== Sys2Proof/Machine/PlantCommands.lean ====
section
/-! DEFINITION. The meanings of the commands that come from power, from time and from the plant. A command whose condition
does not hold changes nothing but the pins and what follows them (notes/assumptions/2.md). -/

namespace Sys2Proof.Machine

/-! ### Power and RESET -/

/-- POWER_ON (R16, R19). -/
def execPowerOn (wrote : Bool) (inp : Inputs) (s : State) : Host.Outcome State Fault Refusal :=
  .next (s.powerOn wrote inp)

/-- RESET_ASSERTED (R5, R19, R155). -/
def execResetAsserted (wrote : Bool) (inp : Inputs) (s : State) : Host.Outcome State Fault Refusal :=
  .next (s.resetAsserted wrote inp)

/-- RESET_RELEASED (R5). -/
def execResetReleased (inp : Inputs) (s : State) : Host.Outcome State Fault Refusal := .next (s.resetReleased inp)

/-- POWER_LOSS (R19). -/
def execPowerLoss (wrote : Bool) (inp : Inputs) (s : State) : Host.Outcome State Fault Refusal :=
  .next (s.powerLoss wrote inp)

/-- The start-up load ends, where one runs (R16). -/
def State.endLoad (s : State) : State :=
  match s.run with
  | .loading cause => s.loadDone cause
  | .off | .held | .running => s

/-- STARTUP_LOAD_DONE (R16). -/
def execStartupLoadDone (inp : Inputs) (s : State) : Host.Outcome State Fault Refusal := event inp State.endLoad s

/-! ### Time -/

/-- LINE_SECOND (R6). -/
def execLineSecond (order : List SecondTask) (inp : Inputs) (s : State) : Host.Outcome State Fault Refusal :=
  event inp (fun t => t.lineSecond order) s

/-- INTERVAL_EXPIRY (R81). -/
def execIntervalExpiry (station index : Nat) (inp : Inputs) (s : State) : Host.Outcome State Fault Refusal :=
  event inp (fun t => t.examineAt station index) s

/-- OVERSTAY (R107). -/
def execOverstay (slot : Nat) (inp : Inputs) (s : State) : Host.Outcome State Fault Refusal :=
  event inp (fun t => t.examineOverstay slot) s

/-- WARMUP_TIMEOUT (R148). -/
def execWarmupTimeout (inp : Inputs) (s : State) : Host.Outcome State Fault Refusal := event inp State.timeoutWarmup s

/-! ### The carriage -/

/-- MOVE_START (R96). -/
def execMoveStart (inp : Inputs) (s : State) : Host.Outcome State Fault Refusal := event inp State.moveStart s

/-- CARRIAGE_ARRIVAL (R95, R99). -/
def execCarriageArrival (inp : Inputs) (s : State) : Host.Outcome State Fault Refusal := event inp State.carriageArrival s

/-- HOIST_UP_LIMIT (R97). -/
def execHoistUpLimit (inp : Inputs) (s : State) : Host.Outcome State Fault Refusal := event inp State.upLimit s

/-- DRAIN_END (R98). -/
def execDrainEnd (inp : Inputs) (s : State) : Host.Outcome State Fault Refusal := event inp State.drainDue s

/-- HOIST_DOWN_LIMIT (R100). -/
def execHoistDownLimit (inp : Inputs) (s : State) : Host.Outcome State Fault Refusal := event inp State.downLimit s

/-- HOOK_FALL (R108). -/
def execHookFall (inp : Inputs) (s : State) : Host.Outcome State Fault Refusal := event inp State.hookFall s

/-- PHASE_TIMEOUT (R108). -/
def execPhaseTimeout (inp : Inputs) (s : State) : Host.Outcome State Fault Refusal := event inp State.phaseTimeout s

/-! ### Cradles -/

/-- The fixed dunk of a rack's plan has come due (R114, R115). It is decided after the other blocks' work of its second
(notes/assumptions/41.md). -/
def State.dunkNow (s : State) (slot : Nat) : State :=
  match s.plans.find? (·.slot == slot) with
  | some p =>
    match p.dunk with
    | some d => if d.second ≤ s.clock then s.dunkDue p d else s
    | none => s
  | none => s

/-- DUNK_DUE (R115). -/
def execDunkDue (slot : Nat) (inp : Inputs) (s : State) : Host.Outcome State Fault Refusal :=
  event inp (fun t => t.dunkNow slot) s

/-- The up-limit reads true in RISING: OUT from the present second (R116). -/
def State.cradleUp (s : State) (n : Nat) : State :=
  if (s.cradle n).state = .rising ∧ (s.pin n).cradleUp = true then
    s.setCradle n { s.cradle n with state := .out, since := s.clock }
  else s

/-- CRADLE_UP_LIMIT (R116). -/
def execCradleUpLimit (station : Nat) (inp : Inputs) (s : State) : Host.Outcome State Fault Refusal :=
  event inp (fun t => t.cradleUp station) s

/-- The second at which the out time ends (R116). -/
def Cradle.outEnd (c : Cradle) : Nat := addSec c.since c.outTime

/-- The out time has ended: FALLING from the second of its end (R116). -/
def State.dunkOutEnd (s : State) (n : Nat) : State :=
  if (s.cradle n).state = .out ∧ (s.cradle n).outEnd ≤ s.clock then s.beginFalling n (s.cradle n).outEnd else s

/-- DUNK_OUT_END (R116). -/
def execDunkOutEnd (station : Nat) (inp : Inputs) (s : State) : Host.Outcome State Fault Refusal :=
  event inp (fun t => t.dunkOutEnd station) s

/-- The down-limit reads true in FALLING (R113). -/
def State.cradleDown (s : State) (n : Nat) : State :=
  if (s.cradle n).state = .falling ∧ (s.pin n).cradleDown = true then
    s.setCradle n { s.cradle n with state := .down }
  else s

/-- CRADLE_DOWN_LIMIT (R113). -/
def execCradleDownLimit (station : Nat) (inp : Inputs) (s : State) : Host.Outcome State Fault Refusal :=
  event inp (fun t => t.cradleDown station) s

/-- The cradle has not reached the limit of its motion within the cradle time (R113, R116). -/
def State.cradleOverdue (s : State) (n : Nat) : Bool :=
  decide (addSec (s.cradle n).since s.cfg.line.cradleTime ≤ s.clock) &&
  match (s.cradle n).state with
  | .rising => !(s.pin n).cradleUp
  | .falling => !(s.pin n).cradleDown
  | .none | .down | .out | .held => false

/-- A cradle limit is missed (R116). -/
def State.cradleTimeout (s : State) (n : Nat) : State := if s.cradleOverdue n then s.cradleFault n else s

/-- CRADLE_TIMEOUT (R116). -/
def execCradleTimeout (station : Nat) (inp : Inputs) (s : State) : Host.Outcome State Fault Refusal :=
  event inp (fun t => t.cradleTimeout station) s

/-! ### The manifold -/

/-- The step from tick 199 to 0 (R118). -/
def State.wrapDue (s : State) : State := if s.manifold.running ∧ 199 ≤ s.manifold.tick then s.tick else s

/-- FRAME_WRAP (R118). -/
def execFrameWrap (inp : Inputs) (s : State) : Host.Outcome State Fault Refusal := event inp State.wrapDue s

/-- One tick while the manifold runs (R118). -/
def State.tickDue (s : State) : State := if s.manifold.running then s.tick else s

/-- MANIFOLD_TICK (R118; notes/assumptions/25.md). -/
def execManifoldTick (inp : Inputs) (s : State) : Host.Outcome State Fault Refusal := event inp State.tickDue s

/-- BURST_ON_TICK (R124). -/
def execBurstOnTick (station : Nat) (inp : Inputs) (s : State) : Host.Outcome State Fault Refusal :=
  event inp (fun t => t.burstOn station) s

/-- BURST_OFF_TICK (R123). -/
def execBurstOffTick (station : Nat) (inp : Inputs) (s : State) : Host.Outcome State Fault Refusal :=
  event inp (fun t => t.burstOff station) s

/-- GAS_PRESSURE_CHANGE (R125; notes/assumptions/26.md). -/
def execGasPressureChange (inp : Inputs) (s : State) : Host.Outcome State Fault Refusal := event inp State.readGas s

/-! ### The pump and the store -/

/-- PUMP_START (R139). -/
def execPumpStart (inp : Inputs) (s : State) : Host.Outcome State Fault Refusal := event inp State.startPump s

/-- PUMP_FLOW_FAULT (R140). -/
def execPumpFlowFault (inp : Inputs) (s : State) : Host.Outcome State Fault Refusal := event inp State.flowFault s

/-- PUMP_RUN_COMPLETE (R140). -/
def execPumpRunComplete (inp : Inputs) (s : State) : Host.Outcome State Fault Refusal := event inp State.completeRun s

/-- STORE_WRITE_END (R18). -/
def execStoreWriteEnd (good : Bool) (inp : Inputs) (s : State) : Host.Outcome State Fault Refusal :=
  event inp (fun t => t.storeWriteEnd good) s

end Sys2Proof.Machine
end

