-- ==== Sys2Proof/Machine/Dispatch.lean ====
section
/-! DEFINITION. The meaning of each command: one arm for each constructor, in the table's order. -/

namespace Sys2Proof.Machine

/-- The effect of a command on everything but the queue of waiting commands. -/
def exec (i : Instr) (s : State) : Host.Outcome State Fault Refusal :=
  match i with
  | .powerOn wrote inp => Sys2Proof.Machine.execPowerOn wrote inp s
  | .resetAsserted wrote inp => Sys2Proof.Machine.execResetAsserted wrote inp s
  | .resetReleased inp => Sys2Proof.Machine.execResetReleased inp s
  | .startupLoadDone inp => Sys2Proof.Machine.execStartupLoadDone inp s
  | .lineSecond order inp => Sys2Proof.Machine.execLineSecond order inp s
  | .intervalExpiry station index inp => Sys2Proof.Machine.execIntervalExpiry station index inp s
  | .overstay slot inp => Sys2Proof.Machine.execOverstay slot inp s
  | .warmupTimeout inp => Sys2Proof.Machine.execWarmupTimeout inp s
  | .moveStart inp => Sys2Proof.Machine.execMoveStart inp s
  | .carriageArrival inp => Sys2Proof.Machine.execCarriageArrival inp s
  | .hoistUpLimit inp => Sys2Proof.Machine.execHoistUpLimit inp s
  | .drainEnd inp => Sys2Proof.Machine.execDrainEnd inp s
  | .hoistDownLimit inp => Sys2Proof.Machine.execHoistDownLimit inp s
  | .hookFall inp => Sys2Proof.Machine.execHookFall inp s
  | .phaseTimeout inp => Sys2Proof.Machine.execPhaseTimeout inp s
  | .dunkDue slot inp => Sys2Proof.Machine.execDunkDue slot inp s
  | .cradleUpLimit station inp => Sys2Proof.Machine.execCradleUpLimit station inp s
  | .dunkOutEnd station inp => Sys2Proof.Machine.execDunkOutEnd station inp s
  | .cradleDownLimit station inp => Sys2Proof.Machine.execCradleDownLimit station inp s
  | .cradleTimeout station inp => Sys2Proof.Machine.execCradleTimeout station inp s
  | .frameWrap inp => Sys2Proof.Machine.execFrameWrap inp s
  | .burstOnTick station inp => Sys2Proof.Machine.execBurstOnTick station inp s
  | .burstOffTick station inp => Sys2Proof.Machine.execBurstOffTick station inp s
  | .gasPressureChange inp => Sys2Proof.Machine.execGasPressureChange inp s
  | .pumpStart inp => Sys2Proof.Machine.execPumpStart inp s
  | .pumpFlowFault inp => Sys2Proof.Machine.execPumpFlowFault inp s
  | .pumpRunComplete inp => Sys2Proof.Machine.execPumpRunComplete inp s
  | .storeWriteEnd good inp => Sys2Proof.Machine.execStoreWriteEnd good inp s
  | .linkWatchdogExpiry inp => Sys2Proof.Machine.execLinkWatchdogExpiry inp s
  | .frameGap inp => Sys2Proof.Machine.execFrameGap inp s
  | .byteDropped inp => Sys2Proof.Machine.execByteDropped inp s
  | .frameLengthDiscard length inp => Sys2Proof.Machine.execFrameLengthDiscard length inp s
  | .frameCheckFailed kind f inp => Sys2Proof.Machine.execFrameCheckFailed kind f inp s
  | .framePassedOver kind f inp => Sys2Proof.Machine.execFramePassedOver kind f inp s
  | .unknownRequestKind kind f inp => Sys2Proof.Machine.execUnknownRequestKind kind f inp s
  | .replySent inp => Sys2Proof.Machine.execReplySent inp s
  | .identify f inp => Sys2Proof.Machine.execIdentify f inp s
  | .status f inp => Sys2Proof.Machine.execStatus f inp s
  | .setLine f inp => Sys2Proof.Machine.execSetLine f inp s
  | .setStation f inp => Sys2Proof.Machine.execSetStation f inp s
  | .stationService f inp => Sys2Proof.Machine.execStationService f inp s
  | .setCurve f inp => Sys2Proof.Machine.execSetCurve f inp s
  | .setRecipe f inp => Sys2Proof.Machine.execSetRecipe f inp s
  | .setPattern f inp => Sys2Proof.Machine.execSetPattern f inp s
  | .setBursts f inp => Sys2Proof.Machine.execSetBursts f inp s
  | .setRoute f inp => Sys2Proof.Machine.execSetRoute f inp s
  | .setExhaustion f inp => Sys2Proof.Machine.execSetExhaustion f inp s
  | .readSetting f inp => Sys2Proof.Machine.execReadSetting f inp s
  | .store f inp => Sys2Proof.Machine.execStore f inp s
  | .restart f inp => Sys2Proof.Machine.execRestart f inp s
  | .mode f inp => Sys2Proof.Machine.execMode f inp s
  | .admitRack f inp => Sys2Proof.Machine.execAdmitRack f inp s
  | .abandon f inp => Sys2Proof.Machine.execAbandon f inp s
  | .evacuate f inp => Sys2Proof.Machine.execEvacuate f inp s
  | .carriageClear f inp => Sys2Proof.Machine.execCarriageClear f inp s
  | .clearFlags f inp => Sys2Proof.Machine.execClearFlags f inp s
  | .clearLink f inp => Sys2Proof.Machine.execClearLink f inp s
  | .readRack f inp => Sys2Proof.Machine.execReadRack f inp s
  | .readStation f inp => Sys2Proof.Machine.execReadStation f inp s
  | .readSchedule f inp => Sys2Proof.Machine.execReadSchedule f inp s
  | .readTimeline f inp => Sys2Proof.Machine.execReadTimeline f inp s
  | .readEvents f inp => Sys2Proof.Machine.execReadEvents f inp s
  | .readCompletions f inp => Sys2Proof.Machine.execReadCompletions f inp s
  | .powerLoss wrote inp => Sys2Proof.Machine.execPowerLoss wrote inp s
  | .manifoldTick inp => Sys2Proof.Machine.execManifoldTick inp s
  | .leadByteReceived b inp => Sys2Proof.Machine.execLeadByteReceived b inp s

end Sys2Proof.Machine
end

