-- ==== Sys2Proof/Safety.lean ====
section
/-! DEFINITION. The terms in which claims are made: when a frame is taken, what a full reset leaves, and the properties
every step keeps. -/

namespace Sys2Proof.Machine

/-! ### Taking a frame -/

/-- The path can take the whole frame: it looks for a lead byte, or the bytes it has collected begin the frame (R156). -/
def State.takes (s : State) (kind : Byte) (f : Frame) : Prop :=
  s.link.path = .hunting ∨
  (s.link.path = .receiving ∧ s.link.rx <+: frameBytes f.addr f.tag kind f.payload f.check)

/-- The receive path can take the frame, and the frame is an intact request of the kind for this unit (R155 to R157). -/
def State.hears (s : State) (kind : Byte) (f : Frame) : Prop :=
  s.run = .running ∧ s.takes kind f ∧ f.payload.length ≤ 200 ∧ frameIntact kind f = true ∧ f.addr.toNat = s.link.addr

/-- The state in which the owner of a request finds the part: the pins as they stand, the path closed, the watchdog
touched (R157, R160, R162). -/
def State.taken (s : State) (kind : Byte) (f : Frame) (inp : Inputs) : State := (s.latch inp).accept kind f

/-- The link of a part that answers a request (R161). -/
def State.replying (s : State) (kind : Byte) (f : Frame) (inp : Inputs) (payload : List Byte) : Link :=
  { (s.taken kind f inp).link with
    reply := some { addr := BitVec.ofNat 8 s.link.addr, tag := f.tag, kind := kind + 0x80#8, payload := payload } }

/-- A command has answered with the payload and has changed nothing but the link, the outputs, the pins and what the
acceptance of a frame posts. -/
def State.onlyAnswered (s t : State) (kind : Byte) (f : Frame) (inp : Inputs) (payload : List Byte) : Prop :=
  t = { s.taken kind f inp with link := s.replying kind f inp payload, out := t.out }

/-! ### Full reset -/

/-- The state full reset leaves before the start-up load has ended, for the inputs it is made with (R4, R15, R52, R64,
R78, R79, R91, R94, R111, R118, R138, R139, R143, R155, R158, R162, R166). -/
def State.freshlyReset (t : State) (inp : Inputs) : Prop :=
  t.clock = 0 ∧ t.accrualDue = [] ∧ t.pins = inp ∧ t.out = .released ∧ t.storeWrite = none ∧
  (t.line.state = .dormant ∧ t.line.drainTarget = none ∧ t.line.warmStart = none ∧ (∀ c ∈ t.line.settle, c = 0) ∧
    t.line.gasLow = false ∧ t.line.pumpFault = false ∧ t.line.carriageFault = false) ∧
  ((∀ r ∈ t.slots, r = none) ∧ t.completions = [] ∧ t.events = [] ∧ t.lost = 0) ∧
  (t.schedule = [] ∧ (∀ l ∈ t.timelines, l = []) ∧ t.deferred = [] ∧ t.evacOrder = []) ∧
  (t.driver.state = .idle ∧ t.driver.position = (if inp.atStation = 0 then 1 else inp.atStation) ∧
    t.driver.goTo = t.driver.position ∧ t.driver.entry = none ∧ t.driver.phaseStart = none ∧
    t.driver.upSecond = none ∧ t.driver.faultCleared = false) ∧
  (t.manifold.running = false ∧ t.manifold.tick = 0 ∧ t.manifold.frame = 0 ∧ t.manifold.applyPending = false ∧
    (∀ v ∈ t.manifold.valves, v = false) ∧ t.plans = []) ∧
  (∀ b ∈ t.baths, b.history = [] ∧ b.lastAccepted = none ∧ b.filtered = none ∧ b.invalid = 0 ∧ b.rejected = 0 ∧
    b.fresh = false ∧ b.conds.any = false ∧ b.latches.any = false ∧ b.exhaustion = 0) ∧
  (t.deliveries = [] ∧ t.pump = none) ∧
  (t.link.path = .closed ∧ t.link.reply = none ∧ t.link.discards = 0 ∧ t.link.lost = false ∧
    t.link.degraded = false ∧ t.link.straps = inp.straps ∧
    t.link.addr = (if 1 ≤ inp.straps ∧ inp.straps ≤ 30 then inp.straps else 1))

/-! ### Requests by kind -/

/-- A request of the catalogue: its kind, the payload lengths it allows, its frame and the pins it comes with (12.2,
12.11). -/
def requestOf : Instr → Option (Byte × (List Byte → Bool) × Frame × Inputs)
  | .identify f inp => some (0x01#8, fixedLength 0, f, inp)
  | .status f inp => some (0x02#8, fixedLength 0, f, inp)
  | .setLine f inp => some (0x03#8, fixedLength 23, f, inp)
  | .setStation f inp => some (0x04#8, fixedLength 19, f, inp)
  | .stationService f inp => some (0x05#8, fixedLength 2, f, inp)
  | .setCurve f inp => some (0x06#8, fixedLength 38, f, inp)
  | .setRecipe f inp => some (0x07#8, countedLength 1 12, f, inp)
  | .setPattern f inp => some (0x08#8, fixedLength 9, f, inp)
  | .setBursts f inp => some (0x09#8, countedLength 0 4, f, inp)
  | .setExhaustion f inp => some (0x0A#8, fixedLength 3, f, inp)
  | .readSetting f inp => some (0x0B#8, fixedLength 2, f, inp)
  | .store f inp => some (0x0C#8, fixedLength 0, f, inp)
  | .restart f inp => some (0x0D#8, fixedLength 0, f, inp)
  | .mode f inp => some (0x0E#8, fixedLength 2, f, inp)
  | .admitRack f inp => some (0x0F#8, fixedLength 10, f, inp)
  | .abandon f inp => some (0x10#8, fixedLength 3, f, inp)
  | .evacuate f inp => some (0x11#8, fixedLength 0, f, inp)
  | .carriageClear f inp => some (0x12#8, fixedLength 0, f, inp)
  | .clearFlags f inp => some (0x13#8, fixedLength 1, f, inp)
  | .clearLink f inp => some (0x14#8, fixedLength 0, f, inp)
  | .readRack f inp => some (0x15#8, fixedLength 3, f, inp)
  | .readStation f inp => some (0x16#8, fixedLength 1, f, inp)
  | .readSchedule f inp => some (0x17#8, fixedLength 2, f, inp)
  | .readTimeline f inp => some (0x18#8, fixedLength 1, f, inp)
  | .readEvents f inp => some (0x19#8, fixedLength 0, f, inp)
  | .readCompletions f inp => some (0x1A#8, fixedLength 0, f, inp)
  | .setRoute f inp => some (0x1B#8, fixedLength 4, f, inp)
  | .powerOn _ _ | .resetAsserted _ _ | .resetReleased _ | .startupLoadDone _ | .lineSecond _ _ | .intervalExpiry _ _ _
  | .overstay _ _ | .warmupTimeout _ | .moveStart _ | .carriageArrival _ | .hoistUpLimit _ | .drainEnd _
  | .hoistDownLimit _ | .hookFall _ | .phaseTimeout _ | .dunkDue _ _ | .cradleUpLimit _ _ | .dunkOutEnd _ _
  | .cradleDownLimit _ _ | .cradleTimeout _ _ | .frameWrap _ | .burstOnTick _ _ | .burstOffTick _ _
  | .gasPressureChange _ | .pumpStart _ | .pumpFlowFault _ | .pumpRunComplete _ | .storeWriteEnd _ _
  | .linkWatchdogExpiry _ | .frameGap _ | .byteDropped _ | .frameLengthDiscard _ _ | .frameCheckFailed _ _ _
  | .framePassedOver _ _ _ | .unknownRequestKind _ _ _ | .replySent _ | .powerLoss _ _ | .manifoldTick _
  | .leadByteReceived _ _ => none

/-- The request changes settings and is refused while the store is busy (R19). -/
def changesSettings : Instr → Bool
  | .setLine _ _ | .setStation _ _ | .stationService _ _ | .setCurve _ _ | .setRecipe _ _ | .setPattern _ _
  | .setBursts _ _ | .setRoute _ _ | .store _ _ | .restart _ _ => true
  | _ => false

/-- The command brings a byte or the bytes of a frame while another frame is in progress, which it may end (R156). -/
def State.midFrame (s : State) (c : Instr) : Prop :=
  s.link.path = .receiving ∧
  ((requestOf c).isSome = true ∨ (∃ b inp, c = .leadByteReceived b inp ∨ c = .frameLengthDiscard b inp) ∨
    ∃ kind f inp, c = .frameCheckFailed kind f inp ∨ c = .framePassedOver kind f inp ∨ c = .unknownRequestKind kind f inp)

/-- The command brings about a full reset (R5, R16, R152). -/
def fullResets : Instr → Bool
  | .powerOn _ _ | .resetReleased _ | .replySent _ => true
  | _ => false

/-! ### Carriage faults and dunks -/

/-- An event record has been posted, unless the queue held all it can (R166). -/
def State.posted (s t : State) (kind : EventKind) (station slot tag detail : Nat) : Prop :=
  (⟨s.clock, kind, station, slot, tag, detail⟩ : Event) ∈ t.events ∨ 64 ≤ t.events.length

/-- What the end of the rack `r` of slot `k` with an outcome leaves: its record in the completion queue and its slot free,
or, the queue being full, the rack AWAITING_REPORT (R59, R64). -/
def State.rackEnded (s t : State) (k : Nat) (r : Rack) (outcome : RackOutcome) : Prop :=
  (t.rack k = none ∧ ∃ c ∈ t.completions, c.tag = r.tag ∧ c.outcome = outcome ∧ c.removed = s.clock ∧
    c.recipe = r.recipe.getD 0 ∧ c.deviations = r.deviations) ∨
  (16 ≤ t.completions.length ∧ ∃ q, t.rack k = some q ∧ q.phase = .awaitingReport ∧ q.station = 0 ∧ q.tag = r.tag ∧
    q.outcome = outcome ∧ q.ended = some s.clock)

/-- What a carriage fault leaves of a state (R69, R108, R109, R150). -/
def State.carriageStopped (s t : State) (code : FaultCode) (station : Nat) : Prop :=
  (t.driver.state = .stopped ∧ t.driver.entry = none ∧ t.driver.phaseStart = none ∧ t.driver.deadline = none ∧
    t.driver.position = s.driver.position ∧ t.driver.goTo = s.driver.goTo) ∧
  t.line.carriageFault = true ∧
  ((∀ e, s.executing = some e → s.posted t .carriageFault station e.slot (s.tagOf e.slot) code.code) ∧
    (s.executing = none → ∀ k r, s.carried = some (k, r) → s.posted t .carriageFault station k r.tag code.code) ∧
    (s.executing = none → s.carried = none → s.posted t .carriageFault station 255 0 code.code)) ∧
  (s.line.state = .ready ∨ s.line.state = .draining ∨ s.line.state = .warmup →
    t.line.state = .faulted ∧ t.driver.faultCleared = false ∧
    (∀ k r, k < 24 → s.rack k = some r →
      r.phase = .inBath ∨ r.phase = .onCarriage ∨ (r.phase = .orphan ∧ s.isBath r.station = true) →
      ∃ q, t.rack k = some q ∧ q.pending = .interrupted ∧ q.flags.interrupted = true ∧ q.phase = r.phase ∧
        q.station = r.station ∧ q.step = r.step ∧ q.dose = r.dose) ∧
    (∀ k r, k < 24 → s.rack k = some r → r.phase = .waitingEntry →
      s.rackEnded t k r .withdrawn ∧ s.posted t .rackRemoved r.station k r.tag 4) ∧
    (∀ k r, k < 24 → s.rack k = some r →
      r.phase = .atUnload ∨ r.phase = .awaitingReport ∨ (r.phase = .orphan ∧ s.isBath r.station = false) →
      t.rack k = some { r with nextStart := none })) ∧
  (s.line.state = .faulted → t.line.state = .faulted ∧ t.driver.faultCleared = false ∧
    ∀ k, t.rack k = (s.rack k).map fun r => { r with nextStart := none }) ∧
  (s.line.state = .ready ∨ s.line.state = .draining ∨ s.line.state = .warmup ∨ s.line.state = .faulted →
    t.schedule = [] ∧ (∀ l ∈ t.timelines, l = []) ∧ t.deferred = [] ∧ t.evacOrder = []) ∧
  (s.line.state = .dormant ∨ s.line.state = .standby →
    t.line.state = s.line.state ∧ t.schedule = s.schedule ∧ t.slots = s.slots)

/-- A dunk time of a pattern for a rack immersed in second `i` (R114). -/
def Pattern.dunkTime (p : Pattern) (i x : Nat) : Prop :=
  (∃ m, 1 ≤ m ∧ m ≤ p.initialCount ∧ x = i + m * p.initialInterval) ∨
  (∃ m, 1 ≤ m ∧ x = i + p.initialCount * p.initialInterval + m * p.period)

/-- The earliest dunk time of a pattern later than second `t` (R114). -/
def Pattern.nextDunk (p : Pattern) (i t x : Nat) : Prop :=
  p.dunkTime i x ∧ t < x ∧ ∀ y, p.dunkTime i y → t < y → x ≤ y

/-- The dunk fixed in second `t` for a rack immersed in second `i`: none under a mode without dunks; otherwise the earliest
dunk time later than `t`, a line second that stops at the largest, with the out time and Q of the pattern as it stands; none
where no line second is later than `t` (R6, R28, R114). -/
def Pattern.fixes (p : Pattern) (i t : Nat) (dunk : Option Dunk) : Prop :=
  (p.mode = .none ∨ p.mode = .gas → dunk = none) ∧
  (p.mode = .dunk ∨ p.mode = .both → 4294967295 ≤ t → dunk = none) ∧
  (p.mode = .dunk ∨ p.mode = .both → t < 4294967295 →
    ∃ x, p.nextDunk i t x ∧ dunk = some ⟨min x 4294967295, p.outTime, p.quiet⟩)

/-! ### Bookings, slides and approaches -/

/-- The chain a walk found for the rack of a slot is booked: its moves stand for the rack's BOOKED ones, its intervals for
those of the rack from stay number `first` on, the rack is out of the deferred set and has its planned start (R53, R67, R89,
R90). -/
def State.chainBooked (v w : State) (k first : Nat) (c : Cursor) : Prop :=
  (∀ m, m ∈ w.schedule ↔ (m ∈ v.schedule ∧ (m.slot ≠ k ∨ m.executing = true)) ∨ m ∈ c.entries) ∧
  w.deferred = v.deferred.filter (fun x => x.slot != k) ∧
  (∀ n, 1 ≤ n → n ≤ v.timelines.length → ∀ iv,
    iv ∈ w.timeline n ↔ (iv ∈ v.timeline n ∧ (iv.slot ≠ k ∨ iv.step < first)) ∨ (n, iv) ∈ c.stays) ∧
  ∀ q, w.rack k = some q → q.nextStart = nextStartIn w.schedule k

/-- The booking of a chain for the rack `r` of a slot, and nothing else, leads from one state to the other (R89). -/
def State.onlyBooked (v w : State) (k : Nat) (r : Rack) (c : Cursor) : Prop :=
  v.chainBooked w k r.step c ∧
  w = { v with schedule := w.schedule, deferred := w.deferred, timelines := w.timelines,
               slots := v.slots.set k (some { r with nextStart := nextStartIn w.schedule k }) }

/-- The re-placement pass takes one rack of the deferred set (R106): skipped while another rack on the hook waits, it is
booked where its walk passes, and otherwise left where it is. -/
def State.retried (v w : State) (d : Deferred) : Prop :=
  (∀ r, v.rack d.slot = some r → v.hookedWaits = false ∨ r.phase = .onCarriage →
    (∀ c, v.walk (if d.kind = .evacuate then v.evacTrip d.slot r else v.replaceTrip d.slot r) (v.cursorOf d.slot r)
        (min (v.clock + 1) 4294967295) = .ok c → v.onlyBooked w d.slot r c) ∧
    (∀ why, v.walk (if d.kind = .evacuate then v.evacTrip d.slot r else v.replaceTrip d.slot r) (v.cursorOf d.slot r)
        (min (v.clock + 1) 4294967295) = .error why → w = v)) ∧
  (∀ r, v.rack d.slot = some r → v.hookedWaits = true → r.phase ≠ .onCarriage → w = v) ∧
  (v.rack d.slot = none → w = v)

/-- EVACUATE takes the rack of one slot (R111): its evacuation is booked where its walk passes, and otherwise, and while a
rack on the hook waits, the rack joins the deferred set at its end. -/
def State.evacuated (v w : State) (k : Nat) : Prop :=
  ∀ r, v.rack k = some r →
    ∀ u, u = { v with deferred := (v.deferred.filter fun x => x.slot != k) ++ [⟨k, .evacuate, v.clock⟩] } →
    (v.hookedWaits = true → w = u) ∧
    (v.hookedWaits = false →
      (∀ c, v.walk (v.evacTrip k r) (v.cursorOf k r) (min (v.clock + 1) 4294967295) = .ok c → v.onlyBooked w k r c) ∧
      (∀ why, v.walk (v.evacTrip k r) (v.cursorOf k r) (min (v.clock + 1) 4294967295) = .error why → w = u))

/-- The entries and intervals of a slot are the same in both states. -/
def State.samePlans (v w : State) (k : Nat) : Prop :=
  w.schedule.filter (·.slot == k) = v.schedule.filter (·.slot == k) ∧
  ∀ n iv, iv.slot = k → (iv ∈ w.timeline n ↔ iv ∈ v.timeline n)

/-- The planned start of the firm entry `e` has become `p`, and the rack's intervals have followed: the stay at the source
ends with the drain, the one at the destination begins at `p`, an UNLOAD_HOLD ends after its hold (R101). -/
def State.slidTo (v w : State) (e : Entry) (p : Nat) : Prop :=
  w.schedule.filter (·.slot == e.slot) = (v.schedule.filter (·.slot == e.slot)).map (fun m =>
    if m.executing = false ∧ m.firm = true ∧ m.index = e.index then { m with start := p } else m) ∧
  ∀ n iv, iv.slot = e.slot → (iv ∈ w.timeline n ↔ ∃ o ∈ v.timeline n, o.slot = e.slot ∧
    iv = if n = e.src ∧ o.step = e.index then { o with stop := some (min (p + (v.cfg.line.tl + e.drain)) 4294967295) }
      else if n = e.dst ∧ o.step = e.index + 1 then
        { o with
            start := p
            stop := if o.purpose = .unloadHold then some (min (p + (e.duration + v.cfg.line.hold)) 4294967295)
              else o.stop }
      else o)

/-- One after the other, in the order of a list, what `one` says of each element leads from a state to the next. -/
def inTurn {α : Type} (one : State → State → α → Prop) : List α → State → State → Prop
  | [], v, w => w = v
  | a :: as, v, w => ∃ u, one v u a ∧ inTurn one as u w

/-- The Driver, free as `d`, has turned to the first entry of the schedule (R95, R4, R105): IDLE with none; WAITING where it
stands over the source, and while a rack on the hook waits; otherwise, at a hoist limit, APPROACHING the source, or WAITING
there at once where the code shows it already. -/
def State.turnedFrom (t : State) (d : Driver) : Prop :=
  (t.schedule = [] →
    t.driver = { d with state := .idle, entry := none, phaseStart := none, deadline := none, upSecond := none }) ∧
  ∀ m rest, t.schedule = m :: rest →
    (m.src = d.position ∨ t.hookedWaits = true →
      t.driver = { d with state := .waiting, entry := some (m.slot, m.index), phaseStart := none, deadline := none,
                          upSecond := none }) ∧
    (m.src ≠ d.position → t.hookedWaits = false → t.pins.hoistUp = true ∨ t.pins.hoistDown = true →
      if t.pins.atStation = m.src ∧ 1 ≤ m.src ∧ m.src ≤ t.cfg.line.count then
        t.driver = { d with state := .waiting, goTo := m.src, position := m.src, entry := some (m.slot, m.index),
                            phaseStart := none, deadline := none, upSecond := none }
      else
        t.driver = { d with state := .approaching, goTo := m.src, entry := some (m.slot, m.index),
                            phaseStart := some t.clock, approachFrom := d.position,
                            deadline := some (min (t.clock + ((((m.src - d.position) + (d.position - m.src)) *
                              t.cfg.line.tp + 9) / 10 + t.cfg.line.margin)) 4294967295) }) ∧
    (m.src ≠ d.position → t.hookedWaits = false → t.pins.hoistUp = false → t.pins.hoistDown = false → t.driver = d)

/-! ### Recipes -/

/-- The step as the part holds it: the fields of the other kind are 0 (R21). -/
def Step.ofKind (st : Step) : Step :=
  match st.kind with
  | .develop => { st with immersion := 0, stretch := 0 }
  | .bath => { st with nominal := 0, curve := 0, tolerance := 0 }

/-- The step at place `j` of a recipe passes every check of item 4 of R22 that concerns one step: the fields of its own kind
in range, a group with stations and all of them of its kind, a defined curve, another group than the step before it. -/
def State.stepServes (s : State) (steps : List Step) (j : Nat) : Prop :=
  ∀ st, steps[j]? = some st →
    1 ≤ st.group ∧ st.group ≤ 15 ∧ st.drain ≤ 30 ∧ (∀ p, st.pattern = some p → p ≤ 7) ∧
    (st.kind = .develop → 30 ≤ st.nominal ∧ st.nominal ≤ 3600 ∧ st.curve ≤ 3 ∧ st.tolerance ≤ 200 ∧
      s.curve st.curve ≠ none) ∧
    (st.kind = .bath → 10 ≤ st.immersion ∧ st.immersion ≤ 3600 ∧ st.stretch ≤ 3600) ∧
    s.groupStations st.group ≠ [] ∧
    (∀ m ∈ s.groupStations st.group, (s.role m = .develop ↔ st.kind = .develop)) ∧
    ∀ a, 1 ≤ j → steps[j - 1]? = some a → a.group ≠ st.group

/-! ### Properties every step keeps -/

/-- The queues hold no more than their rules allow (R64, R138, R158, R166). -/
def State.queuesBounded (s : State) : Prop :=
  s.events.length ≤ 64 ∧ s.lost ≤ 255 ∧ s.completions.length ≤ 16 ∧ s.deliveries.length ≤ 16 ∧
  s.link.discards ≤ 65535

/-- Every exhaustion index lies in 0 to 1000 (R136). -/
def State.exhaustionBounded (s : State) : Prop := ∀ b ∈ s.baths, b.exhaustion ≤ 1000

/-- No two enabled entries of a map share an on tick (R121). -/
def mapClear (m : List Burst) : Prop :=
  ∀ i j, 1 ≤ i → i < j → j ≤ 16 → (burstOf m i).enabled = true → (burstOf m j).enabled = true →
    (burstOf m i).onTick ≠ (burstOf m j).onTick

/-- Two enabled stations of a map agree in a tick (R121). -/
def sharedTick (tick : Burst → Nat) (m : List Burst) (i j : Nat) : Prop :=
  1 ≤ i ∧ i < j ∧ j ≤ 16 ∧ (burstOf m i).enabled = true ∧ (burstOf m j).enabled = true ∧
  tick (burstOf m i) = tick (burstOf m j)

/-- The lowest such pair: its lower station least, and of those with that one its higher station least (R121). -/
def lowestShared (tick : Burst → Nat) (m : List Burst) (i j : Nat) : Prop :=
  sharedTick tick m i j ∧ ∀ x y, sharedTick tick m x y → i < x ∨ (i = x ∧ j ≤ y)

/-- The events of an apply that makes the map `m` live (R121). -/
def State.burstsApplied (s t : State) (m : List Burst) : Prop :=
  s.posted t .burstApplied 0 255 0 (allStations.filter fun n => burstOf s.cfg.live n != burstOf m n).length ∧
  ∀ i j, lowestShared (·.offTick) m i j → s.posted t .burstOffShared i 255 0 j

/-- The place of a rack among those EVACUATE takes: the hook, the DEVELOP stations, the other baths (R111). -/
def State.evacRank (s : State) (k : Nat) : Nat :=
  match s.rack k with
  | some r => if r.phase = .onCarriage then 0 else if s.role r.station = .develop then 1 else 2
  | none => 3

/-- An EVACUATE move of the rack of a slot stands in the schedule (R111). -/
def State.evacBooked (s : State) (k : Nat) : Bool := s.schedule.any fun m => m.slot == k && m.kind == .evacuate

/-- A property of settings holds of those in use, of those a store write has captured and of those of the image. -/
def State.everySettings (s : State) (p : Settings → Prop) : Prop :=
  p s.cfg ∧ (∀ c, s.storeWrite = some c → p c) ∧ ∀ c check, s.nv = .image c check → p c

/-- The live map is clear, and so is the map of every image a later load could bring (R121). -/
def State.mapsClear (s : State) : Prop := s.everySettings fun c => mapClear c.live

/-- The schedule and the timelines hold no more than they have room for (R76, R80). -/
def State.plansBounded (s : State) : Prop := s.schedule.length ≤ 192 ∧ ∀ l ∈ s.timelines, l.length ≤ 8

/-- The schedule stands in order of span start, every timeline in order of from second (R76, R80). -/
def State.plansOrdered (s : State) : Prop :=
  s.schedule.Pairwise (fun a b => a.spanStart ≤ b.spanStart) ∧
  ∀ l ∈ s.timelines, l.Pairwise (fun a b => a.start ≤ b.start)

/-- The entries of the schedule begin before they end and are not below a second long, no two spans overlap, and the one
that executes is the first (R75 to R77). The only empty spans are those at the largest line second. -/
def State.spansApart (s : State) : Prop :=
  s.schedule.Pairwise (fun a b => a.spanEnd ≤ b.spanStart) ∧
  (∀ e ∈ s.schedule, 1 ≤ e.duration ∧ e.spanEnd ≤ 4294967295 ∧
    (e.spanStart < e.spanEnd ∨ (e.spanStart = 4294967295 ∧ e.spanEnd = 4294967295))) ∧
  ∀ e ∈ s.schedule.tail, e.executing = false

/-- A span lasts at least the duration of its move and a duration at least the travel it holds, and between consecutive
entries of the schedule lies at least the travel time from the one's to station to the other's from station (R7, R75, R76).
The sums stop at the largest line second (R6). -/
def State.travelsApart (s : State) : Prop :=
  (∀ e ∈ s.schedule, travelTime s.cfg.line.tp e.src e.dst ≤ e.duration ∧
    min (e.spanStart + e.duration) 4294967295 ≤ e.spanEnd) ∧
  ∀ (i : Nat) (a b : Entry), s.schedule[i]? = some a → s.schedule[i + 1]? = some b →
    min (a.spanEnd + travelTime s.cfg.line.tp a.dst b.src) 4294967295 ≤ b.spanStart

/-- No two BOOKED entries of the schedule are one move of one rack (R74, R77). -/
def State.movesApart (s : State) : Prop :=
  s.schedule.Pairwise fun a b => a.executing = false → b.executing = false → a.slot ≠ b.slot ∨ a.index ≠ b.index

/-- The intervals of a timeline do not overlap, an OPEN end reaching up to the next from second, and no two are one stay of
one rack (R79, R80). -/
def State.staysApart (s : State) : Prop :=
  ∀ l ∈ s.timelines, l.Pairwise fun a b =>
    a.start ≤ b.start ∧ (∀ x, a.stop = some x → x ≤ b.start) ∧ (a.slot ≠ b.slot ∨ a.step ≠ b.step)

/-- The source of an indicator route is true (R169). -/
def State.sourceHolds (s : State) (r : Route) : Prop :=
  match r.source with
  | .off => False
  | .on => True
  | .lineReady => s.line.state = .ready
  | .alert => s.out.alert = true
  | .linkLost => s.link.lost = true
  | .anyLatch => ∃ n, 1 ≤ n ∧ n ≤ 16 ∧ s.isBath n = true ∧ (s.bath n).latches.any = true
  | .stationClosed => 1 ≤ r.arg ∧ r.arg ≤ s.cfg.line.count ∧ s.isOpen r.arg = false
  | .groupOpen => s.groupStations r.arg ≠ [] ∧ ∀ n ∈ s.groupStations r.arg, s.isOpen n = true
  | .unloadWaiting => ∃ n, 1 ≤ n ∧ n ≤ 16 ∧ s.role n = .unload ∧ (s.bath n).presence = true
  | .carriageFault => s.line.carriageFault = true
  | .pumpFault => s.line.pumpFault = true

/-- In a running part the outputs stand as the blocks' states say (R3, R4, R113, R139, R143, R153, R168, R169). -/
def State.outputsFollow (s : State) : Prop :=
  s.run = .running →
    (s.out.raise = true ↔ s.driver.state = .raise) ∧ (s.out.lower = true ↔ s.driver.state = .lower) ∧
    (s.out.pumpRun = true ↔ ∃ p, s.pump = some p) ∧ s.out.valves = s.manifold.valves ∧
    s.out.lifts = s.cradles.map (fun c => c.state == .rising || c.state == .out) ∧
    (s.out.temper = true ↔ s.line.state ≠ .dormant) ∧ (s.out.setback = true ↔ s.line.state = .standby) ∧
    (s.out.circulate = true ↔ s.line.state ≠ .dormant) ∧
    (s.out.alert = true ↔ s.events ≠ [] ∨ s.completions ≠ [] ∨
      ∃ k r, k < 24 ∧ s.rack k = some r ∧ r.phase = .awaitingReport) ∧
    (s.out.selectors.length = 16 ∧ ∀ n, 1 ≤ n → n ≤ 16 →
      (s.out.selectors.getD (n - 1) false = true ↔ ∃ p, s.pump = some p ∧ p.station = n)) ∧
    (s.out.indicators.length = s.cfg.routes.length ∧ ∀ (j : Nat) (r : Route), s.cfg.routes[j]? = some r →
      (s.out.indicators[j]? = some true ↔ (s.sourceHolds r ↔ r.inverted = false))) ∧
    (s.out.driverOn = true ↔ s.link.reply ≠ none)

/-- Raise and lower are not asserted together, and at most one replenish selector is, only while pump run is (R3, R4). -/
def Outputs.exclusive (o : Outputs) : Prop :=
  ¬ (o.raise = true ∧ o.lower = true) ∧ (o.selectors.filter id).length ≤ 1 ∧
  (o.pumpRun = false → ∀ v ∈ o.selectors, v = false)

/-- The tables of the settings have their sizes (0.5, 1.11). -/
def Settings.shaped (c : Settings) : Prop :=
  c.stations.length = 16 ∧ c.closures.length = 16 ∧ c.curves.length = 4 ∧ c.recipes.length = 8 ∧
  c.patterns.length = 8 ∧ c.live.length = 16 ∧ c.routes.length = 8

/-- The tables of stations and slots have their sizes, and so have those of the settings, of a write in progress and of
the image (0.5, 1.11). -/
def State.shaped (s : State) : Prop :=
  s.everySettings Settings.shaped ∧
  s.slots.length = 24 ∧ s.timelines.length = 16 ∧ s.cradles.length = 16 ∧ s.baths.length = 16 ∧
  s.manifold.valves.length = 16 ∧ s.manifold.staged.length = 16 ∧ s.line.settle.length = 16

end Sys2Proof.Machine
end

