-- ==== Sys2Proof/Certificates/Slice0/Obligations.lean ====
section
/-! DEFINITION. The statements for the provers. Each docstring says what the statement formalises; a clause that rests on
a choice of the model names the row of notes/assumptions/. -/

open Sys2Proof Sys2Proof.Machine

/-! ### Steps, reset, power -/

/-- A step is `exec` of the command at the front of the queue on the state with the queue's rest. That an empty queue
idles is the model's choice (notes/assumptions/3.md). -/
def Obligations.StepRunsTheCommandInFront : Prop :=
  ∀ (c : Instr) (rest : List Instr) (s : State),
    step { s with pending := c :: rest } = exec c { s with pending := rest } ∧
    step { s with pending := [] } = .next { s with pending := [] }

/-- Every command answers a next state in every state, and the commands that wait stay as they are. The line clock
changes by a LINE_SECOND, which adds one second and stops at the largest value, and by a full reset, which sets it to
0; nothing else changes it. -/
def Obligations.CommandsAnswerAndOnlySecondsMoveTheClock : Prop :=
  (∀ (c : Instr) (s : State), ∃ t, exec c s = .next t ∧ t.pending = s.pending) ∧
  (∀ (c : Instr) (s t : State), exec c s = .next t →
     t.clock = s.clock ∨ (fullResets c = true ∧ t.clock = 0 ∧ t.run ≠ .running) ∨
     (∃ order inp, c = .lineSecond order inp ∧ s.run ≠ .off ∧ s.run ≠ .held ∧ t.clock = min (s.clock + 1) 4294967295))

/-- Power applied, RESET released and the end of the reply to RESTART leave every block in its full-reset state, with
the image kept and the waiting commands kept. RESET asserted as power comes holds the part
(notes/assumptions/27.md), and while the settings are loaded the unit address is that of the straps
(notes/assumptions/30.md): both are the model's choices. -/
def Obligations.FullResetLeavesTheResetState : Prop :=
  ∀ (s : State) (wrote : Bool) (inp : Inputs),
    (∃ t, exec (.powerOn wrote inp) s = .next t ∧ t.freshlyReset inp ∧
      t.pending = s.pending ∧ t.run = (if inp.reset = true then .held else .loading .power) ∧
      (s.storeWrite = none → t.nv = s.nv) ∧
      (∀ c, s.storeWrite = some c → t.nv = if wrote = true then .image c (crc16 c.bytes) else .damaged)) ∧
    (s.run = .held →
      ∃ t, exec (.resetReleased inp) s = .next t ∧ t.freshlyReset inp ∧ t.run = .loading .pin ∧ t.nv = s.nv ∧
        t.pending = s.pending) ∧
    (s.run = .running → s.link.reply ≠ none → s.link.restartPending = true →
      ∃ t, exec (.replySent inp) s = .next t ∧ t.freshlyReset inp ∧ t.run = .loading .restart ∧ t.nv = s.nv ∧
        t.pending = s.pending)

/-- POWER_LOSS and RESET_ASSERTED release every output, close the receive path and end a store write where it stands;
everything else the part holds stays until the full reset. A part without power takes neither; a held part takes no
second RESET (notes/assumptions/27.md). -/
def Obligations.PowerLossAndResetHalt : Prop :=
  ∀ (s : State) (wrote : Bool) (inp : Inputs),
    (s.run ≠ .off → ∃ t, exec (.powerLoss wrote inp) s = .next t ∧ t.run = .off ∧ t.out = .released ∧
      t.link.path = .closed ∧ t.link.reply = none ∧ t.storeWrite = none ∧
      (s.storeWrite = none → t.nv = s.nv) ∧
      (∀ c, s.storeWrite = some c → t.nv = if wrote = true then .image c (crc16 c.bytes) else .damaged) ∧
      t = { s with run := t.run, pins := inp, out := t.out, storeWrite := t.storeWrite, nv := t.nv,
                   link := { s.link with path := .closed, rx := [], reply := none } }) ∧
    (s.run = .off → exec (.powerLoss wrote inp) s = .next s) ∧
    (s.run = .running ∨ (∃ cause, s.run = .loading cause) →
      ∃ t, exec (.resetAsserted wrote inp) s = .next t ∧ t.run = .held ∧ t.out = .released ∧
      t.link.path = .closed ∧ t.link.reply = none ∧ t.storeWrite = none ∧
      (s.storeWrite = none → t.nv = s.nv) ∧
      (∀ c, s.storeWrite = some c → t.nv = if wrote = true then .image c (crc16 c.bytes) else .damaged) ∧
      t = { s with run := t.run, pins := inp, out := t.out, storeWrite := t.storeWrite, nv := t.nv,
                   link := { s.link with path := .closed, rx := [], reply := none } }) ∧
    (s.run = .off ∨ s.run = .held → exec (.resetAsserted wrote inp) s = .next s)

/-- The start-up load over an image that is blank, damaged or fails its check brings the factory defaults, sets
CONFIG_DEFAULTED, posts RESET_DONE and CONFIG_DEFAULTED, opens the receive path and starts the watchdog with 30 s. -/
def Obligations.FailedImageLoadsTheDefaults : Prop :=
  ∀ (s : State) (cause : ResetCause) (inp : Inputs), s.run = .loading cause →
    (s.nv = .blank ∨ s.nv = .damaged ∨ ∃ c check, s.nv = .image c check ∧ crc16 c.bytes ≠ check) →
    ∃ t, exec (.startupLoadDone inp) s = .next t ∧ t.run = .running ∧
      t.cfg.line = { count := 16, tl := 6, tw := 6, tp := 25, guard := 5, window := 600, hold := 180, margin := 5,
                     cradleTime := 3, settle := 120, warmTimeout := 3600, lostAction := .continue, linkTimeout := 30,
                     threshold := 100, baud := .b57600, override := 0, pumpFlow := 500 } ∧
      (t.cfg.stations.length = 16 ∧ ∀ c ∈ t.cfg.stations,
        c = { role := .unused, group := 0, winLow := 190, winHigh := 210, depth := 4, jump := 15, spreadLimit := 10,
              probeHold := 5, masks := {}, exhPerLoad := 0, slope := 0, exhLimit := 800, mlPerLoad := 0 }) ∧
      (∀ b ∈ t.cfg.closures, b = false) ∧ (∀ c ∈ t.cfg.curves, c = none) ∧ (∀ r ∈ t.cfg.recipes, r = []) ∧
      (t.cfg.patterns.length = 8 ∧ ∀ p ∈ t.cfg.patterns,
        p = { mode := .none, initialCount := 0, initialInterval := 5, period := 10, outTime := 2, quiet := 0,
              everyN := 1 }) ∧
      (t.cfg.live.length = 16 ∧ ∀ b ∈ t.cfg.live, b = { enabled := false, onTick := 0, offTick := 0 }) ∧
      (t.cfg.routes.length = 8 ∧ ∀ r ∈ t.cfg.routes, r = { source := .off, arg := 0, inverted := false }) ∧
      t.events = [⟨s.clock, .resetDone, 0, 255, 0, cause.code⟩, ⟨s.clock, .configDefaulted, 0, 255, 0, 0⟩] ∧
      t.lost = 0 ∧
      t = { s with run := .running, pins := inp, out := t.out, cfg := t.cfg, events := t.events, lost := 0,
                   line := { s.line with configDefaulted := true },
                   manifold := { s.manifold with staged := t.cfg.live, applyPending := false },
                   link := { s.link with path := .hunting, rx := [], baud := .b57600,
                                         addr := strapAddress s.link.straps, watchdog := .running 30 } }

/-- The start-up load over an image that passes its check brings its settings, posts RESET_DONE with the cause,
samples presence at the configured DEVELOP, BATH and UNLOAD stations and makes an orphan of every rack shown there,
sets EXH_UNKNOWN on the DEVELOP stations and commands the cradles down. -/
def Obligations.StoredImageLoads : Prop :=
  ∀ (s : State) (cause : ResetCause) (c : Settings) (inp : Inputs), s.run = .loading cause →
    s.nv = .image c (crc16 c.bytes) → s.slots = List.replicate 24 none → s.baths.length = 16 →
    s.cradles.length = 16 → s.clock = 0 →
    ∃ t, exec (.startupLoadDone inp) s = .next t ∧ t.run = .running ∧ t.cfg = c ∧ t.nv = s.nv ∧
      t.line.configDefaulted = false ∧ t.link.path = .hunting ∧ t.link.baud = c.line.baud ∧
      t.link.addr = (if c.line.override = 0 then strapAddress s.link.straps else c.line.override) ∧
      t.link.watchdog = (if c.line.linkTimeout = 0 then .off else .running (min c.line.linkTimeout 4294967295)) ∧
      t.manifold.staged = c.live ∧ t.manifold.applyPending = false ∧ t.lost = 0 ∧
      t.events.head? = some ⟨0, .resetDone, 0, 255, 0, cause.code⟩ ∧
      (∀ e ∈ t.events.tail, e.kind = .orphanFound ∧ e.tag = 0) ∧
      (∀ n, 1 ≤ n → n ≤ 16 →
        (((t.role n = .develop ∨ t.role n = .bath ∨ t.role n = .unload) ∧ (t.pin n).presence = true) ↔
          ∃ k r, t.rack k = some r ∧ r.station = n)) ∧
      (∀ k r, t.rack k = some r → r.phase = .orphan ∧ r.tag = 0 ∧ r.recipe = none ∧ r.load = 0 ∧ r.step = 0 ∧
        r.admitted = 0 ∧ (t.bath r.station).presence = true ∧
        (⟨0, .orphanFound, r.station, k, 0, 0⟩ : Event) ∈ t.events) ∧
      (∀ n, 1 ≤ n → n ≤ 16 → t.role n = .develop ∨ t.role n = .bath ∨ t.role n = .unload →
        (t.bath n).presence = (t.pin n).presence) ∧
      (∀ n, 1 ≤ n → n ≤ 16 → (t.cond n .exhUnknown = true ↔ t.role n = .develop ∨ s.cond n .exhUnknown = true)) ∧
      (∀ n, 1 ≤ n → n ≤ 16 → t.isBath n = true →
        (t.cradle n).since = 0 ∧ (t.cradle n).state = if (t.pin n).cradleDown = true then .down else .falling)

/-! ### Time -/

/-- A line second advances the clock, whatever the order of its work (the order is an operand,
notes/assumptions/4.md), and samples presence at every station of the rail. At every configured bath a reading above
600 counts as invalid and leaves the filter alone; a valid one is accepted or rejected by the jump limit, an accepted
one entering the filter of depth F; LEVEL_LOW follows its switch. TEMP_LOW and TEMP_HIGH are judged on the filtered
temperature with their 0.2 degrees of hysteresis, SPREAD against the other stations of the group, LEVEL_HIGH on its
switch and EXHAUSTED on the exhaustion index, and a masked flag is not asserted; a flag newly asserted sets its latch
and posts FLAG_ASSERTED. A running pump's flow is read. -/
def Obligations.LineSecondSamplesEveryStation : Prop :=
  ∀ (order : List SecondTask) (inp : Inputs) (s : State), s.run = .running → s.baths.length = 16 →
    ∃ t, exec (.lineSecond order inp) s = .next t ∧ t.clock = min (s.clock + 1) 4294967295 ∧ t.pins = inp ∧
      t.cfg.line = s.cfg.line ∧ t.cfg.stations = s.cfg.stations ∧
      (∀ q, t.pump = some q → ∃ p, s.pump = some p ∧ q = { p with flowSeen := p.flowSeen || inp.flowOk }) ∧
      ∀ n, 1 ≤ n → n ≤ 16 →
        (t.bath n).presence = (t.pin n).presence ∧
        (s.isBath n = true →
          (t.cond n .tempLow = true ↔ (s.masked n .tempLow = false ∨ s.cond n .tempLow = true) ∧
            ∃ x, (t.bath n).filtered = some x ∧
              if s.cond n .tempLow = true then x < (s.stationCfg n).winLow + 2 else x < (s.stationCfg n).winLow) ∧
          (t.cond n .tempHigh = true ↔ (s.masked n .tempHigh = false ∨ s.cond n .tempHigh = true) ∧
            ∃ x, (t.bath n).filtered = some x ∧
              if s.cond n .tempHigh = true then (s.stationCfg n).winHigh < x + 2 else (s.stationCfg n).winHigh < x) ∧
          (t.cond n .spread = true ↔ (s.masked n .spread = false ∨ s.cond n .spread = true) ∧
            ∃ x, (t.bath n).filtered = some x ∧ t.cond n .probeFault = false ∧ ∃ m ∈ s.groupStations (s.group n),
              ∃ y, (t.bath m).filtered = some y ∧ t.cond m .probeFault = false ∧ y + (s.stationCfg n).spreadLimit < x) ∧
          (t.cond n .levelHigh = true ↔
            (s.masked n .levelHigh = false ∨ s.cond n .levelHigh = true) ∧ (t.pin n).levelHigh = true) ∧
          (t.cond n .exhausted = true ↔ (s.stationCfg n).exhLimit ≤ (t.bath n).exhaustion) ∧
          (∀ fl, fl = Flag.tempLow ∨ fl = .tempHigh ∨ fl = .spread ∨ fl = .probeFault ∨ fl = .levelLow ∨
              fl = .levelHigh ∨ fl = .exhausted →
            s.cond n fl = false → t.cond n fl = true → (t.bath n).latches.get fl = true ∧
              ∃ slot tag, (⟨t.clock, .flagAsserted, n, slot, tag, fl.bit⟩ : Event) ∈ t.events ∨ 64 ≤ t.events.length) ∧
          (t.bath n).raw = (t.pin n).temp ∧ (t.bath n).rawValid = decide ((t.pin n).temp ≤ 600) ∧
          (t.bath n).levelLow = (t.pin n).levelLow ∧ (t.bath n).levelHigh = (t.pin n).levelHigh ∧
          t.cond n .levelLow = (t.pin n).levelLow ∧
          (600 < (t.pin n).temp →
            (t.bath n).invalid = min ((s.bath n).invalid + 1) 30 ∧ (t.bath n).history = (s.bath n).history ∧
            (t.bath n).lastAccepted = (s.bath n).lastAccepted ∧ (t.bath n).filtered = (s.bath n).filtered ∧
            (t.bath n).fresh = (s.bath n).fresh ∧ (t.bath n).rejected = (s.bath n).rejected ∧
            ((s.stationCfg n).probeHold ≤ (t.bath n).invalid → t.cond n .probeFault = true)) ∧
          ((t.pin n).temp ≤ 600 → (t.bath n).invalid = 0 ∧
            ((∀ y, (s.bath n).lastAccepted = some y →
                (max y (t.pin n).temp - min y (t.pin n).temp ≤ (s.stationCfg n).jump ∨ 3 ≤ (s.bath n).rejected)) →
              (t.bath n).rejected = 0 ∧ (t.bath n).lastAccepted = some (t.pin n).temp ∧
              (t.bath n).history = ((s.bath n).history ++ [(t.pin n).temp]).drop
                ((s.bath n).history.length + 1 - (s.stationCfg n).depth) ∧
              (t.bath n).filtered = some ((t.bath n).history.sum / (t.bath n).history.length) ∧
              (t.bath n).fresh = true ∧ t.cond n .probeFault = false) ∧
            (∀ y, (s.bath n).lastAccepted = some y →
                (s.stationCfg n).jump < max y (t.pin n).temp - min y (t.pin n).temp → (s.bath n).rejected < 3 →
              (t.bath n).rejected = (s.bath n).rejected + 1 ∧ (t.bath n).history = (s.bath n).history ∧
              (t.bath n).filtered = (s.bath n).filtered ∧ t.cond n .probeFault = s.cond n .probeFault)))

/-- In WARMUP a line second raises the settle count of every bath in window, stopping at the settle time, and sets
that of every other bath to 0; the line becomes READY, with cause SETTLED, exactly when every bath without host
closure has reached the settle time. The window is judged on the filtered temperature of the second before or of this
one (a step of the carriage within the second is not named in the order, notes/assumptions/4.md). WARMUP_TIMEOUT: past
the warm-up timeout the line becomes READY; with stations unsettled a WARMUP_TIMEOUT event names the lowest and their
number and the cause is TIMEOUT, with none the cause is SETTLED. -/
def Obligations.WarmupSettlesOrTimesOut : Prop :=
  (∀ (order : List SecondTask) (inp : Inputs) (s : State), s.run = .running → s.line.state = .warmup →
     .carriage ∉ order →
     ∃ t, exec (.lineSecond order inp) s = .next t ∧
       (∀ n, 1 ≤ n → n ≤ 16 → s.isBath n = true →
         (t.settleOf n = if s.inWindow n = true then min (s.settleOf n + 1) s.cfg.line.settle else 0) ∨
         (t.settleOf n = if t.inWindow n = true then min (s.settleOf n + 1) s.cfg.line.settle else 0)) ∧
       (if ∀ n, 1 ≤ n → n ≤ 16 → s.isBath n = true → s.hostClosed n = false → s.cfg.line.settle ≤ t.settleOf n then
         t.line.state = .ready ∧ t.line.warmStart = none ∧
           ((⟨t.clock, .lineState, 0, 255, 0, 3 * 256 + 1⟩ : Event) ∈ t.events ∨ 64 ≤ t.events.length)
       else t.line.state = .warmup ∧ t.line.warmStart = s.line.warmStart)) ∧
  (∀ (start : Nat) (inp : Inputs) (s : State), s.run = .running → s.line.state = .warmup → s.line.warmStart = some start →
     min (start + s.cfg.line.warmTimeout) 4294967295 ≤ s.clock → s.events.length ≤ 62 →
     ∃ t, exec (.warmupTimeout inp) s = .next t ∧ t.line.state = .ready ∧ t.line.warmStart = none ∧
       t = { s with pins := inp, out := t.out, events := t.events,
                    line := { s.line with state := .ready, warmStart := none },
                    manifold := { s.manifold with running := true,
                                                  tick := if s.manifold.running = true then s.manifold.tick else 0 } } ∧
       (∀ ns : List Nat, (ns = (allStations.filter fun n =>
           s.isBath n && !s.hostClosed n && decide (s.settleOf n < s.cfg.line.settle))) →
         (ns = [] → t.events = s.events ++ [⟨s.clock, .lineState, 0, 255, 0, 3 * 256 + 1⟩]) ∧
         (∀ n rest, ns = n :: rest → t.events = s.events ++
           [⟨s.clock, .warmupTimeout, n, 255, 0, rest.length + 1⟩, ⟨s.clock, .lineState, 0, 255, 0, 3 * 256 + 2⟩])))

/-- A fall of presence at the current station of a rack ends it in that line second: AT_UNLOAD with COMPLETE or the
pending outcome, WAITING_ENTRY with WITHDRAWN, IN_BATH with LOST, each into the completion queue with its slot freed,
or, the queue being full, AWAITING_REPORT; an orphan ends without a record. When the evacuation order empties with it,
EVACUATION_DONE is posted; where no other rack holds the line, a drain ends in its target, and a line FAULTED with the
fault cleared returns to READY. (A step of the carriage within the second is not named in the order,
notes/assumptions/4.md.) -/
def Obligations.PresenceFallEndsTheRack : Prop :=
  ∀ (order : List SecondTask) (inp : Inputs) (s : State) (k n : Nat) (r : Rack), s.run = .running → k < 24 →
    1 ≤ n → n ≤ 16 → s.role n ≠ .unused → s.rackAt n = some (k, r) → (s.bath n).presence = true →
    (inp.stations.getD (n - 1) ⟨false, 0, false, false, false, false⟩).presence = false → .carriage ∉ order →
    ∃ t, exec (.lineSecond order inp) s = .next t ∧
      (r.phase = .atUnload ∨ r.phase = .waitingEntry ∨ r.phase = .inBath ∨ r.phase = .orphan →
        (s.evacOrder = [k] → t.evacOrder = [] ∧
          ((⟨t.clock, .evacuationDone, 0, 255, 0, 0⟩ : Event) ∈ t.events ∨ 64 ≤ t.events.length)) ∧
        (s.line.state = .draining →
          s.line.drainTarget = none ∨ s.line.drainTarget = some .standby ∨ s.line.drainTarget = some .dormant →
          (∀ e ∈ s.racks, e.1 ≠ k → s.countsForDrain e.2 = false) →
          t.line.state = s.line.drainTarget.getD .standby ∧ t.line.drainTarget = none ∧
          ((⟨t.clock, .lineState, 0, 255, 0, (s.line.drainTarget.getD .standby).code * 256 + 3⟩ : Event) ∈ t.events ∨
            64 ≤ t.events.length)) ∧
        (s.line.state = .faulted → s.driver.faultCleared = true →
          (∀ e ∈ s.racks, e.1 ≠ k → s.isBath e.2.station = false ∧ e.2.phase ≠ .onCarriage) →
          t.line.state = .ready ∧
          ((⟨t.clock, .lineState, 0, 255, 0, 3 * 256 + 5⟩ : Event) ∈ t.events ∨ 64 ≤ t.events.length))) ∧
      (∀ outcome,
        ((r.phase = .atUnload ∧ outcome = if r.pending = .none then .complete else r.pending) ∨
          (r.phase = .waitingEntry ∧ outcome = .withdrawn) ∨ (r.phase = .inBath ∧ outcome = .lost)) →
        ((t.rack k = none ∧ ∃ c ∈ t.completions, c.tag = r.tag ∧ c.outcome = outcome ∧ c.removed = t.clock ∧
            c.recipe = r.recipe.getD 0 ∧ c.deviations = r.deviations) ∨
          (16 ≤ t.completions.length ∧ ∃ q, t.rack k = some q ∧ q.phase = .awaitingReport ∧ q.station = 0 ∧
            q.tag = r.tag ∧ q.outcome = outcome ∧ q.ended = some t.clock)) ∧
        ((⟨t.clock, .rackRemoved, n, k, r.tag, outcome.code⟩ : Event) ∈ t.events ∨ 64 ≤ t.events.length)) ∧
      (r.phase = .orphan → t.rack k = none ∧
        ((⟨t.clock, .rackRemoved, n, k, 0, 0⟩ : Event) ∈ t.events ∨ 64 ≤ t.events.length))

/-- A line second adds exactly one rate to the dose of a rack in development: in its station the station's effective
rate, by the bath as it was or as it is after this second, with a new prediction; after its lift the held rate. The
dose stops at 16,777,215. A start notice before the Integrator's work holds the rate of the second before, one after
it the rate of this second; an end notice before or after it adds the held rate once and ends the development. Where
the order names the carriage's step is an operand (notes/assumptions/4.md). A rate read at the clamp of its curve, or
from another station's temperature, marks the rack COMP_CLAMPED or TEMP_SUBSTITUTED. The new prediction's lift start
is offered for the booked firm entry, whatever other racks the line holds, in the state v in which the racks of lower
slots have had their second (notes/assumptions/4.md): on or before the present second, or equal to the planned start,
it changes nothing of the rack's plans; within the span with room at both stations it becomes the planned start and
both intervals follow; otherwise the rest of the chain is shifted where it fits, or the slide is refused with its flag
and, once for a step, its event, and the planned start becomes the value nearest to the offer, of those between the
offer brought into its range and the present planned start, at which the intervals fit. How an OPEN interval is read
in a slide is the model's reading (notes/assumptions/18.md). -/
def Obligations.DoseAccruesOncePerSecond : Prop :=
  (∀ (order : List SecondTask) (inp : Inputs) (s : State) (k : Nat) (r : Rack) (st : Sys2Proof.Machine.Step),
    s.run = .running → k < 24 →
    s.rack k = some r → s.stepOf r = some st → st.kind = .develop →
    ((.carriage ∉ order ∧ r.phase = .inBath ∧ ((s.bath r.station).presence = false ∨
        (inp.stations.getD (r.station - 1) ⟨false, 0, false, false, false, false⟩).presence = true)) →
      ∃ t q, exec (.lineSecond order inp) s = .next t ∧ t.rack k = some q ∧ q.phase = .inBath ∧
        (∃ x, (x = s.stationRate r.station (s.stepCurve st) ∨ x = t.stationRate r.station (s.stepCurve st)) ∧
          q.rate = x.rate ∧ q.flags = { r.flags with
            compClamped := r.flags.compClamped || x.clamped,
            tempSubstituted := r.flags.tempSubstituted || x.substituted,
            slideRefused := q.flags.slideRefused }) ∧
        (r.flags.slideRefused = true → q.flags.slideRefused = true) ∧
        q.dose = min (r.dose + q.rate) 16777215 ∧ q.target = r.target ∧ q.heldRate = r.heldRate ∧
        q.deviations = r.deviations ∧
        q.predicted = some (if q.dose < r.target then
          min (t.clock + (r.target - q.dose + q.rate - 1) / q.rate) 4294967295 else t.clock)) ∧
    (.carriage ∉ order → r.phase = .onCarriage →
      ∃ t q, exec (.lineSecond order inp) s = .next t ∧ t.rack k = some q ∧ q.phase = .onCarriage ∧
        q.rate = r.heldRate ∧ q.heldRate = r.heldRate ∧ q.dose = min (r.dose + r.heldRate) 16777215 ∧
        q.target = r.target ∧ q.deviations = r.deviations ∧ q.predicted = r.predicted ∧ q.flags = r.flags) ∧
    (∀ (e : Entry) (later : List Entry) (rest : List SecondTask), .carriage ∉ rest →
      order = .carriage :: rest ∨ order = .develop :: .carriage :: rest →
      r.phase = .inBath → s.driver.state = .waiting → s.schedule = e :: later → e.slot = k → e.src = r.station →
      e.start ≤ min (s.clock + 1) 4294967295 → inp.atStation = e.src → 1 ≤ e.src → e.src ≤ s.cfg.line.count →
      s.isBath e.src = true →
      (inp.stations.getD (e.src - 1) ⟨false, 0, false, false, false, false⟩).cradleDown = true →
      inp.hook = false → inp.hoistUp = false → s.line.state = .ready ∨ s.line.state = .draining →
      (s.bath e.dst).presence = false → s.cond e.dst .levelLow = false →
      (order = .carriage :: rest ∨ (s.plansOrdered ∧
        (∀ m ∈ s.schedule, m.spanStart ≤ m.start ∧ m.start + m.duration ≤ m.spanEnd) ∧
        ∀ m ∈ later, m.slot = k → m.executing = false → m.firm = true → m.index ≠ r.step)) →
      ∃ t q, exec (.lineSecond order inp) s = .next t ∧ t.rack k = some q ∧ q.phase = .onCarriage ∧ q.station = 0 ∧
        (order = .carriage :: rest → q.heldRate = r.rate ∧ q.predicted = r.predicted) ∧
        (order = .develop :: .carriage :: rest → q.heldRate = (s.stationRate r.station (s.stepCurve st)).rate) ∧
        q.rate = q.heldRate ∧ q.dose = min (r.dose + q.heldRate) 16777215 ∧ q.target = r.target ∧
        q.deviations = r.deviations) ∧
    (∀ (e : Entry) (rest : List SecondTask), .carriage ∉ rest →
      order = .carriage :: rest ∨ order = .develop :: .carriage :: rest →
      r.phase = .onCarriage → s.driver.state = .lower → s.executing = some e → e.slot = k → inp.hoistDown = true →
      inp.atStation = e.dst → 1 ≤ e.dst → e.dst ≤ s.cfg.line.count → e.dst ≤ 16 → inp.hook = false →
      (inp.stations.getD (e.dst - 1) ⟨false, 0, false, false, false, false⟩).presence = true →
      ∃ t q, exec (.lineSecond order inp) s = .next t ∧ t.rack k = some q ∧ q.station = e.dst ∧
        q.deviations = r.deviations ++ [(r.step, ((min (r.dose + r.heldRate) 16777215 : Nat) : Int) - r.target)] ∧
        q.heldRate = 0 ∧
        ((s.stepOf { r with step := r.step + 1 }).all (fun x => x.kind == .bath) = true ∨ s.isBath e.dst = false →
          q.dose = min (r.dose + r.heldRate) 16777215 ∧ q.target = r.target ∧ q.rate = 0 ∧ q.predicted = none) ∧
        (∀ x, s.isBath e.dst = true → s.stepOf { r with step := r.step + 1 } = some x → x.kind = .develop →
          q.dose = 0 ∧ q.target = x.nominal * r.scale * 1024 / 100))) ∧
  (∀ (order : List SecondTask) (inp : Inputs) (s v : State) (pre post : List SecondTask) (task : SecondTask) (k : Nat)
      (r : Rack) (st : Sys2Proof.Machine.Step) (e : Entry), s.run = .running → k < 24 →
    taskOrder order = pre ++ task :: post → task = .develop ∨ task = .retry → .develop ∉ pre → .retry ∉ pre →
    .carriage ∉ order → .expiry ∉ post →
    v = (List.range k).foldl State.developRack
      (pre.foldl State.doTurn { s with clock := min (s.clock + 1) 4294967295, pins := inp, accrualDue := allSlots }) →
    v.rack k = some r → r.phase = .inBath → v.stepOf r = some st → st.kind = .develop → v.movesApart →
    (∀ x ∈ v.deferred, x.slot ≠ k) → (v.bath r.station).presence = false ∨ (v.pin r.station).presence = true →
    v.schedule.find? (fun m => m.slot == k && !m.executing && m.firm && m.index == r.step) = some e →
    ∃ t q, exec (.lineSecond order inp) s = .next t ∧ t.rack k = some q ∧
      (v.deferred = [] → (∀ j y, v.rack j = some y → j ≠ k →
          v.developing y = none ∧ ((v.bath y.station).presence = false ∨ (v.pin y.station).presence = true)) →
        ∀ j, j ≠ k → v.samePlans t j) ∧
      ∃ c, q.predicted = some c ∧ ∀ p, p = min (max (min (t.clock + 1) 4294967295) (c - e.duration)) 4294967295 →
      (e.start ≤ t.clock ∨ p = e.start → v.samePlans t k ∧
        q.nextStart = r.nextStart ∧ q.flags.slideRefused = r.flags.slideRefused) ∧
      (t.clock < e.start → p ≠ e.start →
        (e.spanStart ≤ p → p ≤ e.spanEnd - e.duration → v.slideFits e p = true →
          v.slidTo t e p ∧ q.nextStart = nextStartIn t.schedule k ∧ q.flags.slideRefused = r.flags.slideRefused) ∧
        (¬ (e.spanStart ≤ p ∧ p ≤ e.spanEnd - e.duration ∧ v.slideFits e p = true) →
          (∀ u, v.rebook e p = some u →
            u.samePlans t k ∧ q.nextStart = nextStartIn t.schedule k ∧ q.flags.slideRefused = r.flags.slideRefused ∧
            (∀ m ∈ v.schedule, m.slot = k → m.executing = false → ∃ m' ∈ t.schedule, m'.slot = k ∧ m'.index = m.index ∧
              m'.duration = m.duration ∧ m'.src = m.src ∧ m'.dst = m.dst ∧
              (m.index = r.step → m'.start = p ∧ m'.spanStart = p - s.cfg.line.guard ∧
                m'.spanEnd = min (p + (m.duration + s.cfg.line.guard)) 4294967295) ∧
              (m.index ≠ r.step → m'.start = min (m.start + p - e.start) 4294967295 ∧
                m'.spanStart = min (m.spanStart + p - e.start) 4294967295))) ∧
          (v.rebook e p = none →
            q.flags.slideRefused = true ∧ q.slideMark = r.step ∧
            (∀ edge, edge = max e.spanStart (min p (e.spanEnd - e.duration)) →
              ∃ near, (near = e.start ∧ v.samePlans t k ∨
                  near ≠ e.start ∧ v.slideFits e near = true ∧ v.slidTo t e near ∧ q.nextStart = nextStartIn t.schedule k) ∧
                (e.start ≤ edge → e.start ≤ near ∧ near ≤ edge ∧ ∀ x, near < x → x ≤ edge → v.slideFits e x = false) ∧
                (edge ≤ e.start → edge ≤ near ∧ near ≤ e.start ∧ ∀ x, edge ≤ x → x < near → v.slideFits e x = false)) ∧
            (r.slideMark ≠ r.step →
              (⟨t.clock, .slideRefused, e.src, k, r.tag, r.step⟩ : Event) ∈ t.events ∨ 64 ≤ t.events.length)))))

/-- INTERVAL_EXPIRY: an interval whose to second is past becomes OPEN while its rack hangs at the station or is on its
way there, and is removed otherwise, as is an OPEN one without its rack; an interval not yet at its end stays. Nothing
else of the part changes. OVERSTAY: a rack IN_BATH in a BATH step past its immersion time and stretch gets the flag,
and the event is posted once for the step; a rack not past it is left alone. A rack whose lift out of the step began
in this very second is examined as IN_BATH where it was, whatever has become of the move: still on the carriage, or
lowered again into a bath, where its new stay is not past its time, or at an UNLOAD station. -/
def Obligations.IntervalsAndOverstaysAreExamined : Prop :=
  (∀ (n i : Nat) (iv : Interval) (inp : Inputs) (s : State), s.run = .running → 1 ≤ n → n ≤ s.timelines.length →
     (s.timeline n)[i]? = some iv →
     ∃ t, exec (.intervalExpiry n i inp) s = .next t ∧
       t = { s with pins := inp, out := t.out, timelines := t.timelines } ∧
       (∀ m, m ≠ n → t.timeline m = s.timeline m) ∧
       (∀ held : Prop,
         (held ↔ ∃ r, s.rack iv.slot = some r ∧ (r.station = n ∨ (r.phase = .onCarriage ∧
           ∃ e ∈ s.schedule, e.executing = true ∧ e.slot = iv.slot ∧ e.dst = n))) →
         (iv.stop.getD 0 ≤ s.clock → held → t.timeline n = (s.timeline n).set i { iv with stop := none }) ∧
         (iv.stop.getD 0 ≤ s.clock → ¬ held → t.timeline n = (s.timeline n).eraseIdx i)) ∧
       (s.clock < iv.stop.getD 0 → t.timeline n = s.timeline n)) ∧
  (∀ (k i : Nat) (inp : Inputs) (s : State) (r : Rack) (st : Sys2Proof.Machine.Step), s.run = .running → s.rack k = some r →
     (∀ l, r.lift = some l → l.second ≠ s.clock) →
     r.phase = .inBath → s.stepOf r = some st → st.kind = .bath → r.immersion = some i →
     ∃ t, exec (.overstay k inp) s = .next t ∧
       t = { s with pins := inp, out := t.out, slots := t.slots, events := t.events, lost := t.lost } ∧
       (∀ j, j ≠ k → t.rack j = s.rack j) ∧
       (if min (i + (st.immersion + st.stretch)) 4294967295 < s.clock then
         t.rack k = some { r with flags := { r.flags with overstay := true }, overMark := r.step } ∧
         (r.overMark = r.step → t.events = s.events ∧ t.lost = s.lost) ∧
         (r.overMark ≠ r.step → s.events.length < 64 →
           t.events = s.events ++ [⟨s.clock, .overstay, r.station, k, r.tag, r.step⟩] ∧ t.lost = s.lost) ∧
         (r.overMark ≠ r.step → 64 ≤ s.events.length → t.events = s.events ∧ t.lost = min (s.lost + 1) 255)
       else t.rack k = some r ∧ t.events = s.events ∧ t.lost = s.lost)) ∧
  (∀ (k i n step : Nat) (inp : Inputs) (s : State) (r : Rack) (st : Sys2Proof.Machine.Step), s.run = .running →
     s.rack k = some r → r.lift = some ⟨s.clock, n, step, some i⟩ → stepAt (s.stepsOf r) step = some st → st.kind = .bath →
     (r.phase = .onCarriage ∨ r.phase = .atUnload ∨ (r.phase = .inBath ∧ ∀ x, s.stepOf r = some x → x.kind = .bath →
       ∀ j, r.immersion = some j → s.clock ≤ min (j + (x.immersion + x.stretch)) 4294967295)) →
     ∃ t, exec (.overstay k inp) s = .next t ∧
       t = { s with pins := inp, out := t.out, slots := t.slots, events := t.events, lost := t.lost } ∧
       (∀ j, j ≠ k → t.rack j = s.rack j) ∧
       (if min (i + (st.immersion + st.stretch)) 4294967295 < s.clock then
         t.rack k = some { r with flags := { r.flags with overstay := true }, overMark := step } ∧
         (r.overMark = step → t.events = s.events ∧ t.lost = s.lost) ∧
         (r.overMark ≠ step → s.events.length < 64 →
           t.events = s.events ++ [⟨s.clock, .overstay, n, k, r.tag, step⟩] ∧ t.lost = s.lost) ∧
         (r.overMark ≠ step → 64 ≤ s.events.length → t.events = s.events ∧ t.lost = min (s.lost + 1) 255)
       else t.rack k = some r ∧ t.events = s.events ∧ t.lost = s.lost))

/-! ### The carriage -/

/-- MOVE_START: a WAITING Driver whose first entry meets the five conditions, its destination free and not low, marks
the entry EXECUTING with its lateness and enters RAISE; the rack is ON_CARRIAGE with its held rate fixed, a lift out
of a DEVELOP station raises its exhaustion index up to 1000, and the rack's dunk plan and open valve end. The delivery
the lift calls for is queued; over a full queue it joins the newest entry of the station that the pump does not run,
its volume stopping at 9,999 ml, or is dropped with REPLENISH_OVERFLOW. The evacuation of a rack on the hook over a
true up-limit passes RAISE and DRAIN at once and changes no exhaustion index. -/
def Obligations.MoveStartBeginsTheMove : Prop :=
  ∀ (inp : Inputs) (s : State) (e : Entry) (rest : List Entry) (r : Rack), s.run = .running →
    s.schedule = e :: rest → s.driver.state = .waiting → s.rack e.slot = some r → s.baths.length = 16 →
    1 ≤ e.src → e.src ≤ s.cfg.line.count → e.src ≤ 16 → e.start ≤ s.clock → inp.atStation = e.src →
    (s.isBath e.src = true →
      (inp.stations.getD (e.src - 1) ⟨false, 0, false, false, false, false⟩).cradleDown = true) →
    (s.line.state = .ready ∨ s.line.state = .draining ∨ (s.line.state = .faulted ∧ s.driver.faultCleared = true)) →
    (s.bath e.dst).presence = false → s.cond e.dst .levelLow = false →
    (r.station = e.src → r.phase ≠ .onCarriage → inp.hook = false → inp.hoistUp = false →
     ∃ t, exec (.moveStart inp) s = .next t ∧
      t.schedule = { e with executing := true, lateness := s.clock - e.start } :: rest ∧
      t.driver = { s.driver with state := .raise, entry := some (e.slot, e.index), phaseStart := some s.clock,
                                 upSecond := none,
                                 deadline := some (min (s.clock + (s.cfg.line.tl + s.cfg.line.margin)) 4294967295) } ∧
      t.out.raise = true ∧ t.out.lower = false ∧
      (∃ q, t.rack e.slot = some q ∧
        q = { r with phase := .onCarriage, station := 0, nextStart := q.nextStart,
                     lift := if r.phase = .inBath then some ⟨s.clock, r.station, r.step, r.immersion⟩ else r.lift,
                     heldRate := if r.phase = .inBath ∧ (s.developing r).isSome = true then r.rate else r.heldRate,
                     flags := { r.flags with lateMove := r.flags.lateMove || (e.firm && decide (e.start < s.clock)) } } ∧
        (∀ m ∈ rest, m.slot = e.slot → m.executing = false → ∃ x, q.nextStart = some x ∧ x ≤ m.start)) ∧
      (∀ j, j ≠ e.slot → t.rack j = s.rack j) ∧
      (t.bath e.src).exhaustion = (if s.role e.src = .develop then
        min ((s.bath e.src).exhaustion + r.load * (s.stationCfg e.src).exhPerLoad) 1000
        else (s.bath e.src).exhaustion) ∧
      (∀ p ∈ t.plans, p.slot ≠ e.slot) ∧ t.valve e.src = false ∧
      (s.isBath e.src = true → r.load * (s.stationCfg e.src).mlPerLoad ≠ 0 → s.deliveries.length < 16 →
        t.deliveries = s.deliveries ++ [⟨e.src, r.load * (s.stationCfg e.src).mlPerLoad,
          (t.bath e.src).exhaustion - (s.bath e.src).exhaustion, s.clock, false⟩]) ∧
      (s.isBath e.src = true → r.load * (s.stationCfg e.src).mlPerLoad ≠ 0 → 16 ≤ s.deliveries.length →
        (∀ i d, s.deliveries[i]? = some d → d.station = e.src → d.running = false →
          (∀ j x, i < j → s.deliveries[j]? = some x → x.station = e.src → x.running = true) →
          t.deliveries = s.deliveries.set i { d with
            volume := min (d.volume + r.load * (s.stationCfg e.src).mlPerLoad) 9999,
            credit := d.credit + ((t.bath e.src).exhaustion - (s.bath e.src).exhaustion) }) ∧
        ((∀ d ∈ s.deliveries, d.station = e.src → d.running = true) → t.deliveries = s.deliveries ∧
          s.posted t .replenishOverflow e.src e.slot r.tag (r.load * (s.stationCfg e.src).mlPerLoad))) ∧
      (s.isBath e.src = false ∨ r.load * (s.stationCfg e.src).mlPerLoad = 0 → t.deliveries = s.deliveries) ∧
      t = { s with pins := inp, out := t.out, schedule := t.schedule, driver := t.driver, slots := t.slots,
                   baths := t.baths, deliveries := t.deliveries, plans := t.plans, manifold := t.manifold,
                   events := t.events, lost := t.lost }) ∧
    (r.station = 0 → r.phase = .onCarriage → e.kind = .evacuate → e.drain = 0 → e.dst ≠ e.src → inp.hook = true →
     inp.hoistUp = true →
     ∃ t, exec (.moveStart inp) s = .next t ∧
      t.schedule = { e with executing := true, lateness := s.clock - e.start } :: rest ∧
      t.driver.state = .travel ∧ t.driver.goTo = e.dst ∧ t.driver.upSecond = some s.clock ∧
      t.driver.entry = some (e.slot, e.index) ∧ t.out.raise = false ∧ t.out.lower = false ∧
      (∃ q, t.rack e.slot = some q ∧ q.phase = .onCarriage ∧ q.station = 0 ∧ q.heldRate = r.heldRate) ∧
      (∀ j, j ≠ e.slot → t.rack j = s.rack j) ∧
      t = { s with pins := inp, out := t.out, schedule := t.schedule, driver := t.driver, slots := t.slots,
                   plans := t.plans })

/-- MOVE_START with presence or LEVEL_LOW at the destination: the rack's booked moves leave the schedule, it joins the
deferred set at its end with the kind of the move and the present second, its stay becomes OPEN, its later intervals
go, and MOVE_DEFERRED names the destination and the cause. No other rack's booking changes, and the Driver turns to
the entry that is first then. In each line second the re-placement pass takes the racks of the deferred set in the
order they joined, whatever their phase and the kind of their move, each on what the walks before it have booked: the
walk from the next second on, the evacuation walk for an EVACUATE; one that passes books its chain and takes the rack
out of the set, one that fails leaves it there, and while a rack on the hook waits no other is walked. The pass finds
the racks in development with the prediction of this second, and its place in the second is an operand
(notes/assumptions/4.md). -/
def Obligations.MoveStartDefersTheMove : Prop :=
  (∀ (inp : Inputs) (s : State) (e : Entry) (rest : List Entry) (r : Rack), s.run = .running →
    s.schedule = e :: rest → e.executing = false → s.driver.state = .waiting → s.rack e.slot = some r →
    e.start ≤ s.clock → inp.atStation = e.src → 1 ≤ e.src → e.src ≤ s.cfg.line.count → inp.hook = false →
    r.phase ≠ .onCarriage →
    (s.isBath e.src = true →
      (inp.stations.getD (e.src - 1) ⟨false, 0, false, false, false, false⟩).cradleDown = true) →
    (s.line.state = .ready ∨ s.line.state = .draining ∨ (s.line.state = .faulted ∧ s.driver.faultCleared = true)) →
    ((s.bath e.dst).presence = true ∨ s.cond e.dst .levelLow = true) →
    ∃ t, exec (.moveStart inp) s = .next t ∧
      t.schedule = (s.schedule.filter fun m => !(m.slot == e.slot && !m.executing)) ∧
      t.deferred = (s.deferred.filter fun d => d.slot != e.slot) ++ [{ slot := e.slot, kind := e.kind, second := s.clock }] ∧
      t.rack e.slot = some { r with nextStart := none } ∧
      t.timelines = s.timelines.map (fun l =>
        (l.filter fun iv => !(iv.slot == e.slot && decide (r.step < iv.step))).map fun iv =>
          if iv.slot = e.slot ∧ iv.step = r.step then { iv with stop := none } else iv) ∧
      ((⟨s.clock, .moveDeferred, e.dst, e.slot, r.tag, if (s.bath e.dst).presence = true then 0 else 1⟩ : Event) ∈ t.events ∨
        64 ≤ t.events.length) ∧
      t.turnedFrom s.driver ∧
      t = { s with pins := inp, out := t.out, schedule := t.schedule, deferred := t.deferred, timelines := t.timelines,
                   driver := t.driver, slots := s.slots.set e.slot (some { r with nextStart := none }),
                   events := t.events, lost := t.lost }) ∧
  (∀ (order pre post : List SecondTask) (inp : Inputs) (s v : State), s.run = .running →
    taskOrder order = pre ++ .retry :: post → .carriage ∉ post →
    v = (pre.foldl State.doTurn { s with clock := min (s.clock + 1) 4294967295, pins := inp,
                                         accrualDue := allSlots }).developAll →
    (∀ k r, v.rack k = some r → (v.bath r.station).presence = false ∨ (v.pin r.station).presence = true) →
    ∃ t w, exec (.lineSecond order inp) s = .next t ∧ inTurn State.retried v.deferred v w ∧
      t.schedule = w.schedule ∧ t.deferred = w.deferred ∧ t.slots = w.slots ∧
      (.expiry ∉ post → t.timelines = w.timelines))

/-- CARRIAGE_ARRIVAL: an approach ends where the code equals its target and the Driver waits there; TRAVEL ends where
the code equals the to station and LOWER begins; a code of 0 ends nothing; any other code, and any code above the
station count, is a POSITION fault naming the target. -/
def Obligations.ArrivalEndsApproachAndTravel : Prop :=
  ∀ (inp : Inputs) (s : State) (e : Entry), s.run = .running →
    (s.driver.state = .approaching → s.schedule.head? = some e → s.driver.entry = some (e.slot, e.index) →
      e.src = s.driver.goTo → inp.atStation = s.driver.goTo → 1 ≤ inp.atStation →
      inp.atStation ≤ s.cfg.line.count →
      ∃ t, exec (.carriageArrival inp) s = .next t ∧
        t.driver = { s.driver with state := .waiting, position := inp.atStation, phaseStart := none, deadline := none,
                                   upSecond := none } ∧
        t = { s with pins := inp, out := t.out, driver := t.driver }) ∧
    (s.driver.state = .travel → s.executing = some e → inp.atStation = e.dst → 1 ≤ e.dst →
      e.dst ≤ s.cfg.line.count → inp.hoistDown = false →
      ∃ t, exec (.carriageArrival inp) s = .next t ∧
        t.driver = { s.driver with state := .lower, position := e.dst, phaseStart := some s.clock,
                                   deadline := some (min (s.clock + (s.cfg.line.tw + s.cfg.line.margin)) 4294967295) } ∧
        t.out.lower = true ∧ t.out.raise = false ∧ t = { s with pins := inp, out := t.out, driver := t.driver }) ∧
    (s.driver.state = .approaching → inp.atStation = 0 →
      ∃ t, exec (.carriageArrival inp) s = .next t ∧ t.driver = s.driver ∧ t.schedule = s.schedule) ∧
    (s.driver.state = .travel → s.executing = some e → inp.atStation = 0 →
      ∃ t, exec (.carriageArrival inp) s = .next t ∧ t.driver = s.driver ∧ t.schedule = s.schedule) ∧
    (s.driver.state = .approaching → inp.atStation ≠ 0 →
      inp.atStation ≠ s.driver.goTo ∨ s.cfg.line.count < inp.atStation →
      ∃ t, exec (.carriageArrival inp) s = .next t ∧ s.carriageStopped t .position s.driver.goTo) ∧
    (s.driver.state = .travel → s.executing = some e → inp.atStation ≠ 0 →
      inp.atStation ≠ e.dst ∨ s.cfg.line.count < inp.atStation →
      ∃ t, exec (.carriageArrival inp) s = .next t ∧ s.carriageStopped t .position e.dst)

/-- HOIST_UP_LIMIT ends RAISE: POSITION is judged before MISSED_PICK, and a good lift of a move with drain begins
DRAIN with the up-limit second; with no drain, TRAVEL begins at once. DRAIN_END at that second plus the drain begins
TRAVEL toward the to station, or is a POSITION fault; before it, nothing ends. -/
def Obligations.RaiseAndDrainEnd : Prop :=
  ∀ (inp : Inputs) (s : State) (e : Entry), s.run = .running → s.executing = some e →
    ∀ stands : Prop, (stands ↔ inp.atStation = e.src ∧ 1 ≤ e.src ∧ e.src ≤ s.cfg.line.count) →
    (s.driver.state = .raise → inp.hoistUp = true →
      (¬ stands →
        ∃ t, exec (.hoistUpLimit inp) s = .next t ∧ s.carriageStopped t .position e.src) ∧
      (stands → inp.hook = false →
        ∃ t, exec (.hoistUpLimit inp) s = .next t ∧ s.carriageStopped t .missedPick e.src) ∧
      (stands → inp.hook = true → e.drain ≠ 0 →
        ∃ t, exec (.hoistUpLimit inp) s = .next t ∧ t.out.raise = false ∧ t.out.lower = false ∧
          t.driver = { s.driver with state := .drain, upSecond := some s.clock, phaseStart := some s.clock,
                                     deadline := some (min (s.clock + (e.drain + s.cfg.line.margin)) 4294967295) } ∧
          t = { s with pins := inp, out := t.out, driver := t.driver }) ∧
      (stands → inp.hook = true → e.drain = 0 → e.dst ≠ e.src →
        ∃ t, exec (.hoistUpLimit inp) s = .next t ∧ t.out.raise = false ∧ t.out.lower = false ∧
          t.driver = { s.driver with state := .travel, goTo := e.dst, upSecond := some s.clock,
                                     phaseStart := some s.clock, deadline := t.driver.deadline } ∧
          t.driver.deadline = some (min (s.clock + (((e.src - e.dst) + (e.dst - e.src)) * s.cfg.line.tp + 9) / 10 +
            s.cfg.line.margin) 4294967295) ∧
          t = { s with pins := inp, out := t.out, driver := t.driver })) ∧
    (∀ u, s.driver.state = .drain → s.driver.upSecond = some u →
      (min (u + e.drain) 4294967295 ≤ s.clock → stands → e.dst ≠ e.src →
        ∃ t, exec (.drainEnd inp) s = .next t ∧
          t.driver = { s.driver with state := .travel, goTo := e.dst, phaseStart := some s.clock,
                                     deadline := t.driver.deadline } ∧
          t.driver.deadline = some (min (s.clock + (((e.src - e.dst) + (e.dst - e.src)) * s.cfg.line.tp + 9) / 10 +
            s.cfg.line.margin) 4294967295) ∧
          t = { s with pins := inp, out := t.out, driver := t.driver }) ∧
      (min (u + e.drain) 4294967295 ≤ s.clock → ¬ stands →
        ∃ t, exec (.drainEnd inp) s = .next t ∧ s.carriageStopped t .position e.src) ∧
      (s.clock < min (u + e.drain) 4294967295 →
        ∃ t, exec (.drainEnd inp) s = .next t ∧ t = { s with pins := inp, out := t.out }))

/-- HOIST_DOWN_LIMIT ends LOWER: POSITION is judged before NOT_RELEASED; a good end drops the executing entry and
lowers the rack, into a bath as IN_BATH with its step index risen by one and, in a DEVELOP step, a dose of 0 and the
target of the scale, at an UNLOAD station as AT_UNLOAD, or ORPHAN for an orphan. A development in progress ends with
its deviation, and one outside the tolerance sets DEV_OUT_OF_TOL and posts it. The end of an EVACUATE move takes the
rack out of the evacuation order, and EVACUATION_DONE is posted when that empties the order; where the rack reaches an
UNLOAD station and no other rack holds the line, a drain ends in its target, and a line FAULTED with the fault cleared
returns to READY. An ABANDONED rack lowered into a bath in READY or DRAINING loses its other moves and its intervals
at other stations, and its evacuation walk books the one evacuation, or the rack waits in the deferred set where the
walk fails. A development begins with its rate, its first prediction and the marks of the rate; a step with a pattern
gives the rack a dunk plan with its first dunk. The Driver then turns to the first entry: it approaches its source
with the start second and the timeout of the approach, waits where it stands over it, or is IDLE with no entry
(notes/assumptions/15.md, 36.md and 37.md). -/
def Obligations.DownLimitEndsTheMove : Prop :=
  ∀ (inp : Inputs) (s : State) (e : Entry) (r : Rack), s.run = .running → s.executing = some e →
    s.driver.state = .lower → inp.hoistDown = true → s.rack e.slot = some r → r.phase = .onCarriage →
    s.accrualDue = [] → ∀ stands : Prop, (stands ↔ inp.atStation = e.dst ∧ 1 ≤ e.dst ∧ e.dst ≤ s.cfg.line.count) →
    (¬ stands → ∃ t, exec (.hoistDownLimit inp) s = .next t ∧ s.carriageStopped t .position e.dst) ∧
    (stands → inp.hook = true →
      ∃ t, exec (.hoistDownLimit inp) s = .next t ∧ s.carriageStopped t .notReleased e.dst) ∧
    (stands → inp.hook = false →
      ∃ t q, exec (.hoistDownLimit inp) s = .next t ∧ t.rack e.slot = some q ∧ (∀ m ∈ t.schedule, m.executing = false) ∧
        t.out.raise = false ∧ t.out.lower = false ∧
        t.turnedFrom { s.driver with state := .idle, entry := none, phaseStart := none, deadline := none,
                                     upSecond := none } ∧
        q.station = e.dst ∧ q.tag = r.tag ∧ q.recipe = r.recipe ∧ q.admitted = r.admitted ∧ q.outcome = r.outcome ∧
        q.deviations = (match s.stepOf r with
          | some st => if st.kind = .develop then r.deviations ++ [(r.step, (r.dose : Int) - r.target)] else r.deviations
          | none => r.deviations) ∧
        (∀ st, s.stepOf r = some st → st.kind = .develop →
          if r.target * st.tolerance / 1000 < ((r.dose : Int) - r.target).natAbs then
            q.flags.devOutOfTol = true ∧ s.posted t .devOutOfTol e.dst e.slot r.tag r.step
          else q.flags.devOutOfTol = r.flags.devOutOfTol) ∧
        (e.kind = .evacuate → s.evacOrder = [e.slot] → t.evacOrder = [] ∧ s.posted t .evacuationDone 0 255 0 0) ∧
        (s.isBath e.dst = false → s.line.state = .draining →
          (∀ x ∈ s.racks, x.1 ≠ e.slot → s.countsForDrain x.2 = false) →
          t.line.state = s.line.drainTarget.getD .standby ∧ t.line.drainTarget = none ∧
          s.posted t .lineState 0 255 0 ((s.line.drainTarget.getD .standby).code * 256 + 3)) ∧
        (s.isBath e.dst = false → s.line.state = .faulted → s.driver.faultCleared = true →
          (∀ x ∈ s.racks, x.1 ≠ e.slot → s.isBath x.2.station = false ∧ x.2.phase ≠ .onCarriage) →
          t.line.state = .ready ∧ s.posted t .lineState 0 255 0 (3 * 256 + 5)) ∧
        (s.isBath e.dst = true →
          q.phase = .inBath ∧ q.step = r.step + 1 ∧ q.immersion = some s.clock ∧ q.pending = r.pending ∧
          q.entered = (if e.kind = .entry then some s.clock else r.entered) ∧
          (e.kind = .entry → s.posted t .rackEntered e.dst e.slot r.tag 0) ∧
          (∀ st, s.stepOf { r with step := r.step + 1 } = some st → st.kind = .develop →
            q.dose = 0 ∧ q.target = st.nominal * r.scale * 1024 / 100 ∧ q.heldRate = 0 ∧
            ∀ x, x = s.stationRate e.dst (s.stepCurve st) → q.rate = x.rate ∧
              q.predicted = some (if 0 < q.target then min (s.clock + (q.target + x.rate - 1) / x.rate) 4294967295
                else s.clock) ∧
              q.flags.compClamped = (r.flags.compClamped || x.clamped) ∧
              q.flags.tempSubstituted = (r.flags.tempSubstituted || x.substituted))) ∧
        (s.isBath e.dst = false → t.plans = s.plans) ∧
        (s.isBath e.dst = true → ∀ step, step = s.stepOf { r with step := r.step + 1 } →
          ((∀ st, step = some st → st.pattern = none) → t.plans = s.plans) ∧
          (∀ st, step = some st → ∀ p, st.pattern = some p → (s.pattern p).inRange = true →
            ∃ d, t.plans = s.plans ++ [⟨e.slot, e.dst, s.clock, d⟩] ∧ (s.pattern p).fixes s.clock s.clock d)) ∧
        (s.isBath e.dst = true → r.pending = .abandoned → s.line.state = .ready ∨ s.line.state = .draining →
          (∀ m ∈ t.schedule, m.slot = e.slot → m.kind = .evacuate ∧ m.src = e.dst ∧ s.role m.dst = .unload) ∧
          (∀ m ∈ s.schedule, m.slot ≠ e.slot → m.executing = false → m ∈ t.schedule) ∧
          (∀ n, n ≠ e.dst → 1 ≤ n → n ≤ 16 → ∀ iv ∈ t.timeline n, iv.slot = e.slot → iv.purpose = .unloadHold ∧
            ∃ m ∈ t.schedule, m.slot = e.slot ∧ m.dst = n ∧ iv.start = m.start) ∧
          ((t.schedule.filter fun m => m.slot == e.slot).length = 1 ∧ (∀ x ∈ t.deferred, x.slot ≠ e.slot) ∨
            (∀ m ∈ t.schedule, m.slot ≠ e.slot) ∧ (⟨e.slot, .evacuate, s.clock⟩ : Deferred) ∈ t.deferred) ∧
          ∀ x, x = (r.finish (s.endingStep r)).enterBath e.dst s.clock (e.kind == .entry) →
            ∀ u, u = ({ s with pins := inp, driver := s.driver.rest .idle }.dropExecuting.setRack e.slot
                x).clearStanding e.slot x →
            (∀ c, u.walk (u.evacTrip e.slot x) (u.cursorOf e.slot x) (min (u.clock + 1) 4294967295) = .ok c →
              u.chainBooked t e.slot x.step c) ∧
            (∀ why, u.walk (u.evacTrip e.slot x) (u.cursorOf e.slot x) (min (u.clock + 1) 4294967295) = .error why →
              t.schedule = u.schedule ∧ t.timelines = u.timelines ∧
              t.deferred = u.deferred ++ [⟨e.slot, .evacuate, s.clock⟩])) ∧
        (s.isBath e.dst = false →
          q.unload = some s.clock ∧ s.posted t .rackAtUnload e.dst e.slot r.tag 0 ∧
          (r.recipe = none → q.phase = .orphan ∧ q.step = 0) ∧
          (r.recipe ≠ none → q.phase = .atUnload ∧ q.step = (s.stepsOf r).length + 1)))

/-- HOOK_FALL in DRAIN and TRAVEL, and a phase or an approach past its timeout, stop the Driver with CARRIAGE_FAULT;
before its timeout nothing stops. That the timeout is a fault whatever the limit or code reads in its own event is the
model's choice (notes/assumptions/42.md). -/
def Obligations.CarriageFaultsStopTheDriver : Prop :=
  ∀ (inp : Inputs) (s : State), s.run = .running →
    (∀ e, s.executing = some e → inp.hook = false →
      (s.driver.state = .drain → ∃ t, exec (.hookFall inp) s = .next t ∧ s.carriageStopped t .dropped e.src) ∧
      (s.driver.state = .travel → ∃ t, exec (.hookFall inp) s = .next t ∧ s.carriageStopped t .dropped e.dst)) ∧
    (∀ k r, inp.hook = false → s.executing = none → s.driver.state ≠ .stopped → s.carried = some (k, r) →
      ∃ t, exec (.hookFall inp) s = .next t ∧ s.carriageStopped t .dropped s.driver.position) ∧
    (∀ d, s.driver.deadline = some d → d ≤ s.clock →
      (s.driver.state = .approaching →
        ∃ t, exec (.phaseTimeout inp) s = .next t ∧ s.carriageStopped t .phaseTimeout s.driver.goTo) ∧
      (∀ e, s.executing = some e →
        (s.driver.state = .raise →
          ∃ t, exec (.phaseTimeout inp) s = .next t ∧ s.carriageStopped t .phaseTimeout e.src) ∧
        (s.driver.state = .travel ∨ s.driver.state = .lower →
          ∃ t, exec (.phaseTimeout inp) s = .next t ∧ s.carriageStopped t .phaseTimeout e.dst))) ∧
    (∀ d, s.driver.deadline = some d → s.clock < d →
      ∃ t, exec (.phaseTimeout inp) s = .next t ∧ t = { s with pins := inp, out := t.out })

/-! ### Agitation -/

/-- DUNK_DUE: in a cradle that is DOWN, with the rack's planned start still ahead and the out time and the quiet time
over by then, or with none, the dunk begins (RISING, or OUT at once over a true up-limit, the valve closed); otherwise
it is skipped and no cradle moves. Either way the plan's next fixed dunk is the earliest dunk time of the pattern
after the present second, stopping at the largest line second, and there is none after that one. That a dunk examined
after its own second is decided, begun and followed by the present second is the model's reading
(notes/assumptions/5.md). -/
def Obligations.DunksComeDue : Prop :=
  ∀ (inp : Inputs) (s : State) (k : Nat) (p : DunkPlan) (pre post : List DunkPlan) (d : Dunk) (r : Rack)
    (pat : Nat), s.run = .running → s.plans = pre ++ p :: post → p.slot = k → (∀ q ∈ pre ++ post, q.slot ≠ k) →
    p.dunk = some d → d.second ≤ s.clock → s.rack k = some r → r.phase = .inBath →
    s.patternOf r = some pat → s.cradles.length = 16 → 1 ≤ p.station → p.station ≤ 16 →
    ∃ t, exec (.dunkDue k inp) s = .next t ∧
      t = { s with pins := inp, out := t.out, cradles := t.cradles, plans := t.plans,
                   manifold := { s.manifold with valves := t.manifold.valves } } ∧
      (∀ n, n ≠ p.station → t.cradle n = s.cradle n ∧ t.valve n = s.valve n) ∧
      ((s.cradle p.station).state = .down →
          (∀ x, r.nextStart = some x → s.clock < x ∧ min (s.clock + (d.outTime + d.quiet)) 4294967295 ≤ x) →
        t.cradle p.station = ⟨if (t.pin p.station).cradleUp = true then .out else .rising, s.clock, d.outTime⟩ ∧
        t.valve p.station = false ∧ t.out.lifts.getD (p.station - 1) false = true) ∧
      ((s.cradle p.station).state ≠ .down ∨
          (∃ x, r.nextStart = some x ∧ (x ≤ s.clock ∨ x < min (s.clock + (d.outTime + d.quiet)) 4294967295)) →
        t.cradle p.station = s.cradle p.station ∧ t.valve p.station = s.valve p.station) ∧
      (∃ q, t.plans = pre ++ q :: post ∧ q.slot = k ∧ q.station = p.station ∧ q.immersion = p.immersion ∧
        ((s.pattern pat).mode = .none ∨ (s.pattern pat).mode = .gas → q.dunk = none) ∧
        ((s.pattern pat).inRange = true → p.immersion ≤ s.clock →
          (s.pattern pat).fixes p.immersion s.clock q.dunk))

/-- The four cradle commands: the up-limit ends RISING, the end of the out time begins FALLING from that second (DOWN
at once over a true down-limit), the down-limit ends FALLING, and a limit missed for the cradle time leaves the cradle
HELD with its lift released and CRADLE_FAULT asserted with its latch and event. A cradle in another state is left
alone. -/
def Obligations.CradlesMove : Prop :=
  ∀ (n : Nat) (inp : Inputs) (s : State), s.run = .running → 1 ≤ n → n ≤ 16 → s.cradles.length = 16 →
    s.baths.length = 16 → ∀ pin, pin = inp.stations.getD (n - 1) ⟨false, 0, false, false, false, false⟩ →
    (∃ t, exec (.cradleUpLimit n inp) s = .next t ∧
      t = { s with pins := inp, out := t.out, cradles := t.cradles } ∧ (∀ m, m ≠ n → t.cradle m = s.cradle m) ∧
      t.cradle n = (if (s.cradle n).state = .rising ∧ pin.cradleUp = true then
        ⟨.out, s.clock, (s.cradle n).outTime⟩ else s.cradle n)) ∧
    (∃ t, exec (.dunkOutEnd n inp) s = .next t ∧
      t = { s with pins := inp, out := t.out, cradles := t.cradles } ∧ (∀ m, m ≠ n → t.cradle m = s.cradle m) ∧
      t.cradle n = (if (s.cradle n).state = .out ∧ min ((s.cradle n).since + (s.cradle n).outTime) 4294967295 ≤ s.clock then
        ⟨if pin.cradleDown = true then .down else .falling,
          min ((s.cradle n).since + (s.cradle n).outTime) 4294967295, (s.cradle n).outTime⟩ else s.cradle n)) ∧
    (∃ t, exec (.cradleDownLimit n inp) s = .next t ∧
      t = { s with pins := inp, out := t.out, cradles := t.cradles } ∧ (∀ m, m ≠ n → t.cradle m = s.cradle m) ∧
      t.cradle n = (if (s.cradle n).state = .falling ∧ pin.cradleDown = true then
        ⟨.down, (s.cradle n).since, (s.cradle n).outTime⟩ else s.cradle n)) ∧
    (∃ t, exec (.cradleTimeout n inp) s = .next t ∧
      t = { s with pins := inp, out := t.out, cradles := t.cradles, baths := t.baths, events := t.events,
                   lost := t.lost } ∧
      (∀ m, m ≠ n → t.cradle m = s.cradle m ∧ t.bath m = s.bath m) ∧
      (if min ((s.cradle n).since + s.cfg.line.cradleTime) 4294967295 ≤ s.clock ∧
          (((s.cradle n).state = .rising ∧ pin.cradleUp = false) ∨
            ((s.cradle n).state = .falling ∧ pin.cradleDown = false)) then
        t.cradle n = ⟨.held, (s.cradle n).since, (s.cradle n).outTime⟩ ∧ t.out.lifts.getD (n - 1) true = false ∧
        t.cond n .cradleFault = true ∧
        (s.cond n .cradleFault = false → (t.bath n).latches.cradleFault = true ∧
          (s.events.length < 64 → t.events = s.events ++
            [⟨s.clock, .flagAsserted, n, (s.occupantOf n).1, (s.occupantOf n).2, 6⟩])) ∧
        (s.cond n .cradleFault = true → t.events = s.events)
      else t.cradle n = s.cradle n ∧ t.bath n = s.bath n ∧ t.events = s.events))

/-- A tick of a running manifold advances the counter; the step from 199 is the frame wrap, which takes the frame
number on from 65535 to 0, performs a pending apply (a clash of on ticks leaves the live map and posts BURST_CLASH
with the lowest pair, otherwise the staged map is live, BURST_OFF_SHARED names the lowest pair that shares an off tick
and BURST_APPLIED is posted) and keeps open only the valves whose entry is unchanged
with a tail. That MANIFOLD_TICK at 199 and FRAME_WRAP are one step, and that FRAME_WRAP elsewhere does nothing, is the
model's choice (notes/assumptions/25.md). -/
def Obligations.ManifoldTicksAndWraps : Prop :=
  ∀ (inp : Inputs) (s : State), s.run = .running → s.manifold.running = true → inp.gasOk = true →
    s.manifold.valves.length = 16 →
    (s.manifold.tick < 199 →
      (∃ t, exec (.manifoldTick inp) s = .next t ∧
        t = { s with pins := inp, out := t.out, manifold := { s.manifold with tick := s.manifold.tick + 1 },
                     line := { s.line with gasLow := false } }) ∧
      (∃ t, exec (.frameWrap inp) s = .next t ∧ t = { s with pins := inp, out := t.out })) ∧
    (199 ≤ s.manifold.tick → ∀ c, c = Instr.manifoldTick inp ∨ c = .frameWrap inp →
      ∃ t, exec c s = .next t ∧
        t = { s with pins := inp, out := t.out, cfg := { s.cfg with live := t.cfg.live }, manifold := t.manifold,
                     line := { s.line with gasLow := false }, events := t.events, lost := t.lost } ∧
        t.manifold.running = true ∧ t.manifold.tick = 0 ∧ t.manifold.applyPending = false ∧
        t.manifold.frame = (s.manifold.frame + 1) % 65536 ∧ t.manifold.staged = s.manifold.staged ∧
        (s.manifold.applyPending = false → t.cfg.live = s.cfg.live ∧ t.events = s.events) ∧
        (s.manifold.applyPending = true → mapClear s.manifold.staged →
          t.cfg.live = s.manifold.staged ∧ s.burstsApplied t s.manifold.staged) ∧
        (s.manifold.applyPending = true → ¬ mapClear s.manifold.staged →
          t.cfg.live = s.cfg.live ∧ ∃ i j, lowestShared (·.onTick) s.manifold.staged i j ∧
            s.posted t .burstClash i 255 0 j) ∧
        (∀ n, 1 ≤ n → n ≤ 16 → (t.valve n = true ↔
          s.valve n = true ∧ burstOf s.cfg.live n = burstOf t.cfg.live n ∧ (burstOf t.cfg.live n).offTick ≠ 0)))

/-- At the on tick of an enabled live entry whose ticks differ the station's valve opens exactly when the rack there
is IN_BATH in a step whose pattern gives a burst in this frame, its cradle DOWN with the limit true, no LEVEL_LOW, gas
pressure and a running manifold; at the off tick an open valve closes. GAS_LOW follows the input: a first reading of
false sets it, closes every valve and posts GAS_LOW; further readings of false post nothing; a reading of true clears
it and posts nothing. GAS_PRESSURE_CHANGE is such a reading in every line state (notes/assumptions/26.md). -/
def Obligations.BurstValvesAndGasPressure : Prop :=
  (∀ (n : Nat) (inp : Inputs) (s : State), s.run = .running → s.manifold.running = true → 1 ≤ n → n ≤ 16 →
     s.manifold.valves.length = 16 →
     (∃ t, exec (.burstOnTick n inp) s = .next t ∧
       t = { s with pins := inp, out := t.out, manifold := { s.manifold with valves := t.manifold.valves } } ∧
       (∀ m, m ≠ n → t.valve m = s.valve m) ∧
       (t.valve n = true ↔ s.valve n = true ∨
         ((burstOf s.cfg.live n).enabled = true ∧ (burstOf s.cfg.live n).onTick = s.manifold.tick ∧
           (burstOf s.cfg.live n).onTick ≠ (burstOf s.cfg.live n).offTick ∧
           (∃ k r p, s.rackAt n = some (k, r) ∧ r.phase = .inBath ∧ s.patternOf r = some p ∧
             ((s.pattern p).mode = .gas ∨ (s.pattern p).mode = .both) ∧
             s.manifold.frame % (s.pattern p).everyN = 0) ∧
           (s.cradle n).state = .down ∧ (t.pin n).cradleDown = true ∧ s.cond n .levelLow = false ∧
           inp.gasOk = true))) ∧
     (∃ t, exec (.burstOffTick n inp) s = .next t ∧
       t = { s with pins := inp, out := t.out, manifold := { s.manifold with valves := t.manifold.valves } } ∧
       (∀ m, m ≠ n → t.valve m = s.valve m) ∧
       t.valve n = (s.valve n && decide (s.manifold.tick ≠ (burstOf s.cfg.live n).offTick)))) ∧
  (∀ (inp : Inputs) (s : State), s.run = .running →
     ∃ t, exec (.gasPressureChange inp) s = .next t ∧
       t = { s with pins := inp, out := t.out, line := { s.line with gasLow := !inp.gasOk }, events := t.events,
                    lost := t.lost, manifold := { s.manifold with valves := t.manifold.valves } } ∧
       (inp.gasOk = true → t.manifold.valves = s.manifold.valves ∧ t.events = s.events ∧ t.lost = s.lost) ∧
       (inp.gasOk = false → t.manifold.valves.length = s.manifold.valves.length ∧
         (∀ v ∈ t.manifold.valves, v = false) ∧
         (s.line.gasLow = true → t.events = s.events ∧ t.lost = s.lost) ∧
         (s.line.gasLow = false → s.events.length < 64 →
           t.events = s.events ++ [⟨s.clock, .gasLow, 0, 255, 0, 0⟩] ∧ t.lost = s.lost)))

/-! ### The pump, the store, the watchdog -/

/-- PUMP_START: an IDLE pump takes the oldest entry that is eligible, however many stand before it that are not,
asserts that station's selector alone and pump run, and runs ceil(volume × 60 / flow) seconds; with no eligible entry,
or while it runs, nothing begins. A run ends without flow, as LINE_SECOND has read it (the readings that count are
notes/assumptions/43.md), 5 s after its start: PUMP_FAULT and its event, the entry kept and not running; or with flow
at its length: the entry leaves and its credit leaves E, not below 0, with EXHAUSTED judged again. -/
def Obligations.PumpServesTheQueue : Prop :=
  (∀ (inp : Inputs) (s : State) (pre post : List Delivery) (d : Delivery), s.run = .running →
     s.deliveries = pre ++ d :: post → ∀ eligible : Delivery → Prop,
     (∀ x, eligible x ↔ s.cond x.station .levelHigh = false ∧ s.line.state ≠ .dormant ∧ s.line.pumpFault = false) →
     (s.pump = none → (∀ x ∈ pre, ¬ eligible x) → eligible d →
       ∃ t, exec (.pumpStart inp) s = .next t ∧
         t.deliveries = pre ++ { d with running := true } :: post ∧
         t.pump = some ⟨d.station, s.clock, (d.volume * 60 + s.cfg.line.pumpFlow - 1) / s.cfg.line.pumpFlow, false⟩ ∧
         t.out.pumpRun = true ∧ t.out.selectors.length = 16 ∧
         (∀ n, 1 ≤ n → n ≤ 16 → (t.out.selectors.getD (n - 1) false = true ↔ n = d.station)) ∧
         t = { s with pins := inp, out := t.out, deliveries := t.deliveries, pump := t.pump }) ∧
     (s.pump ≠ none ∨ (∀ x ∈ s.deliveries, ¬ eligible x) →
       ∃ t, exec (.pumpStart inp) s = .next t ∧ t = { s with pins := inp, out := t.out })) ∧
  (∀ (inp : Inputs) (s : State) (p : PumpRun), s.run = .running → s.pump = some p → s.baths.length = 16 →
     1 ≤ p.station → p.station ≤ 16 →
     (min (p.start + 5) 4294967295 ≤ s.clock → p.flowSeen = false →
       ∃ t, exec (.pumpFlowFault inp) s = .next t ∧ t.pump = none ∧ t.line.pumpFault = true ∧ t.out.pumpRun = false ∧
         (∀ v ∈ t.out.selectors, v = false) ∧
         t.deliveries = s.deliveries.map (fun d => { d with running := false }) ∧
         s.posted t .pumpFault p.station 255 0 0 ∧
         t = { s with pins := inp, out := t.out, pump := none, deliveries := t.deliveries,
                      line := { s.line with pumpFault := true }, events := t.events, lost := t.lost }) ∧
     (s.clock < min (p.start + 5) 4294967295 ∨ p.flowSeen = true →
       ∃ t, exec (.pumpFlowFault inp) s = .next t ∧ t = { s with pins := inp, out := t.out }) ∧
     (∀ pre post d, s.deliveries = pre ++ d :: post → (∀ x ∈ pre ++ post, x.running = false) → d.running = true →
       min (p.start + p.length) 4294967295 ≤ s.clock → p.flowSeen = true →
       ∃ t, exec (.pumpRunComplete inp) s = .next t ∧ t.pump = none ∧ t.out.pumpRun = false ∧
         t.deliveries = pre ++ post ∧
         (t.bath p.station).exhaustion = (s.bath p.station).exhaustion - d.credit ∧
         (t.cond p.station .exhausted = true ↔
           (s.stationCfg p.station).exhLimit ≤ (t.bath p.station).exhaustion) ∧
         (∀ n, n ≠ p.station → t.bath n = s.bath n) ∧
         t = { s with pins := inp, out := t.out, pump := none, deliveries := t.deliveries, baths := t.baths,
                      events := t.events, lost := t.lost }) ∧
     (s.clock < min (p.start + p.length) 4294967295 ∨ p.flowSeen = false →
       ∃ t, exec (.pumpRunComplete inp) s = .next t ∧ t = { s with pins := inp, out := t.out }))

/-- LINK_WATCHDOG_EXPIRY at the expiry second sets LINK_LOST, posts it with the timeout and applies the link-lost
action: under DRAIN a READY line drains to STANDBY, or enters STANDBY at once when no rack counts, and a WARMUP line
enters STANDBY; otherwise the line state stays. Before the expiry second nothing happens. -/
def Obligations.WatchdogExpires : Prop :=
  ∀ (inp : Inputs) (s : State) (x : Nat), s.run = .running → s.link.watchdog = .running x →
    (s.clock < x → ∃ t, exec (.linkWatchdogExpiry inp) s = .next t ∧ t = { s with pins := inp, out := t.out }) ∧
    (x ≤ s.clock → ∃ t, exec (.linkWatchdogExpiry inp) s = .next t ∧ t.link.lost = true ∧
      t.link.watchdog = .expired s.clock ∧ s.posted t .linkLost 0 255 0 s.cfg.line.linkTimeout ∧
      (s.cfg.line.lostAction = .continue ∨ (s.line.state ≠ .ready ∧ s.line.state ≠ .warmup) →
        t = { s with pins := inp, out := t.out, events := t.events, lost := t.lost,
                     link := { s.link with watchdog := .expired s.clock, lost := true } }) ∧
      (s.cfg.line.lostAction = .drain → s.line.state = .warmup →
        t.line.state = .standby ∧ t.line.warmStart = none ∧ t.manifold.running = false ∧
        s.posted t .lineState 0 255 0 (1 * 256 + 6)) ∧
      (s.cfg.line.lostAction = .drain → s.line.state = .ready →
        if s.someRack s.countsForDrain = true then
          t.line.state = .draining ∧ t.line.drainTarget = some .standby ∧ s.posted t .lineState 0 255 0 (4 * 256 + 6)
        else t.line.state = .standby ∧ t.manifold.running = false ∧ s.posted t .lineState 0 255 0 (1 * 256 + 6)) ∧
      t.slots = s.slots ∧ t.schedule = s.schedule)

/-! ### The link -/

/-- A gap or a dropped byte inside a frame, a length byte above 200 in its place and a failed check discard the frame:
the path hunts with an empty buffer, the counter rises by one and stops at 65535, and the first count at the threshold
with LINK_DEGRADED clear sets it and posts it. Between frames a gap or a dropped byte counts nothing. That one command
stands for a frame from its lead byte on is the model's form (notes/assumptions/10.md). -/
def Obligations.BrokenFramesAreDiscarded : Prop :=
  ∀ (s : State) (c : Instr) (inp : Inputs), s.run = .running →
    ((s.link.path = .receiving ∧ (c = .frameGap inp ∨ c = .byteDropped inp)) ∨
      (s.link.path = .receiving ∧ s.link.rx.length = 4 ∧
        ∃ b : Byte, 200 < b.toNat ∧ c = .leadByteReceived b inp) ∨
      ((s.link.path = .hunting ∨ (s.link.path = .receiving ∧ s.link.rx.length < 5)) ∧
        ∃ length : Byte, 200 < length.toNat ∧ c = .frameLengthDiscard length inp) ∨
      (∃ kind f, s.takes kind f ∧ frameIntact kind f = false ∧ c = .frameCheckFailed kind f inp)) →
    (∃ t, exec c s = .next t ∧ t.link.path = .hunting ∧ t.link.rx = [] ∧
      t.link.discards = min (s.link.discards + 1) 65535 ∧
      (t.link.degraded = true ↔ s.link.degraded = true ∨ s.cfg.line.threshold ≤ t.link.discards) ∧
      (s.link.degraded = false → s.cfg.line.threshold ≤ t.link.discards → s.events.length < 64 →
        t.events = s.events ++ [⟨s.clock, .linkDegraded, 0, 255, 0, s.cfg.line.threshold⟩]) ∧
      (s.link.degraded = true ∨ t.link.discards < s.cfg.line.threshold → t.events = s.events ∧ t.lost = s.lost) ∧
      t = { s with pins := inp, out := t.out, events := t.events, lost := t.lost,
                   link := { s.link with path := .hunting, rx := [], discards := t.link.discards,
                                         degraded := t.link.degraded } }) ∧
    (∀ c', c' = .frameGap inp ∨ c' = .byteDropped inp → s.link.path ≠ .receiving →
      ∃ t, exec c' s = .next t ∧ t = { s with pins := inp, out := t.out })

/-- LEAD_BYTE_RECEIVED: in HUNTING 0xA9 begins a frame and any other byte is passed over uncounted; in RECEIVING every
byte, 0xA9 too, is a field of the frame; in CLOSED nothing is taken in; none of these counts. The last check byte of a
frame has the effect of the frame's own command, whether its check fails, it is a request, its kind is unknown or it is
passed over. FRAME_PASSED_OVER: an intact frame for another address, or of a reply kind, returns the path to HUNTING and
counts nothing. UNKNOWN_REQUEST_KIND: an accepted frame whose kind is not of the catalogue is answered BAD_KIND.
REPLY_SENT without a RESTART pending opens the path again and puts the baud and the unit address of the settings to use.
That one command may stand for a whole frame is the model's form (notes/assumptions/10.md). -/
def Obligations.BytesForeignFramesAndSentReplies : Prop :=
  (∀ (s : State) (inp : Inputs), s.run = .running →
     (∀ b : Byte,
       (s.link.path = .hunting ∨ s.link.path = .closed ∨ s.link.rx.length < 4 ∨
           (s.link.rx.length = 4 ∧ b.toNat ≤ 200) ∨
           (5 ≤ s.link.rx.length ∧ u8 s.link.rx 4 ≤ 200 ∧ s.link.rx.length + 1 < 7 + u8 s.link.rx 4) →
         ∃ t, exec (.leadByteReceived b inp) s = .next t ∧
           (s.link.path = .hunting → b = 0xA9#8 → t.link.path = .receiving ∧ t.link.rx = [0xA9#8]) ∧
           (s.link.path = .hunting → b ≠ 0xA9#8 → t.link = s.link) ∧
           (s.link.path = .receiving → t.link.path = .receiving ∧ t.link.rx = s.link.rx ++ [b]) ∧
           (s.link.path = .closed → t.link = s.link) ∧
           t = { s with pins := inp, out := t.out, link := { s.link with path := t.link.path, rx := t.link.rx } }) ∧
       (∀ kind f, s.link.path = .receiving → f.payload.length ≤ 200 →
         s.link.rx ++ [b] = frameBytes f.addr f.tag kind f.payload f.check →
         (frameIntact kind f = false → exec (.leadByteReceived b inp) s = exec (.frameCheckFailed kind f inp) s) ∧
         (∀ c lengthOk, requestOf c = some (kind, lengthOk, f, inp) → exec (.leadByteReceived b inp) s = exec c s) ∧
         (frameIntact kind f = true → kind.toNat = 0 ∨ (28 ≤ kind.toNat ∧ kind.toNat ≤ 127) →
           exec (.leadByteReceived b inp) s = exec (.unknownRequestKind kind f inp) s) ∧
         (frameIntact kind f = true → f.addr.toNat ≠ s.link.addr ∨ 128 ≤ kind.toNat →
           exec (.leadByteReceived b inp) s = exec (.framePassedOver kind f inp) s))) ∧
     (∀ kind f, s.takes kind f → frameIntact kind f = true → f.addr.toNat ≠ s.link.addr ∨ 128 ≤ kind.toNat →
       ∃ t, exec (.framePassedOver kind f inp) s = .next t ∧
         t = { s with pins := inp, out := t.out, link := { s.link with path := .hunting, rx := [] } })) ∧
  (∀ (s : State) (inp : Inputs),
     (∀ kind f, s.hears kind f → kind.toNat = 0 ∨ (28 ≤ kind.toNat ∧ kind.toNat ≤ 127) →
       ∃ t, exec (.unknownRequestKind kind f inp) s = .next t ∧ s.onlyAnswered t kind f inp [1#8]) ∧
     (s.run = .running → s.link.reply ≠ none → s.link.restartPending = false →
       ∃ t, exec (.replySent inp) s = .next t ∧
         t = { s with pins := inp, out := t.out, link := { s.link with
                 path := .hunting, rx := [], reply := none, baud := s.cfg.line.baud,
                 addr := if s.cfg.line.override = 0 then strapAddress s.link.straps else s.cfg.line.override } }))

/-- Whatever the request: lost while the path is CLOSED; discarded and counted when its check fails; passed over,
touching nothing, for another address; answered BAD_LENGTH alone, with no effect of its own, when its payload has a
length its kind does not allow. The path takes a whole frame while it looks for a lead byte or holds the first bytes of
that frame (the model's form, notes/assumptions/10.md). -/
def Obligations.RequestsPassTheLinkChecks : Prop :=
  ∀ (c : Instr) (kind : Byte) (lengthOk : List Byte → Bool) (f : Frame) (inp : Inputs) (s : State),
    requestOf c = some (kind, lengthOk, f, inp) → s.run = .running → f.payload.length ≤ 200 →
    (s.link.path = .closed → ∃ t, exec c s = .next t ∧ t = { s with pins := inp, out := t.out }) ∧
    (s.takes kind f → frameIntact kind f = false → ∃ t, exec c s = .next t ∧
      t.link.path = .hunting ∧ t.link.discards = min (s.link.discards + 1) 65535 ∧ t.link.watchdog = s.link.watchdog ∧
      t.cfg = s.cfg ∧ t.slots = s.slots ∧ t.line = s.line ∧ t.schedule = s.schedule) ∧
    (s.takes kind f → frameIntact kind f = true → f.addr.toNat ≠ s.link.addr → ∃ t, exec c s = .next t ∧
      t = { s with pins := inp, out := t.out, link := { s.link with path := .hunting, rx := [] } }) ∧
    (s.hears kind f → lengthOk f.payload = false →
      ∃ t, exec c s = .next t ∧ s.onlyAnswered t kind f inp [2#8])

/-- Every accepted frame closes the path, is answered once with the unit address, its tag and its kind plus 0x80, and
restarts the watchdog with the timeout of the settings; after an expiry it first clears LINK_LOST and posts
LINK_RESTORED with the seconds since. SET LINE restarts the watchdog with the new timeout; READ EVENTS may take
LINK_RESTORED with it. -/
def Obligations.AcceptedFramesTouchTheWatchdog : Prop :=
  ∀ (c : Instr) (kind : Byte) (lengthOk : List Byte → Bool) (f : Frame) (inp : Inputs) (s : State),
    requestOf c = some (kind, lengthOk, f, inp) → s.hears kind f →
    ∃ t reply, exec c s = .next t ∧ t.link.path = .closed ∧ t.link.reply = some reply ∧
      reply.addr.toNat = s.link.addr ∧ reply.tag = f.tag ∧ reply.kind = kind + 0x80#8 ∧ reply.payload ≠ [] ∧
      t.link.lost = false ∧ t.link.addr = s.link.addr ∧ t.link.baud = s.link.baud ∧
      t.link.watchdog = (if t.cfg.line.linkTimeout = 0 then .off
        else .running (min (s.clock + t.cfg.line.linkTimeout) 4294967295)) ∧
      (s.link.lost = true → ∀ x, s.link.watchdog = .expired x → c ≠ .readEvents f inp →
        s.posted t .linkRestored 0 255 0 (min (s.clock - x) 65535))

/-- While the store is busy the ten requests that change settings are answered BUSY before any other check of their
own and change nothing; with the commissioning lock on and the store not busy SET LINE, SET STATION and SET CURVE are
answered LOCKED and change nothing. The step byte of SET RECIPE's BUSY is 0 (notes/assumptions/21.md). -/
def Obligations.BusyAndLockedRequestsAreRefused : Prop :=
  ∀ (c : Instr) (kind : Byte) (lengthOk : List Byte → Bool) (f : Frame) (inp : Inputs) (s : State),
    requestOf c = some (kind, lengthOk, f, inp) → s.hears kind f → lengthOk f.payload = true →
    (s.storeWrite ≠ none → changesSettings c = true →
      ∃ t, exec c s = .next t ∧ s.onlyAnswered t kind f inp (if kind = 0x07#8 then [6#8, 0#8] else [6#8])) ∧
    (s.storeWrite = none → inp.lock = true → c = .setLine f inp ∨ c = .setStation f inp ∨ c = .setCurve f inp →
      ∃ t, exec c s = .next t ∧ s.onlyAnswered t kind f inp [5#8])

/-- IDENTIFY answers OK with the model number, the revision, the capacities, the unit address and its source, the
strap value and the station count, and changes nothing. Which revision a part shows is open (notes/assumptions/12.md).
-/
def Obligations.IdentifyAnswers : Prop :=
  ∀ (f : Frame) (inp : Inputs) (s : State), s.hears 0x01#8 f → f.payload = [] →
    s.link.straps ≤ 31 → s.cfg.line.count ≤ 16 →
    ∃ t p, exec (.identify f inp) s = .next t ∧ s.onlyAnswered t 0x01#8 f inp p ∧ p.length = 23 ∧
      u8 p 0 = 0 ∧ u16 p 1 = 2416 ∧ 65 ≤ u8 p 3 ∧ u8 p 3 ≤ 90 ∧
      (p.drop 4).take 15 = [16#8, 24#8, 8#8, 12#8, 4#8, 4#8, 8#8, 192#8, 8#8, 24#8, 16#8, 64#8, 16#8, 8#8, 200#8] ∧
      u8 p 19 = s.link.addr ∧ (u8 p 20 = 1 ↔ s.cfg.line.override ≠ 0) ∧ u8 p 21 = s.link.straps ∧
      u8 p 22 = s.cfg.line.count

/-- STATUS answers OK with the line state, the clock, the line flags, the busy indications, the slots in use, the
orphans among them, the entries, the deferred racks, the event and completion counts, the closed stations and the
discard counter, each as the request finds it, and changes nothing. -/
def Obligations.StatusAnswers : Prop :=
  ∀ (f : Frame) (inp : Inputs) (s : State), s.hears 0x02#8 f → f.payload = [] → s.queuesBounded →
    s.plansBounded → s.deferred.length ≤ 24 → s.clock ≤ 4294967295 →
    ∃ t p u, exec (.status f inp) s = .next t ∧ u = s.taken 0x02#8 f inp ∧ s.onlyAnswered t 0x02#8 f inp p ∧
      p.length = 20 ∧ u8 p 0 = 0 ∧ u8 p 1 = s.line.state.code ∧ u32 p 2 = s.clock ∧
      ((u8 p 6).testBit 0 = false ∧ (u8 p 6).testBit 1 = s.link.degraded ∧ (u8 p 6).testBit 2 = s.line.gasLow ∧
        (u8 p 6).testBit 3 = s.line.pumpFault ∧ (u8 p 6).testBit 4 = s.line.configDefaulted ∧
        (u8 p 6).testBit 5 = s.line.carriageFault) ∧
      (((u8 p 7).testBit 0 = true ↔ s.driver.state = .approaching ∨ s.driver.state = .raise ∨ s.driver.state = .drain ∨
          s.driver.state = .travel ∨ s.driver.state = .lower) ∧
        (u8 p 7).testBit 1 = s.pump.isSome ∧ (u8 p 7).testBit 2 = s.manifold.applyPending ∧
        (u8 p 7).testBit 3 = s.storeWrite.isSome ∧ ((u8 p 7).testBit 4 = true ↔ s.line.state = .warmup)) ∧
      u8 p 8 = s.racks.length ∧ u8 p 9 = (s.racks.filter fun e => e.2.recipe.isNone).length ∧
      u8 p 10 = s.schedule.length ∧ u8 p 11 = s.deferred.length ∧ u8 p 12 = u.events.length ∧
      u8 p 13 = s.completions.length ∧
      (∀ n, 1 ≤ n → n ≤ 16 → ((u16 p 14).testBit (n - 1) = true ↔ s.configured n = true ∧ s.hostClosed n = true)) ∧
      (∀ n, 1 ≤ n → n ≤ 16 → ((u16 p 16).testBit (n - 1) = true ↔ s.isBath n = true ∧ s.isOpen n = false)) ∧
      u16 p 18 = s.link.discards

/-! ### Requests that change, read and store settings -/

/-- SET LINE with the record `c` in a part at rest with no rack: taken when every field lies in its range, otherwise
BAD_VALUE; not at rest, or with a rack slot in use, WRONG_STATE. An unlisted link-lost action or baud is out of range.
A taken record stands whole, the watchdog restarts with its timeout, and every station above its count is UNUSED with
group 0, no closure, and no bath, cradle or delivery left; the deliveries of the other stations stay, and so does the
pump's run of one of them. -/
def Obligations.SetLineReplacesTheRecord : Prop :=
  (∀ (f : Frame) (inp : Inputs) (s : State), s.hears 0x03#8 f → f.payload.length = 23 → s.storeWrite = none →
    inp.lock = false → s.line.state = .dormant ∨ s.line.state = .standby → s.racks = [] →
    2 ≤ u8 f.payload 15 ∨ 3 ≤ u8 f.payload 19 →
    ∃ t, exec (.setLine f inp) s = .next t ∧ s.onlyAnswered t 0x03#8 f inp [3#8]) ∧
  (∀ (f : Frame) (inp : Inputs) (s : State) (c : LineCfg), s.hears 0x03#8 f → f.payload = c.bytes →
    s.storeWrite = none → inp.lock = false →
    c.count ≤ 255 → c.tl ≤ 255 → c.tw ≤ 255 → c.tp ≤ 255 → c.guard ≤ 255 → c.window ≤ 65535 → c.hold ≤ 65535 →
    c.margin ≤ 255 → c.cradleTime ≤ 255 → c.settle ≤ 65535 → c.warmTimeout ≤ 65535 → c.linkTimeout ≤ 255 →
    c.threshold ≤ 65535 → c.override ≤ 255 → c.pumpFlow ≤ 65535 →
    ((s.line.state ≠ .dormant ∧ s.line.state ≠ .standby) ∨ s.racks ≠ [] →
      ∃ t, exec (.setLine f inp) s = .next t ∧ s.onlyAnswered t 0x03#8 f inp [4#8]) ∧
    (s.line.state = .dormant ∨ s.line.state = .standby → s.racks = [] →
      if 2 ≤ c.count ∧ c.count ≤ 16 ∧ 1 ≤ c.tl ∧ c.tl ≤ 30 ∧ 1 ≤ c.tw ∧ c.tw ≤ 30 ∧ 5 ≤ c.tp ∧ c.tp ≤ 100 ∧
          c.guard ≤ 30 ∧ c.window ≤ 900 ∧ 30 ≤ c.hold ∧ c.hold ≤ 1800 ∧ 1 ≤ c.margin ∧ c.margin ≤ 20 ∧
          1 ≤ c.cradleTime ∧ c.cradleTime ≤ 10 ∧ 10 ≤ c.settle ∧ c.settle ≤ 600 ∧ 60 ≤ c.warmTimeout ∧
          c.warmTimeout ≤ 7200 ∧ 1 ≤ c.threshold ∧ c.override ≤ 30 ∧ 50 ≤ c.pumpFlow ∧ c.pumpFlow ≤ 2000 then
        ∃ t, exec (.setLine f inp) s = .next t ∧ t.cfg.line = c ∧
          t.link = { (s.replying 0x03#8 f inp [0#8]) with watchdog := Watchdog.start c.linkTimeout s.clock } ∧
          (∀ n, 1 ≤ n → n ≤ c.count → t.stationCfg n = s.stationCfg n ∧ t.hostClosed n = s.hostClosed n ∧
            t.bath n = s.bath n ∧ t.cradle n = s.cradle n ∧ t.valve n = s.valve n) ∧
          (∀ n, c.count < n → n ≤ 16 →
            (t.stationCfg n).role = .unused ∧ (t.stationCfg n).group = 0 ∧ t.hostClosed n = false ∧
            (s.isBath n = true → t.bath n = { presence := (s.bath n).presence } ∧ (t.cradle n).state = .none ∧
              t.valve n = false)) ∧
          (∀ leaves : Nat → Bool, (∀ n, leaves n = true ↔ s.isBath n = true ∧ c.count < n ∧ n ≤ 16) →
            t.deliveries = (s.deliveries.filter fun d => !leaves d.station) ∧
            t.pump = s.pump.filter fun p => !leaves p.station) ∧
          t = { s.taken 0x03#8 f inp with out := t.out, baths := t.baths, cradles := t.cradles,
                                          deliveries := t.deliveries, pump := t.pump, link := t.link,
                                          manifold := { s.manifold with valves := t.manifold.valves },
                                          cfg := { s.cfg with line := c, stations := t.cfg.stations,
                                                              closures := t.cfg.closures } }
      else ∃ t, exec (.setLine f inp) s = .next t ∧ s.onlyAnswered t 0x03#8 f inp [3#8]))

/-- SET STATION in a part at rest with no rack is taken when the station is configured, every field lies in its range,
no other station holds the group in another role and no recipe step of another kind names it; otherwise it is
BAD_VALUE, and so is an unlisted role, and a mask field with a bit of a flag that is not maskable set
(notes/assumptions/24.md). Not at rest, or with a rack slot in use, it is WRONG_STATE. A taken record stands whole and
no other station's changes. A station that comes to hold a bath starts empty with its cradle commanded down; one that
leaves loses bath, cradle, valve and deliveries, and no other change touches the queue or the pump; EXH_UNKNOWN
follows DEVELOP. A station that passes between DEVELOP and BATH starts with the same empty state and its cradle
commanded down, and keeps its closure; that its exhaustion index and its last samples stay is the model's reading
(notes/assumptions/32.md). One that keeps its role keeps its cradle, its conditions and latches but those of the flags
it masks, and its filter where the depth stays; with a new depth the conditions judged from the filter are released
too (notes/assumptions/32.md). -/
def Obligations.SetStationReplacesTheRecord : Prop :=
  (∀ (f : Frame) (inp : Inputs) (s : State), s.hears 0x04#8 f → f.payload.length = 19 → s.storeWrite = none →
    inp.lock = false → s.line.state = .dormant ∨ s.line.state = .standby → s.racks = [] →
    5 ≤ u8 f.payload 1 ∨ (∃ i, (i = 3 ∨ i = 4 ∨ i = 6 ∨ i = 7 ∨ i = 8) ∧ (u16 f.payload 11).testBit i = true) →
    ∃ t, exec (.setStation f inp) s = .next t ∧ s.onlyAnswered t 0x04#8 f inp [3#8]) ∧
  (∀ (f : Frame) (inp : Inputs) (s : State) (n : Nat) (c : StationCfg), s.hears 0x04#8 f →
    f.payload = b1 n ++ c.bytes → s.storeWrite = none → inp.lock = false → n ≤ 255 → s.cfg.line.count ≤ 16 →
    s.cfg.stations.length = 16 → s.baths.length = 16 → s.cradles.length = 16 → s.manifold.valves.length = 16 →
    c.group ≤ 255 → c.winLow ≤ 65535 → c.winHigh ≤ 65535 → c.depth ≤ 255 → c.jump ≤ 255 → c.spreadLimit ≤ 255 →
    c.probeHold ≤ 255 → c.exhPerLoad ≤ 255 → c.slope ≤ 65535 → c.exhLimit ≤ 65535 → c.mlPerLoad ≤ 255 →
    c.masks.probeFault = false → c.masks.levelLow = false → c.masks.cradleFault = false →
    c.masks.exhUnknown = false → c.masks.exhausted = false →
    ((s.line.state ≠ .dormant ∧ s.line.state ≠ .standby) ∨ s.racks ≠ [] →
      ∃ t, exec (.setStation f inp) s = .next t ∧ s.onlyAnswered t 0x04#8 f inp [4#8]) ∧
    (s.line.state = .dormant ∨ s.line.state = .standby → s.racks = [] → ∀ ok : Prop,
      (ok ↔ 1 ≤ n ∧ n ≤ s.cfg.line.count ∧ c.winLow < c.winHigh ∧ c.winHigh ≤ 600 ∧
        (c.depth = 1 ∨ c.depth = 2 ∨ c.depth = 4 ∨ c.depth = 8) ∧ 5 ≤ c.jump ∧ c.jump ≤ 50 ∧ 1 ≤ c.spreadLimit ∧
        c.spreadLimit ≤ 100 ∧ 2 ≤ c.probeHold ∧ c.probeHold ≤ 30 ∧ c.exhPerLoad ≤ 50 ∧ c.slope ≤ 512 ∧
        100 ≤ c.exhLimit ∧ c.exhLimit ≤ 1000 ∧ c.mlPerLoad ≤ 200 ∧
        (c.role.holdsBath = false → c.group = 0) ∧
        (c.role.holdsBath = true → 1 ≤ c.group ∧ c.group ≤ 15 ∧
          (∀ m, m ≠ n → s.isBath m = true → m ≤ 16 → s.group m = c.group → s.role m = c.role) ∧
          ∀ steps ∈ s.cfg.recipes, ∀ st ∈ steps, st.group = c.group → (st.kind = .develop ↔ c.role = .develop))) →
      (¬ ok → ∃ t, exec (.setStation f inp) s = .next t ∧ s.onlyAnswered t 0x04#8 f inp [3#8]) ∧
      (ok → ∃ t, exec (.setStation f inp) s = .next t ∧ t.link = s.replying 0x04#8 f inp [0#8] ∧
         t.stationCfg n = c ∧ (∀ m, m ≠ n → t.stationCfg m = s.stationCfg m ∧ t.bath m = s.bath m ∧
           t.cradle m = s.cradle m ∧ t.hostClosed m = s.hostClosed m) ∧
         (t.hostClosed n = if (s.role n).holdsBath = c.role.holdsBath ∧ (c.role.holdsBath = true ∨ s.role n = c.role)
           then s.hostClosed n else false) ∧
         (c.role.holdsBath = true → (s.role n).holdsBath = false →
           (t.bath n).filtered = none ∧ (t.bath n).history = [] ∧ (t.bath n).exhaustion = 0 ∧
           (t.bath n).latches.any = false ∧ (t.bath n).presence = (s.bath n).presence ∧ t.isOpen n = false ∧
           t.cradle n = ⟨if (t.pin n).cradleDown = true then .down else .falling, s.clock, (s.cradle n).outTime⟩) ∧
         (c.role.holdsBath = false → (s.role n).holdsBath = true →
           t.bath n = { presence := (s.bath n).presence } ∧ (t.cradle n).state = .none ∧ t.valve n = false ∧
           t.deliveries = (s.deliveries.filter fun d => d.station != n) ∧
           t.pump = s.pump.filter fun p => p.station != n) ∧
         (c.role.holdsBath = true ∨ (s.role n).holdsBath = false → t.deliveries = s.deliveries ∧ t.pump = s.pump) ∧
         (c.role.holdsBath = true → (s.role n).holdsBath = true →
           (t.bath n).exhaustion = (s.bath n).exhaustion ∧
           (c.role = s.role n → t.cradle n = s.cradle n ∧
             (∀ fl, (t.bath n).latches.get fl = ((s.bath n).latches.get fl && !c.masks.get fl)) ∧
             if c.depth = (s.stationCfg n).depth then
               (t.bath n).filtered = (s.bath n).filtered ∧ (t.bath n).history = (s.bath n).history ∧
               ∀ fl, t.cond n fl = (s.cond n fl && !c.masks.get fl)
             else (t.bath n).filtered = none ∧ (t.bath n).history = [] ∧
               ∀ fl, t.cond n fl = (s.cond n fl && !c.masks.get fl &&
                 !(fl == .tempLow || fl == .tempHigh || fl == .spread))) ∧
           (c.role ≠ s.role n →
             t.bath n = { presence := (s.bath n).presence, levelLow := (s.bath n).levelLow,
                          levelHigh := (s.bath n).levelHigh, raw := (s.bath n).raw, rawValid := (s.bath n).rawValid,
                          exhaustion := (s.bath n).exhaustion, conds := { exhUnknown := c.role == .develop } } ∧
             t.cradle n = ⟨if (t.pin n).cradleDown = true then .down else .falling, s.clock,
               (s.cradle n).outTime⟩)) ∧
         (c.role = .develop → s.role n ≠ .develop → t.cond n .exhUnknown = true) ∧
         (c.role = .bath → s.role n = .develop → t.cond n .exhUnknown = false) ∧
         (t.line.configDefaulted = if t.rolesPresent = true then false else s.line.configDefaulted) ∧
         t = { s.taken 0x04#8 f inp with out := t.out, baths := t.baths, cradles := t.cradles,
                                         deliveries := t.deliveries, pump := t.pump, link := t.link,
                                         manifold := { s.manifold with valves := t.manifold.valves },
                                         line := { s.line with configDefaulted := t.line.configDefaulted },
                                         cfg := { s.cfg with stations := t.cfg.stations,
                                                             closures := t.cfg.closures } })))

/-- STATION SERVICE on a DEVELOP, BATH or UNLOAD station sets or clears its host closure and answers the closure as it
then stands; a closed station is neither open nor usable. Any other station is BAD_VALUE, and so is an action other
than OPEN 0 and CLOSE 1, which is the model's choice (notes/assumptions/23.md). -/
def Obligations.StationServiceSetsTheClosure : Prop :=
  ∀ (f : Frame) (inp : Inputs) (s : State) (n a : Byte), s.hears 0x05#8 f → f.payload = [n, a] → s.storeWrite = none →
    n.toNat ≤ s.cfg.closures.length → ∀ ok : Prop,
    (ok ↔ s.role n.toNat = .develop ∨ s.role n.toNat = .bath ∨ s.role n.toNat = .unload) →
    (ok → ∀ closed : Bool, a = (if closed = true then 1#8 else 0#8) →
      ∃ t, exec (.stationService f inp) s = .next t ∧ t.hostClosed n.toNat = closed ∧
        (∀ m, m ≠ n.toNat → t.hostClosed m = s.hostClosed m) ∧ (closed = true → t.isOpen n.toNat = false ∧
          t.isUsable n.toNat = false) ∧
        t = { s.taken 0x05#8 f inp with link := s.replying 0x05#8 f inp [0#8, a], out := t.out,
                                        cfg := { s.cfg with closures := t.cfg.closures } }) ∧
    (¬ ok ∨ 2 ≤ a.toNat → ∃ t, exec (.stationService f inp) s = .next t ∧ s.onlyAnswered t 0x05#8 f inp [3#8])

/-- SET CURVE with a defined curve that meets R25 replaces the record when no rack in a slot is under a recipe with a
DEVELOP step that names it, and a deletion, whatever else it carries, takes it away when no defined recipe names it; a
curve in use, or a deletion of one that a defined recipe names, is IN_USE. BAD_VALUE carries the index of the first
point outside its range or below its predecessor, 8 where K[8] alone is wrong and 17 for a Tref fault. That a Tref
fault goes before the points, and that 17 stands for a curve number above 3 and for a defined field other than YES or
NO, is the model's choice (notes/assumptions/22.md). -/
def Obligations.SetCurveReplacesTheRecord : Prop :=
  ∀ (f : Frame) (inp : Inputs) (s : State), s.hears 0x06#8 f → s.cfg.curves.length = 4 →
    s.storeWrite = none → inp.lock = false → ∀ refused : List Byte → Prop,
    (∀ p, refused p ↔ ∃ t, exec (.setCurve f inp) s = .next t ∧ s.onlyAnswered t 0x06#8 f inp p) →
    (∀ (n d : Byte) (rest : List Byte), f.payload = n :: d :: rest → rest.length = 36 → 4 ≤ n.toNat ∨ 2 ≤ d.toNat →
      refused [3#8, 17#8]) ∧
    (∀ n, n ≤ 3 → ∀ used : Prop,
      (used ↔ ∃ k r i st, k < 24 ∧ s.rack k = some r ∧ r.recipe = some i ∧ i ≤ 7 ∧ st ∈ s.recipe i ∧
        st.kind = .develop ∧ st.curve = n) →
      (∀ c : Curve, f.payload = b1 n ++ curveBytes (some c) → c.points.length = 17 → c.tref ≤ 65535 →
        (∀ p ∈ c.points, p ≤ 65535) →
        (used → refused [7#8]) ∧
        (¬ used → 600 < c.tref → refused [3#8, 17#8]) ∧
        (¬ used → c.tref ≤ 600 → c.points.Pairwise (· ≤ ·) → (∀ p ∈ c.points, 64 ≤ p ∧ p ≤ 8192) →
          if c.points.getD 8 0 = 1024 then
            ∃ t, exec (.setCurve f inp) s = .next t ∧ t.curve n = some c ∧ (∀ m, m ≠ n → t.curve m = s.curve m) ∧
              t = { s.taken 0x06#8 f inp with link := s.replying 0x06#8 f inp [0#8], out := t.out,
                                              cfg := { s.cfg with curves := t.cfg.curves } }
          else refused [3#8, 8#8]) ∧
        (¬ used → c.tref ≤ 600 → ∀ i, i < 17 → (∀ j, j < i → 64 ≤ c.points.getD j 0 ∧ c.points.getD j 0 ≤ 8192 ∧
            (j ≠ 0 → c.points.getD (j - 1) 0 ≤ c.points.getD j 0)) →
          (c.points.getD i 0 < 64 ∨ 8192 < c.points.getD i 0 ∨ (i ≠ 0 ∧ c.points.getD i 0 < c.points.getD (i - 1) 0)) →
          refused (3#8 :: b1 i))) ∧
      (∀ rest : List Byte, f.payload = b1 n ++ 0#8 :: rest → rest.length = 36 →
        (used ∨ (∃ steps ∈ s.cfg.recipes, ∃ st ∈ steps, st.kind = .develop ∧ st.curve = n) → refused [7#8]) ∧
        (¬ used → (∀ steps ∈ s.cfg.recipes, ∀ st ∈ steps, st.kind = .develop → st.curve ≠ n) →
          ∃ t, exec (.setCurve f inp) s = .next t ∧ t.curve n = none ∧
            t = { s.taken 0x06#8 f inp with link := s.replying 0x06#8 f inp [0#8], out := t.out,
                                            cfg := { s.cfg with curves := s.cfg.curves.set n none } })))

/-- SET RECIPE with steps in range whose groups hold stations of the step's kind, whose curves are defined, with no
group twice running and at most four DEVELOP steps, replaces the recipe, and with no steps deletes it, when no rack
holds it. The fields of the other kind, whatever they carry, are disregarded and held as 0. A step that fails is
BAD_VALUE with the number of the first such step, an unlisted kind or pattern among the faults at any place; of two
steps of one group it is the later, and the step byte is 0 for more than four DEVELOP steps, for a number or a count
out of range and for a recipe in use, IN_USE (notes/assumptions/21.md). -/
def Obligations.SetRecipeReplacesTheRecipe : Prop :=
  ∀ (f : Frame) (inp : Inputs) (s : State), s.hears 0x07#8 f → s.cfg.recipes.length = 8 → s.storeWrite = none →
    ∀ refused : List Byte → Prop,
    (∀ p, refused p ↔ ∃ t, exec (.setRecipe f inp) s = .next t ∧ s.onlyAnswered t 0x07#8 f inp p) →
    (∀ (n c : Byte) (rest : List Byte), f.payload = n :: c :: rest → rest.length = 12 * c.toNat →
      7 < n.toNat ∨ 12 < c.toNat → refused [3#8, 0#8]) ∧
    (∀ (n : Nat) (steps : List Sys2Proof.Machine.Step) (rest : List Byte), n ≤ 7 → rest.length % 12 = 0 →
      steps.length + rest.length / 12 ≤ 12 →
      f.payload = b1 n ++ b1 (steps.length + rest.length / 12) ++ steps.flatMap Step.bytes ++ rest →
      (∀ st ∈ steps, st.group ≤ 255 ∧ st.drain ≤ 255 ∧ (∀ p, st.pattern = some p → p ≤ 254) ∧ st.nominal ≤ 65535 ∧
        st.curve ≤ 255 ∧ st.tolerance ≤ 255 ∧ st.immersion ≤ 65535 ∧ st.stretch ≤ 65535) →
      ((∃ k r, k < 24 ∧ s.rack k = some r ∧ r.recipe = some n) → refused [7#8, 0#8]) ∧
      ((∀ k r, k < 24 → s.rack k = some r → r.recipe ≠ some n) →
        (∀ j, j < steps.length → ¬ s.stepServes steps j → (∀ i, i < j → s.stepServes steps i) →
          refused [3#8, BitVec.ofNat 8 (j + 1)]) ∧
        ((∀ j, j < steps.length → s.stepServes steps j) →
          (rest ≠ [] → 2 ≤ u8 rest 1 ∨ (8 ≤ u8 rest 3 ∧ u8 rest 3 ≤ 254) →
            refused [3#8, BitVec.ofNat 8 (steps.length + 1)]) ∧
          (rest = [] → 4 < (steps.filter fun st => st.kind == .develop).length → refused [3#8, 0#8]) ∧
          (rest = [] → (steps.filter fun st => st.kind == .develop).length ≤ 4 →
            ∃ t, exec (.setRecipe f inp) s = .next t ∧ t.recipe n = steps.map Step.ofKind ∧
              (∀ m, m ≠ n → t.recipe m = s.recipe m) ∧
              t = { s.taken 0x07#8 f inp with link := s.replying 0x07#8 f inp [0#8], out := t.out,
                                              cfg := { s.cfg with recipes := t.cfg.recipes } }))))

/-- SET PATTERN and SET ROUTE replace their record when its fields suit: a pattern of a number up to 7 with a listed
mode, every field in its range, the out time below the period and, where there are initial dunks, below their
interval; a route of an output 1 to 8 with a listed source and polarity whose source takes no argument, the argument
then held as 0, or names a configured station or a group with stations. Otherwise they are BAD_VALUE and change
nothing. SET PATTERN fixes a dunk, later than the present second, for every plan of its pattern that holds none where
the new mode gives dunks, and leaves every other plan as it is. SET ROUTE answers the output number and its level. -/
def Obligations.SetPatternAndSetRouteReplaceTheRecord : Prop :=
  ∀ (f : Frame) (inp : Inputs) (s : State), s.storeWrite = none →
    (s.hears 0x08#8 f → s.cfg.patterns.length = 8 →
      (∀ (n m : Byte) (rest : List Byte), f.payload = n :: m :: rest → rest.length = 7 → 4 ≤ m.toNat →
        ∃ t, exec (.setPattern f inp) s = .next t ∧ s.onlyAnswered t 0x08#8 f inp [3#8]) ∧
      ∀ (n : Nat) (c : Pattern), n ≤ 255 → f.payload = b1 n ++ c.bytes → c.initialCount ≤ 255 → c.initialInterval ≤ 255 →
        c.period ≤ 65535 → c.outTime ≤ 255 → c.quiet ≤ 255 → c.everyN ≤ 255 →
        if n ≤ 7 ∧ c.initialCount ≤ 10 ∧ 5 ≤ c.initialInterval ∧ c.initialInterval ≤ 60 ∧ 10 ≤ c.period ∧ c.period ≤ 600 ∧
            2 ≤ c.outTime ∧ c.outTime ≤ 20 ∧ c.quiet ≤ 60 ∧ 1 ≤ c.everyN ∧ c.everyN ≤ 30 ∧ c.outTime < c.period ∧
            (c.initialCount = 0 ∨ c.outTime < c.initialInterval) then
          ∃ t, exec (.setPattern f inp) s = .next t ∧ t.pattern n = c ∧ (∀ m, m ≠ n → t.pattern m = s.pattern m) ∧
            t.plans.length = s.plans.length ∧
            (∀ (i : Nat) (p : DunkPlan), s.plans[i]? = some p → ∀ named : Prop,
              (named ↔ ∃ r, s.rack p.slot = some r ∧ s.patternOf r = some n) →
              (p.dunk ≠ none ∨ ¬ named → t.plans[i]? = some p) ∧
              (p.dunk = none → named → p.immersion ≤ s.clock →
                ∃ q, t.plans[i]? = some q ∧ q = { p with dunk := q.dunk } ∧ c.fixes p.immersion s.clock q.dunk)) ∧
            t = { s.taken 0x08#8 f inp with link := s.replying 0x08#8 f inp [0#8], out := t.out, plans := t.plans,
                                            cfg := { s.cfg with patterns := t.cfg.patterns } }
        else ∃ t, exec (.setPattern f inp) s = .next t ∧ s.onlyAnswered t 0x08#8 f inp [3#8]) ∧
    (s.hears 0x1B#8 f → s.cfg.routes.length = 8 →
      (∀ n src arg pol : Byte, f.payload = [n, src, arg, pol] → 11 ≤ src.toNat ∨ 2 ≤ pol.toNat →
        ∃ t, exec (.setRoute f inp) s = .next t ∧ s.onlyAnswered t 0x1B#8 f inp [3#8]) ∧
      ∀ (n : Nat) (r : Route), n ≤ 255 → f.payload = b1 n ++ r.bytes → r.arg ≤ 255 →
        if 1 ≤ n ∧ n ≤ 8 ∧ (r.source = .stationClosed → 1 ≤ r.arg ∧ r.arg ≤ s.cfg.line.count) ∧
            (r.source = .groupOpen → 1 ≤ r.arg ∧ r.arg ≤ 15 ∧ s.groupStations r.arg ≠ []) then
          ∃ t, exec (.setRoute f inp) s = .next t ∧
            t.cfg.routes = s.cfg.routes.set (n - 1)
              { r with arg := if r.source = .stationClosed ∨ r.source = .groupOpen then r.arg else 0 } ∧
            t = { s.taken 0x1B#8 f inp with
                    link := s.replying 0x1B#8 f inp (0#8 :: b1 n ++ bBool (t.out.indicators.getD (n - 1) false)),
                    out := t.out, cfg := { s.cfg with routes := t.cfg.routes } }
        else ∃ t, exec (.setRoute f inp) s = .next t ∧ s.onlyAnswered t 0x1B#8 f inp [3#8])

/-- SET BURSTS with a count of entries, no station twice and every field in its range, writes each entry in the place
of its station into the staged map and leaves the others; otherwise it is BAD_VALUE and changes nothing. With apply it
marks the apply pending while the manifold runs, and performs it at once while it is stopped: a clash of enabled on
ticks leaves the live map, posts BURST_CLASH and answers the lowest pair, otherwise the staged map becomes the live
one with its events. Without apply the live map and a pending apply stay. -/
def Obligations.SetBurstsWritesTheStagedMap : Prop :=
  (∀ (f : Frame) (inp : Inputs) (s : State) (es : List (Nat × Burst)) (apply : Bool), s.hears 0x09#8 f →
    s.storeWrite = none → s.manifold.staged.length = 16 →
    (∀ e ∈ es, e.1 ≤ 255 ∧ e.2.onTick ≤ 255 ∧ e.2.offTick ≤ 255) →
    f.payload = b1 es.length ++ bBool apply ++ es.flatMap (fun e => e.2.bytes e.1) → ∀ ok : Prop,
    (ok ↔ (∀ e ∈ es, 1 ≤ e.1 ∧ e.1 ≤ 16 ∧ e.2.onTick ≤ 199 ∧ e.2.offTick ≤ 199) ∧ (es.map (·.1)).Nodup) →
    (¬ ok → ∃ t, exec (.setBursts f inp) s = .next t ∧ s.onlyAnswered t 0x09#8 f inp [3#8]) ∧
    (ok → ∃ t p m, exec (.setBursts f inp) s = .next t ∧ m = t.manifold.staged ∧ m.length = 16 ∧
      (∀ n b, (n, b) ∈ es → burstOf m n = b) ∧
      (∀ n, (∀ e ∈ es, e.1 ≠ n) → burstOf m n = burstOf s.manifold.staged n) ∧
      t.link = s.replying 0x09#8 f inp (0#8 :: bBool t.manifold.applyPending ++ p) ∧
      (apply = false → t.cfg.live = s.cfg.live ∧ t.manifold.applyPending = s.manifold.applyPending ∧ p = [0#8, 0#8, 0#8]) ∧
      (apply = true → s.manifold.running = true →
        t.cfg.live = s.cfg.live ∧ t.manifold.applyPending = true ∧ p = [0#8, 0#8, 0#8]) ∧
      (apply = true → s.manifold.running = false → t.manifold.applyPending = false ∧
        (mapClear m → t.cfg.live = m ∧ p = [1#8, 0#8, 0#8] ∧ s.burstsApplied t m) ∧
        (∀ i j, lowestShared (·.onTick) m i j →
          t.cfg.live = s.cfg.live ∧ p = [2#8, BitVec.ofNat 8 i, BitVec.ofNat 8 j] ∧ s.posted t .burstClash i 255 0 j) ∧
        (¬ mapClear m → ∃ i j, lowestShared (·.onTick) m i j)) ∧
      (apply = false ∨ s.manifold.running = true →
        t.events = (s.taken 0x09#8 f inp).events ∧ t.lost = (s.taken 0x09#8 f inp).lost) ∧
      t = { s.taken 0x09#8 f inp with
              out := t.out, link := t.link, events := t.events, lost := t.lost, cfg := { s.cfg with live := t.cfg.live },
              manifold := { s.manifold with staged := m, applyPending := t.manifold.applyPending } })) ∧
  (∀ (f : Frame) (inp : Inputs) (s : State) (n a : Byte) (rest : List Byte), s.hears 0x09#8 f → s.storeWrite = none →
    f.payload = n :: a :: rest → rest.length = 4 * n.toNat → 2 ≤ a.toNat ∨ 16 < n.toNat →
    ∃ t, exec (.setBursts f inp) s = .next t ∧ s.onlyAnswered t 0x09#8 f inp [3#8])

/-- SET EXHAUSTION sets E of a DEVELOP or BATH station to the value, stopping at 1000, releases EXH_UNKNOWN, judges
EXHAUSTED, makes the credits of the station's entries 0 and answers E; any other station is BAD_VALUE. -/
def Obligations.SetExhaustionRestatesE : Prop :=
  ∀ (f : Frame) (inp : Inputs) (s : State) (n hi lo : Byte), s.hears 0x0A#8 f → f.payload = [n, hi, lo] →
    s.baths.length = 16 →
    (s.isBath n.toNat = true → n.toNat ≤ 16 →
      ∃ t, exec (.setExhaustion f inp) s = .next t ∧
        (t.bath n.toNat).exhaustion = min (hi.toNat * 256 + lo.toNat) 1000 ∧ t.cond n.toNat .exhUnknown = false ∧
        (t.cond n.toNat .exhausted = true ↔
          (s.stationCfg n.toNat).exhLimit ≤ min (hi.toNat * 256 + lo.toNat) 1000) ∧
        (∀ m, m ≠ n.toNat → t.bath m = s.bath m) ∧
        t.deliveries = s.deliveries.map (fun d => if d.station = n.toNat then { d with credit := 0 } else d) ∧
        t = { s.taken 0x0A#8 f inp with
                link := s.replying 0x0A#8 f inp (0#8 :: wordBytes (min (hi.toNat * 256 + lo.toNat) 1000)),
                out := t.out, baths := t.baths, deliveries := t.deliveries, events := t.events, lost := t.lost }) ∧
    (s.isBath n.toNat = false →
      ∃ t, exec (.setExhaustion f inp) s = .next t ∧ s.onlyAnswered t 0x0A#8 f inp [3#8])

/-- READ SETTING answers the selector, the index and the record as it stands, and changes nothing; a selector or an
index outside the table is BAD_VALUE. -/
def Obligations.ReadSettingReturnsTheRecord : Prop :=
  ∀ (f : Frame) (inp : Inputs) (s : State) (sel i : Byte), s.hears 0x0B#8 f → f.payload = [sel, i] →
    ∀ record : List Byte,
    ((sel = 0#8 ∧ i = 0#8 ∧ record = s.cfg.line.bytes) ∨
      (sel = 1#8 ∧ 1 ≤ i.toNat ∧ i.toNat ≤ 16 ∧
        record = (s.stationCfg i.toNat).bytes ++ bBool (s.hostClosed i.toNat)) ∨
      (sel = 2#8 ∧ i.toNat ≤ 3 ∧ record = curveBytes (s.curve i.toNat)) ∨
      (sel = 3#8 ∧ i.toNat ≤ 7 ∧ record = recipeBytes (s.recipe i.toNat)) ∨
      (sel = 4#8 ∧ i.toNat ≤ 7 ∧ record = (s.pattern i.toNat).bytes) ∨
      (sel = 5#8 ∧ i = 0#8 ∧ record = burstMapBytes s.cfg.live) ∨
      (sel = 6#8 ∧ i = 0#8 ∧ record = burstMapBytes s.manifold.staged ++ bBool s.manifold.applyPending) ∨
      (sel = 7#8 ∧ 1 ≤ i.toNat ∧ i.toNat ≤ 8 ∧ record = (s.cfg.routes.getD (i.toNat - 1) .factory).bytes) →
      ∃ t, exec (.readSetting f inp) s = .next t ∧ s.onlyAnswered t 0x0B#8 f inp (0#8 :: sel :: i :: record)) ∧
    (8 ≤ sel.toNat ∨ ((sel = 0#8 ∨ sel = 5#8 ∨ sel = 6#8) ∧ i ≠ 0#8) ∨ (sel = 2#8 ∧ 4 ≤ i.toNat) ∨
      ((sel = 3#8 ∨ sel = 4#8) ∧ 8 ≤ i.toNat) ∨ (sel = 1#8 ∧ (i = 0#8 ∨ 17 ≤ i.toNat)) ∨
      (sel = 7#8 ∧ (i = 0#8 ∨ 9 ≤ i.toNat)) →
      ∃ t, exec (.readSetting f inp) s = .next t ∧ s.onlyAnswered t 0x0B#8 f inp [3#8])

/-- STORE in DORMANT, STANDBY or READY captures the settings as they stand and makes the store busy, and is
WRONG_STATE elsewhere; RESTART with no rack slot in use leaves a full reset pending for the end of its reply, and is
WRONG_STATE with one in use. STORE_WRITE_END: the image holds the settings as they stood when STORE was taken, with
their check, and STORE_DONE is posted; a read-back that does not match leaves an image that fails its check and posts
STORE_FAILED. -/
def Obligations.StoreAndRestartAreTaken : Prop :=
  (∀ (f : Frame) (inp : Inputs) (s : State), s.storeWrite = none → f.payload = [] →
     (s.hears 0x0C#8 f →
       if s.line.state = .dormant ∨ s.line.state = .standby ∨ s.line.state = .ready then
         ∃ t, exec (.store f inp) s = .next t ∧ t.storeWrite = some s.cfg ∧
           t = { s.taken 0x0C#8 f inp with link := s.replying 0x0C#8 f inp [0#8], out := t.out,
                                           storeWrite := some s.cfg }
       else ∃ t, exec (.store f inp) s = .next t ∧ s.onlyAnswered t 0x0C#8 f inp [4#8]) ∧
     (s.hears 0x0D#8 f →
       if s.racks ≠ [] then
         ∃ t, exec (.restart f inp) s = .next t ∧ s.onlyAnswered t 0x0D#8 f inp [4#8]
       else ∃ t, exec (.restart f inp) s = .next t ∧ t.link.restartPending = true ∧
         t = { s.taken 0x0D#8 f inp with link := { (s.replying 0x0D#8 f inp [0#8]) with restartPending := true },
                                         out := t.out })) ∧
  (∀ (good : Bool) (inp : Inputs) (s : State) (c : Settings), s.run = .running → s.storeWrite = some c →
     ∃ t, exec (.storeWriteEnd good inp) s = .next t ∧ t.storeWrite = none ∧
       (good = true → t.nv = .image c (crc16 c.bytes) ∧ s.posted t .storeDone 0 255 0 0) ∧
       (good = false → t.nv = .damaged ∧ s.posted t .storeFailed 0 255 0 0) ∧
       t = { s with pins := inp, out := t.out, storeWrite := none, nv := t.nv, events := t.events, lost := t.lost })

/-! ### Operation requests -/

/-- MODE makes the passages of R145's table and answers the state it leaves: STANDBY out of DORMANT (with a valid
configuration) and WARMUP; RUN into WARMUP, with the warm-up start and all settle counts 0, back to READY out of
DRAINING, and nothing in READY; DRAIN with its target; DORMANT with no rack in flight. It is WRONG_STATE with cause
STATE where the line state is no From state of the mode, with CONFIG where the passage needs a valid configuration and
there is none, and with RACKS where a rack is in flight or remains. -/
def Obligations.ModeMakesItsPassage : Prop :=
  ∀ (f : Frame) (inp : Inputs) (s : State) (m d : Byte), s.hears 0x0E#8 f → f.payload = [m, d] →
    ∀ valid : Prop, (valid ↔ s.line.configDefaulted = false ∧ ∀ want, want = Role.load ∨ want = .unload ∨ want = .develop →
      ∃ n, 1 ≤ n ∧ n ≤ 16 ∧ s.role n = want) →
    (m = 0#8 → (s.line.state = .dormant ∧ valid) ∨ s.line.state = .warmup →
      ∃ t, exec (.mode f inp) s = .next t ∧ t.line.state = .standby ∧ t.line.warmStart = none ∧
        t.manifold.running = false ∧ t.link = s.replying 0x0E#8 f inp [0#8, 1#8, 0#8] ∧
        s.posted t .lineState 0 255 0 256 ∧ t.slots = s.slots ∧ t.deliveries = s.deliveries ∧ t.pump = s.pump) ∧
    (m = 1#8 → (s.line.state = .dormant ∨ s.line.state = .standby) → valid → s.line.carriageFault = false →
      ∃ t, exec (.mode f inp) s = .next t ∧ t.line.state = .warmup ∧ t.line.warmStart = some s.clock ∧
        (∀ n, t.settleOf n = 0) ∧ t.manifold.running = true ∧
        t.link = s.replying 0x0E#8 f inp [0#8, 2#8, 0#8] ∧ s.posted t .lineState 0 255 0 512 ∧ t.slots = s.slots) ∧
    (m = 1#8 → (s.line.state = .dormant ∨ s.line.state = .standby) → valid → s.line.carriageFault = true →
      ∃ t, exec (.mode f inp) s = .next t ∧ t.line.state = .faulted ∧ t.driver.faultCleared = false ∧
        s.posted t .lineState 0 255 0 512 ∧ s.posted t .lineState 0 255 0 (5 * 256 + 4)) ∧
    (m = 1#8 → s.line.state = .ready →
      ∃ t, exec (.mode f inp) s = .next t ∧ s.onlyAnswered t 0x0E#8 f inp [0#8, 3#8, 0#8]) ∧
    (m = 1#8 → s.line.state = .draining →
      ∃ t, exec (.mode f inp) s = .next t ∧ t.line.state = .ready ∧ t.line.drainTarget = none ∧
        t.link = s.replying 0x0E#8 f inp [0#8, 3#8, 0#8] ∧ s.posted t .lineState 0 255 0 768 ∧ t.slots = s.slots ∧
        t.schedule = s.schedule) ∧
    (m = 2#8 → s.line.state = .ready → ∀ target, (d = 0#8 ∧ target = LineState.dormant) ∨ (d = 1#8 ∧ target = .standby) →
      if ∃ e ∈ s.racks, e.2.phase = .waitingEntry ∨ e.2.phase = .inBath ∨ e.2.phase = .onCarriage ∨
          (e.2.phase = .orphan ∧ s.isBath e.2.station = true) then
        ∃ t, exec (.mode f inp) s = .next t ∧ t.line.state = .draining ∧ t.line.drainTarget = some target ∧
          t.link = s.replying 0x0E#8 f inp [0#8, 4#8, 0#8] ∧ s.posted t .lineState 0 255 0 1024 ∧ t.slots = s.slots ∧
          t.schedule = s.schedule
      else ∃ t, exec (.mode f inp) s = .next t ∧ t.line.state = target ∧ t.line.drainTarget = none ∧
          t.link = s.replying 0x0E#8 f inp [0#8, d, 0#8] ∧ s.posted t .lineState 0 255 0 (d.toNat * 256)) ∧
    (m = 3#8 → (s.line.state = .standby ∨ s.line.state = .warmup ∨ s.line.state = .ready) →
      (∀ e ∈ s.racks, s.isBath e.2.station = false ∧ e.2.phase ≠ .onCarriage ∧ e.2.phase ≠ .waitingEntry) →
      ∃ t, exec (.mode f inp) s = .next t ∧ t.line.state = .dormant ∧ t.line.warmStart = none ∧ t.pump = none ∧
        t.deliveries = s.deliveries.map (fun x => { x with running := false }) ∧ t.manifold.running = false ∧
        t.link = s.replying 0x0E#8 f inp [0#8, 0#8, 0#8] ∧ t.slots = s.slots) ∧
    (m = 3#8 → s.line.state = .faulted →
      if ∀ e ∈ s.racks, s.isBath e.2.station = false ∧ e.2.phase ≠ .onCarriage then
        ∃ t, exec (.mode f inp) s = .next t ∧ t.line.state = .dormant ∧ t.driver.faultCleared = false ∧
          t.line.carriageFault = s.line.carriageFault ∧ t.driver.state = s.driver.state
      else ∃ t, exec (.mode f inp) s = .next t ∧ s.onlyAnswered t 0x0E#8 f inp [4#8, 5#8, 3#8]) ∧
    (∀ code, code = BitVec.ofNat 8 s.line.state.code →
      ((m = 0#8 ∧ s.line.state ≠ .dormant ∧ s.line.state ≠ .warmup) ∨
        (m = 1#8 ∧ (s.line.state = .warmup ∨ s.line.state = .faulted)) ∨
        (m = 2#8 ∧ d.toNat ≤ 1 ∧ s.line.state ≠ .ready) ∨
        (m = 3#8 ∧ (s.line.state = .dormant ∨ s.line.state = .draining)) →
        ∃ t, exec (.mode f inp) s = .next t ∧ s.onlyAnswered t 0x0E#8 f inp [4#8, code, 1#8]) ∧
      (¬ valid → (m = 0#8 ∧ s.line.state = .dormant) ∨
        (m = 1#8 ∧ (s.line.state = .dormant ∨ s.line.state = .standby)) →
        ∃ t, exec (.mode f inp) s = .next t ∧ s.onlyAnswered t 0x0E#8 f inp [4#8, code, 2#8]) ∧
      (m = 3#8 → (s.line.state = .standby ∨ s.line.state = .warmup ∨ s.line.state = .ready) →
        (∃ e ∈ s.racks, s.isBath e.2.station = true ∨ e.2.phase = .onCarriage ∨ e.2.phase = .waitingEntry) →
        ∃ t, exec (.mode f inp) s = .next t ∧ s.onlyAnswered t 0x0E#8 f inp [4#8, code, 3#8])) ∧
    (4 ≤ m.toNat ∨ (m = 2#8 ∧ 2 ≤ d.toNat) →
      ∃ t, exec (.mode f inp) s = .next t ∧
        s.onlyAnswered t 0x0E#8 f inp [3#8, BitVec.ofNat 8 s.line.state.code, 0#8])

/-- ADMIT with every check passed and a chain found by the walk gives the rack the lowest free slot with the record of
R58, books every move of the chain (one more than the steps, in the order of the recipe, each with its kind, the
duration of R7 and the span of R75, firm out of a DEVELOP step) and the rack's intervals, the wait at the load
station, one stay for each step and the hold at the unload station and no others, turns a free Driver to the entry
that is first then, and answers the slot, the entry second and the arrival. The checks of R57 are made in their order
and the first that fails gives the reply, CLOSED with the number of the first step without an open station and NO_SLOT
with the reason of the walk; a refused ADMIT changes nothing. -/
def Obligations.AdmitTakesTheSlotAndBooksTheChain : Prop :=
  (∀ (f : Frame) (inp : Inputs) (s : State) (tag rec scale load n notBefore k : Nat) (c : Cursor),
    s.hears 0x0F#8 f → f.payload = b2 tag ++ b1 rec ++ b1 scale ++ b1 load ++ b1 n ++ b4 notBefore →
    s.line.state = .ready → (∀ e ∈ s.racks, ¬ (e.2.phase = .orphan ∧ s.isBath e.2.station = true)) →
    1 ≤ tag → tag ≤ 65535 → rec ≤ 7 → 50 ≤ scale → scale ≤ 250 → 1 ≤ load → load ≤ 40 → notBefore ≤ 4294967295 →
    s.recipe rec ≠ [] → (∀ e ∈ s.racks, e.2.tag ≠ tag) → s.slots.length = 24 → k < 24 → s.rack k = none →
    (∀ j, j < k → s.rack j ≠ none) → s.role n = .load → n ≤ 16 → (s.bath n).presence = true →
    (∀ e ∈ s.racks, e.2.station ≠ n) → s.timelines.length = 16 → s.clock ≤ 4294967295 →
    (∀ st ∈ s.recipe rec, ∃ m ∈ s.groupStations st.group, s.isOpen m = true) → (∃ m ∈ s.unloads, s.isOpen m = true) →
    (∀ m ∈ s.schedule, m.slot ≠ k) →
    (s.taken 0x0F#8 f inp).walk (admissionTrip k (s.recipe rec) scale) (admissionCursor n s.clock)
      (max (min (s.clock + 2) 4294967295) notBefore) = .ok c →
    ∃ t first last, exec (.admitRack f inp) s = .next t ∧ c.entries.head? = some first ∧
      c.entries.getLast? = some last ∧ c.entries.length = (s.recipe rec).length + 1 ∧
      (∀ j m, c.entries[j]? = some m → m.slot = k ∧ m.index = j ∧ m.executing = false ∧ m.lateness = 0 ∧
        m.duration = s.cfg.line.tl + m.drain + (((m.src - m.dst) + (m.dst - m.src)) * s.cfg.line.tp + 9) / 10 +
          s.cfg.line.tw ∧
        (m.firm = true ↔ ∃ st, stepAt (s.recipe rec) j = some st ∧ st.kind = .develop) ∧
        m.drain = ((stepAt (s.recipe rec) j).map (·.drain)).getD 0 ∧ (j = 0 → m.src = n) ∧
        m.kind = (if j = 0 then .entry else if j = (s.recipe rec).length then .exit else .transfer) ∧
        m.spanStart = (if m.firm = true then m.start - s.cfg.line.guard else m.start) ∧
        m.spanEnd = min (m.start + (if m.firm = true then m.duration + s.cfg.line.guard else m.duration)) 4294967295 ∧
        (∀ m', c.entries[j + 1]? = some m' → m.dst = m'.src ∧ min (m.start + m.duration) 4294967295 ≤ m'.start) ∧
        (∀ st, (s.recipe rec)[j]? = some st → m.dst ∈ s.groupStations st.group ∧ s.isOpen m.dst = true) ∧
        (j = (s.recipe rec).length → s.role m.dst = .unload ∧ s.isOpen m.dst = true)) ∧
      (∀ m, m ∈ t.schedule ↔ m ∈ s.schedule ∨ m ∈ c.entries) ∧
      t.rack k = some { tag := tag, recipe := some rec, scale := scale, load := load, loadStation := n,
                        phase := .waitingEntry, step := 0, station := n, immersion := none, dose := 0, target := 0,
                        rate := 0, heldRate := 0, predicted := none, deviations := [], nextStart := some first.start,
                        flags := {}, pending := .none, admitted := s.clock, entered := none, unload := none,
                        ended := none, outcome := .none, slideMark := 0, overMark := 0, lift := none } ∧
      (∀ j, j ≠ k → t.rack j = s.rack j) ∧
      (∀ wait hold : Interval,
        wait = ⟨k, s.clock, some (min (first.start + s.cfg.line.tl) 4294967295), .loadWait, 0⟩ →
        hold = ⟨k, last.start, some (min (last.start + (last.duration + s.cfg.line.hold)) 4294967295), .unloadHold,
          (s.recipe rec).length + 1⟩ →
        wait ∈ t.timeline n ∧ hold ∈ t.timeline last.dst ∧
        (∀ j m, c.entries[j]? = some m → ∀ m', c.entries[j + 1]? = some m' →
          (⟨k, m.start, some (min (m'.start + (s.cfg.line.tl + m'.drain)) 4294967295), .immerse, j + 1⟩ : Interval) ∈
            t.timeline m.dst) ∧
        ∀ i, ∀ iv ∈ t.timeline i, iv.slot = k → (i = n ∧ iv = wait) ∨ (i = last.dst ∧ iv = hold) ∨
          ∃ j m, c.entries[j]? = some m ∧ ∃ m', c.entries[j + 1]? = some m' ∧ i = m.dst ∧
            iv = ⟨k, m.start, some (min (m'.start + (s.cfg.line.tl + m'.drain)) 4294967295), .immerse, j + 1⟩) ∧
      (∀ i iv, iv.slot ≠ k → (iv ∈ t.timeline i ↔ iv ∈ s.timeline i)) ∧
      (s.driver.state = .idle ∨ s.driver.state = .waiting → t.turnedFrom s.driver) ∧
      t.link = s.replying 0x0F#8 f inp (0#8 :: b1 k ++ b4 first.start ++ b4 (min (last.start + last.duration) 4294967295)) ∧
      t = { s.taken 0x0F#8 f inp with link := t.link, out := t.out, slots := t.slots, schedule := t.schedule,
                                      timelines := t.timelines, deferred := s.deferred.filter (·.slot != k),
                                      driver := t.driver }) ∧
  (∀ (f : Frame) (inp : Inputs) (s : State) (tag rec scale load n notBefore : Nat) (orphans inRange : Prop)
      (refused : List Byte → Prop),
    s.hears 0x0F#8 f → f.payload = b2 tag ++ b1 rec ++ b1 scale ++ b1 load ++ b1 n ++ b4 notBefore → tag ≤ 65535 →
    rec ≤ 255 → scale ≤ 255 → load ≤ 255 → n ≤ 255 → notBefore ≤ 4294967295 →
    (∀ p, refused p ↔ ∃ t, exec (.admitRack f inp) s = .next t ∧ s.onlyAnswered t 0x0F#8 f inp p) →
    (orphans ↔ ∃ e ∈ s.racks, e.2.phase = .orphan ∧ s.isBath e.2.station = true) →
    (inRange ↔ 1 ≤ tag ∧ rec ≤ 7 ∧ 50 ≤ scale ∧ scale ≤ 250 ∧ 1 ≤ load ∧ load ≤ 40 ∧ 1 ≤ n ∧ n ≤ s.cfg.line.count) →
    (s.line.state ≠ .ready → refused [4#8]) ∧
    (s.line.state = .ready → orphans → refused [14#8]) ∧
    (s.line.state = .ready → ¬ orphans → ¬ inRange → refused [3#8]) ∧
    (s.line.state = .ready → ¬ orphans → inRange → s.recipe rec = [] → refused [10#8]) ∧
    (s.line.state = .ready → ¬ orphans → inRange → s.recipe rec ≠ [] →
      ((∃ e ∈ s.racks, e.2.tag = tag) → refused [9#8]) ∧
      ((∀ e ∈ s.racks, e.2.tag ≠ tag) → (∀ k, k < 24 → s.rack k ≠ none) → refused [8#8]) ∧
      (∀ k, (∀ e ∈ s.racks, e.2.tag ≠ tag) → k < 24 → s.rack k = none → (∀ j, j < k → s.rack j ≠ none) →
        (s.role n ≠ .load ∨ (s.bath n).presence = false → refused [11#8]) ∧
        (s.role n = .load → (s.bath n).presence = true →
          ((∃ e ∈ s.racks, e.2.station = n) → refused [7#8]) ∧
          ((∀ e ∈ s.racks, e.2.station ≠ n) →
            (∀ j st, (s.recipe rec)[j]? = some st → (∀ m ∈ s.groupStations st.group, s.isOpen m = false) →
              (∀ i x, i < j → (s.recipe rec)[i]? = some x → ∃ m ∈ s.groupStations x.group, s.isOpen m = true) →
              refused (12#8 :: b1 (j + 1))) ∧
            ((∀ st ∈ s.recipe rec, ∃ m ∈ s.groupStations st.group, s.isOpen m = true) →
              (∀ m ∈ s.unloads, s.isOpen m = false) → refused (12#8 :: b1 ((s.recipe rec).length + 1))) ∧
            ((∀ st ∈ s.recipe rec, ∃ m ∈ s.groupStations st.group, s.isOpen m = true) →
              (∃ m ∈ s.unloads, s.isOpen m = true) →
              ∀ why, (s.taken 0x0F#8 f inp).walk (admissionTrip k (s.recipe rec) scale) (admissionCursor n s.clock)
                (max (min (s.clock + 2) 4294967295) notBefore) = .error why → refused (13#8 :: b1 why.code)))))))

/-- ABANDON by slot or by tag: a WAITING_ENTRY rack ends WITHDRAWN; an ON_CARRIAGE one is marked for the end of its
move, in FAULTED too, where no move of it is in progress (notes/assumptions/29.md); one already ABANDONED is
UNCHANGED; in FAULTED an IN_BATH rack or orphan is only marked; in READY and DRAINING its booked moves, its deferred
place and its intervals at other stations go, and its evacuation walk books the one evacuation, or it waits with the
stay OPEN where the walk fails; a free Driver turns to the entry that is first then. INTERRUPTED stays. A rack at
unload or awaiting report and a wrong line state are WRONG_STATE, a free slot and an unknown tag NOT_FOUND, a selector
or a value out of range BAD_VALUE. -/
def Obligations.AbandonDisposesOfTheRack : Prop :=
  ∀ (f : Frame) (inp : Inputs) (s : State) (sel hi lo : Byte), s.hears 0x10#8 f → f.payload = [sel, hi, lo] →
    ∀ v, v = hi.toNat * 256 + lo.toNat → ∀ inRange ruled : Prop,
    (inRange ↔ (sel = 1#8 ∧ v < 24) ∨ (sel = 0#8 ∧ 1 ≤ v)) →
    (ruled ↔ s.line.state = .ready ∨ s.line.state = .draining ∨ s.line.state = .faulted) →
    (¬ inRange → ∃ t, exec (.abandon f inp) s = .next t ∧ s.onlyAnswered t 0x10#8 f inp [3#8]) ∧
    (inRange → ¬ ruled → ∃ t, exec (.abandon f inp) s = .next t ∧ s.onlyAnswered t 0x10#8 f inp [4#8]) ∧
    (ruled → (sel = 1#8 ∧ v < 24 ∧ s.rack v = none) ∨ (sel = 0#8 ∧ 1 ≤ v ∧ ∀ k r, k < 24 → s.rack k = some r → r.tag ≠ v) →
      ∃ t, exec (.abandon f inp) s = .next t ∧ s.onlyAnswered t 0x10#8 f inp [10#8]) ∧
    (∀ k r marked, ruled → k < 24 → s.rack k = some r →
      (sel = 1#8 ∧ v = k) ∨ (sel = 0#8 ∧ 1 ≤ v ∧ r.tag = v ∧ ∀ j q, j < k → s.rack j = some q → q.tag ≠ v) →
      marked = (if r.pending = .interrupted then RackOutcome.interrupted else .abandoned) →
      (r.phase = .atUnload ∨ r.phase = .awaitingReport ∨ (r.phase = .orphan ∧ s.isBath r.station = false) →
        ∃ t, exec (.abandon f inp) s = .next t ∧ s.onlyAnswered t 0x10#8 f inp [4#8]) ∧
      (r.pending = .abandoned →
        r.phase = .inBath ∨ r.phase = .onCarriage ∨ (r.phase = .orphan ∧ s.isBath r.station = true) →
        ∃ t, exec (.abandon f inp) s = .next t ∧ s.onlyAnswered t 0x10#8 f inp [0#8, 4#8]) ∧
      (r.pending ≠ .abandoned → r.phase = .waitingEntry →
        ∃ t, exec (.abandon f inp) s = .next t ∧ t.link = s.replying 0x10#8 f inp [0#8, 0#8] ∧
          s.rackEnded t k r .withdrawn ∧ s.posted t .rackRemoved r.station k r.tag 4 ∧
          (∀ m ∈ t.schedule, m.slot = k → m.executing = true) ∧ (∀ l ∈ t.timelines, ∀ iv ∈ l, iv.slot ≠ k) ∧
          ∀ j, j ≠ k → t.rack j = s.rack j) ∧
      (r.pending ≠ .abandoned → r.phase = .onCarriage →
        ∃ t, exec (.abandon f inp) s = .next t ∧
          t = { s.taken 0x10#8 f inp with link := s.replying 0x10#8 f inp [0#8, 3#8], out := t.out,
                                          slots := s.slots.set k (some { r with pending := marked }) }) ∧
      (r.pending ≠ .abandoned → r.phase = .inBath ∨ (r.phase = .orphan ∧ s.isBath r.station = true) →
        s.line.state = .faulted →
        ∃ t, exec (.abandon f inp) s = .next t ∧ t.link = s.replying 0x10#8 f inp [0#8, 4#8] ∧
          t.slots = s.slots.set k (some { r with pending := marked }) ∧ t.schedule = s.schedule ∧
          t.timelines = s.timelines ∧ t.deferred = s.deferred) ∧
      (r.pending ≠ .abandoned → r.phase = .inBath ∨ (r.phase = .orphan ∧ s.isBath r.station = true) →
        s.line.state ≠ .faulted →
        ∃ t q, exec (.abandon f inp) s = .next t ∧ t.rack k = some q ∧
          q = { r with pending := marked, nextStart := q.nextStart } ∧
          (∀ j, j ≠ k → t.rack j = s.rack j) ∧ (∀ m ∈ s.schedule, m.slot ≠ k → m ∈ t.schedule) ∧
          ((t.link = s.replying 0x10#8 f inp [0#8, 1#8] ∧ (∀ x ∈ t.deferred, x.slot ≠ k) ∧
              ∃ m ∈ t.schedule, m.slot = k ∧ m.kind = .evacuate ∧ m.src = r.station ∧ s.role m.dst = .unload ∧
                m.executing = false ∧ m.firm = false ∧ (∀ x ∈ t.schedule, x.slot = k → x.executing = false → x = m) ∧
                ∀ n, n ≠ r.station → ∀ iv ∈ t.timeline n, iv.slot = k → n = m.dst ∧ iv.purpose = .unloadHold) ∨
            (t.link = s.replying 0x10#8 f inp [0#8, 2#8] ∧ q.nextStart = none ∧
              t.deferred = (s.deferred.filter fun x => x.slot != k) ++ [⟨k, .evacuate, s.clock⟩] ∧
              t.schedule = (s.schedule.filter fun m => !(m.slot == k && !m.executing)) ∧
              (∀ n, n ≠ r.station → t.timeline n = (s.timeline n).filter fun iv => iv.slot != k) ∧
              (1 ≤ r.station → r.station ≤ s.timelines.length → t.timeline r.station =
                ((s.timeline r.station).filter fun iv => !(iv.slot == k && decide (r.step < iv.step))).map fun iv =>
                                    if iv.slot = k ∧ iv.step = r.step then { iv with stop := none } else iv))) ∧
          (∀ u, u = ((s.taken 0x10#8 f inp).setRack k { r with pending := marked }).clearStanding k
              { r with pending := marked } →
            (∀ c, u.walk (u.evacTrip k r) (u.cursorOf k r) (min (u.clock + 1) 4294967295) = .ok c →
              t.link = s.replying 0x10#8 f inp [0#8, 1#8] ∧ u.chainBooked t k r.step c) ∧
            (∀ why, u.walk (u.evacTrip k r) (u.cursorOf k r) (min (u.clock + 1) 4294967295) = .error why →
              t.link = s.replying 0x10#8 f inp [0#8, 2#8])) ∧
          (s.driver.state = .idle ∨ s.driver.state = .waiting → t.turnedFrom s.driver)))

/-- EVACUATE, where moves may begin, takes every rack left INTERRUPTED or as an orphan in a bath, and the one on the
hook, that no evacuation has taken: the hook first, then the DEVELOP stations, then the other baths, each in ascending
slot. Each in that order, on what those before it have booked, gets an EVACUATE move to an UNLOAD station where its
evacuation walk passes, the move standing for whatever else was booked for the rack, or else a place at the end of the
deferred set, and the reply counts the racks taken, those booked and those that wait; while a rack on the hook waits
no other is booked. A free Driver turns to the entry that is first then. In FAULTED with nothing left on the line it
returns the line to READY. -/
def Obligations.EvacuateTakesTheRacks : Prop :=
  ∀ (f : Frame) (inp : Inputs) (s : State), s.hears 0x11#8 f → f.payload = [] → s.clock ≤ 4294967295 →
    (∀ k r, s.rack k = some r → r.phase = .onCarriage → r.station = 0) →
    if s.line.state = .ready ∨ s.line.state = .draining ∨ (s.line.state = .faulted ∧ s.driver.faultCleared = true) then
      ∃ t ks booked, exec (.evacuate f inp) s = .next t ∧ t.evacOrder = s.evacOrder ++ ks ∧
        (∀ k, k ∈ ks ↔ k < 24 ∧ k ∉ s.evacOrder ∧
          (∀ m ∈ s.schedule, m.slot = k → m.kind ≠ .evacuate) ∧ (∀ x ∈ s.deferred, x.slot = k → x.kind ≠ .evacuate) ∧
          ∃ r, s.rack k = some r ∧ ((r.phase = .onCarriage ∧ s.executing = none) ∨
            (s.isBath r.station = true ∧ (r.phase = .orphan ∨ r.pending = .interrupted)))) ∧
        ks.Pairwise (fun a b => s.evacRank a < s.evacRank b ∨ (s.evacRank a = s.evacRank b ∧ a < b)) ∧
        (∃ w, inTurn State.evacuated ks { s.taken 0x11#8 f inp with evacOrder := s.evacOrder ++ ks } w ∧
          t.schedule = w.schedule ∧ t.timelines = w.timelines ∧ t.deferred = w.deferred ∧ t.slots = w.slots) ∧
        (s.driver.state = .idle ∨ s.driver.state = .waiting → t.turnedFrom s.driver) ∧
        booked = (ks.filter t.evacBooked).length ∧
        t.link = s.replying 0x11#8 f inp (0#8 :: b1 ks.length ++ b1 booked ++ b1 (ks.length - booked)) ∧
        t.deferred = (s.deferred.filter fun x => !ks.contains x.slot) ++
          (ks.filter fun k => !t.evacBooked k).map (fun k => ⟨k, .evacuate, s.clock⟩) ∧
        (∀ k ∈ ks, ∀ m ∈ t.schedule, m.slot = k → m.kind = .evacuate →
          m.executing = false ∧ m.firm = false ∧ s.role m.dst = .unload ∧ s.clock ≤ m.start ∧
          ∀ r, s.rack k = some r → r.phase ≠ .onCarriage → m.src = r.station) ∧
        (∀ k rest, ks = k :: rest → s.evacRank k = 0 → t.evacBooked k = false → booked = 0) ∧
        ((∃ x ∈ s.deferred, ∃ r, s.rack x.slot = some r ∧ r.phase = .onCarriage) → booked = 0) ∧
        (∀ m ∈ s.schedule, m.executing = true ∨ m.slot ∉ ks ∨ t.evacBooked m.slot = false → m ∈ t.schedule) ∧
        (∀ k r, s.rack k = some r → ∃ q, t.rack k = some q ∧ q = { r with nextStart := q.nextStart }) ∧
        (t.line.state = if s.line.state = .faulted ∧ (∀ e ∈ s.racks, s.isBath e.2.station = false ∧
            e.2.phase ≠ .onCarriage) then .ready else s.line.state)
    else ∃ t, exec (.evacuate f inp) s = .next t ∧ s.onlyAnswered t 0x11#8 f inp [4#8]

/-- CARRIAGE CLEAR in FAULTED, the trolley over a configured station with a hoist limit true: the Driver takes the
station and is free, CARRIAGE_FAULT is cleared. A rack on the hook stays INTERRUPTED and is answered HOOKED; one the
hook does not show ends LOST, its slot and tag in the reply, or, an orphan, ends without a record, which no LOST field
names; with none left in a bath or on the carriage the line returns to READY. Elsewhere it is WRONG_STATE. -/
def Obligations.CarriageClearFreesTheCarriage : Prop :=
  ∀ (f : Frame) (inp : Inputs) (s : State), s.hears 0x12#8 f → f.payload = [] → ∀ clearable : Prop,
    (clearable ↔ s.line.state = .faulted ∧ s.driver.faultCleared = false ∧ 1 ≤ inp.atStation ∧
      inp.atStation ≤ s.cfg.line.count ∧ (inp.hoistUp = true ∨ inp.hoistDown = true) ∧
      (inp.hook = true → s.carried ≠ none)) →
    (¬ clearable → ∃ t, exec (.carriageClear f inp) s = .next t ∧ s.onlyAnswered t 0x12#8 f inp [4#8]) ∧
    (clearable → ∃ t, exec (.carriageClear f inp) s = .next t ∧ t.line.carriageFault = false ∧
      t.driver.position = inp.atStation ∧ t.out.raise = false ∧ t.out.lower = false ∧
      (s.schedule = [] → t.driver.state = .idle ∧ t.driver.goTo = inp.atStation ∧ t.schedule = []) ∧
      (∀ k r, s.carried = some (k, r) → inp.hook = true →
        t.rack k = some { r with flags := { r.flags with interrupted := true }, pending := .interrupted } ∧
        (∀ j, j ≠ k → t.rack j = s.rack j) ∧ t.line.state = .faulted ∧ t.driver.faultCleared = true ∧
        t.link = s.replying 0x12#8 f inp
          (0#8 :: b1 inp.atStation ++ [1#8] ++ b1 k ++ b2 r.tag ++ [255#8, 0#8, 0#8])) ∧
      (∀ k r, s.carried = some (k, r) → inp.hook = false →
        (∀ j, j ≠ k → t.rack j = s.rack j) ∧
        (r.recipe = none → t.rack k = none ∧ t.completions = s.completions ∧ s.posted t .rackRemoved 0 k 0 0 ∧
          t.link = s.replying 0x12#8 f inp (0#8 :: b1 inp.atStation ++ [0#8, 255#8, 0#8, 0#8, 255#8, 0#8, 0#8])) ∧
        (r.recipe ≠ none → s.rackEnded t k r .lost ∧ s.posted t .rackRemoved 0 k r.tag 5 ∧
          t.link = s.replying 0x12#8 f inp
            (0#8 :: b1 inp.atStation ++ [0#8] ++ [255#8, 0#8, 0#8] ++ b1 k ++ b2 r.tag))) ∧
      (s.carried = none → t.slots = s.slots ∧
        t.link = s.replying 0x12#8 f inp (0#8 :: b1 inp.atStation ++ [0#8, 255#8, 0#8, 0#8, 255#8, 0#8, 0#8])) ∧
      (s.carried = none ∨ inp.hook = false →
        if ∀ e ∈ s.racks, s.carried.map (·.1) ≠ some e.1 → s.isBath e.2.station = false ∧ e.2.phase ≠ .onCarriage then
          t.line.state = .ready ∧ s.posted t .evacuationDone 0 255 0 0 ∧ s.posted t .lineState 0 255 0 (3 * 256 + 5)
        else t.line.state = .faulted ∧ t.driver.faultCleared = true))

/-- CLEAR FLAGS with target 0 clears PUMP_FAULT and answers the line flags; at a DEVELOP or BATH station it releases a
CRADLE_FAULT whose down-limit reads true, the cradle becoming DOWN, clears the latches whose condition is not present,
and answers latches and conditions; any other target is BAD_VALUE. -/
def Obligations.ClearFlagsClearsTheLatches : Prop :=
  ∀ (f : Frame) (inp : Inputs) (s : State) (n : Byte), s.hears 0x13#8 f → f.payload = [n] → s.baths.length = 16 →
    s.cradles.length = 16 →
    (n = 0#8 → ∃ t, exec (.clearFlags f inp) s = .next t ∧
      t = { s.taken 0x13#8 f inp with
              link := s.replying 0x13#8 f inp (0#8 :: 0#8 :: b2 t.lineFlagBits ++ [0#8, 0#8]), out := t.out,
              line := { s.line with pumpFault := false } }) ∧
    (s.isBath n.toNat = true → n.toNat ≤ 16 → ∃ t, exec (.clearFlags f inp) s = .next t ∧
      (∀ fl, t.cond n.toNat fl = (s.cond n.toNat fl && !(fl == .cradleFault && (t.pin n.toNat).cradleDown))) ∧
      (∀ fl, (t.bath n.toNat).latches.get fl = ((s.bath n.toNat).latches.get fl && t.cond n.toNat fl)) ∧
      (t.cradle n.toNat = if s.cond n.toNat .cradleFault = true ∧ (t.pin n.toNat).cradleDown = true then
        { s.cradle n.toNat with state := .down } else s.cradle n.toNat) ∧
      (∀ m, m ≠ n.toNat → t.bath m = s.bath m ∧ t.cradle m = s.cradle m) ∧
      t = { s.taken 0x13#8 f inp with
              link := s.replying 0x13#8 f inp (0#8 :: n :: b2 (t.bath n.toNat).latches.bits ++
                b2 (t.bath n.toNat).conds.bits),
              out := t.out, baths := t.baths, cradles := t.cradles }) ∧
    (n ≠ 0#8 → s.isBath n.toNat = false →
      ∃ t, exec (.clearFlags f inp) s = .next t ∧ s.onlyAnswered t 0x13#8 f inp [3#8])

/-- CLEAR LINK answers the discarded-frame counter as it stood, sets it to 0 and clears LINK_DEGRADED, in every line
state and with the store busy; it posts nothing of its own and leaves LINK_LOST to the acceptance of the frame. -/
def Obligations.ClearLinkClearsTheCounter : Prop :=
  ∀ (f : Frame) (inp : Inputs) (s : State), s.hears 0x14#8 f → f.payload = [] →
    ∃ t, exec (.clearLink f inp) s = .next t ∧ t.link.discards = 0 ∧ t.link.degraded = false ∧ t.link.lost = false ∧
      t = { s.taken 0x14#8 f inp with
              link := { (s.replying 0x14#8 f inp (0#8 :: b2 s.link.discards)) with discards := 0, degraded := false },
              out := t.out }

/-! ### Reads -/

/-- READ RACK answers every field of the record as it stands, the deviations among them, by slot as by tag, absent
seconds as 0 with their presence bit clear, and with the outcome the rack will have or ended with; a free slot or an
unknown tag is NOT_FOUND, a selector out of range BAD_VALUE. It changes nothing. -/
def Obligations.ReadRackReturnsTheRecord : Prop :=
  ∀ (f : Frame) (inp : Inputs) (s : State) (sel hi lo : Byte), s.hears 0x15#8 f → f.payload = [sel, hi, lo] →
    ∀ v, v = hi.toNat * 256 + lo.toNat →
    (∀ k r, (sel = 1#8 ∧ v = k ∧ k < 24 ∧ s.rack k = some r) ∨
        (sel = 0#8 ∧ 1 ≤ v ∧ k < 24 ∧ s.rack k = some r ∧ r.tag = v ∧ ∀ j q, j < k → s.rack j = some q → q.tag ≠ v) →
      ∃ t p, exec (.readRack f inp) s = .next t ∧ s.onlyAnswered t 0x15#8 f inp p ∧
        p.length = 60 + 5 * r.deviations.length ∧ u8 p 0 = 0 ∧ u8 p 1 = k ∧ u16 p 2 = min r.tag 65535 ∧
        u8 p 4 = min (r.recipe.getD 255) 255 ∧ u8 p 5 = min r.scale 255 ∧ u8 p 6 = min r.load 255 ∧
        u8 p 7 = min r.loadStation 255 ∧ u8 p 8 = r.phase.code ∧ u8 p 9 = min r.step 255 ∧ u8 p 10 = min r.station 255 ∧
        u32 p 11 = min (r.immersion.getD 0) 4294967295 ∧ u32 p 15 = min r.dose 4294967295 ∧
        u32 p 19 = min r.target 4294967295 ∧ u16 p 23 = min r.rate 65535 ∧ u16 p 25 = min r.heldRate 65535 ∧
        u32 p 27 = 0 ∧ u32 p 31 = min (r.predicted.getD 0) 4294967295 ∧ u32 p 35 = min (r.nextStart.getD 0) 4294967295 ∧
        u8 p 39 = r.flags.bits ∧ u8 p 40 = r.pending.code ∧ u32 p 41 = min r.admitted 4294967295 ∧
        u32 p 45 = min (r.entered.getD 0) 4294967295 ∧ u32 p 49 = min (r.unload.getD 0) 4294967295 ∧
        u32 p 53 = min (r.ended.getD 0) 4294967295 ∧
        u8 p 57 = (if r.phase = .awaitingReport then r.outcome.code
          else if r.pending = .none then 1 else r.pending.code) ∧
        ((u8 p 58).testBit 0 = r.immersion.isSome ∧ (u8 p 58).testBit 1 = r.predicted.isSome ∧
          (u8 p 58).testBit 2 = r.nextStart.isSome ∧ (u8 p 58).testBit 3 = r.entered.isSome ∧
          (u8 p 58).testBit 4 = r.unload.isSome ∧ (u8 p 58).testBit 5 = r.ended.isSome) ∧
        u8 p 59 = min r.deviations.length 255 ∧
        ∀ i d, r.deviations[i]? = some d → u8 p (60 + 5 * i) = min d.1 255 ∧
          ((u32 p (61 + 5 * i) : Nat) : Int) = d.2 % 4294967296) ∧
    ((sel = 1#8 ∧ v < 24 ∧ s.rack v = none) ∨ (sel = 0#8 ∧ 1 ≤ v ∧ ∀ k r, k < 24 → s.rack k = some r → r.tag ≠ v) →
      ∃ t, exec (.readRack f inp) s = .next t ∧ s.onlyAnswered t 0x15#8 f inp [10#8]) ∧
    (2 ≤ sel.toNat ∨ (sel = 0#8 ∧ v = 0) ∨ (sel = 1#8 ∧ 24 ≤ v) →
      ∃ t, exec (.readRack f inp) s = .next t ∧ s.onlyAnswered t 0x15#8 f inp [3#8])

/-- READ STATION answers the record of a configured station as it stands, a station without a bath with 0 in the
fields of the bath and 0xFFFF for its filtered temperature, and clears its fresh latch, nothing else. A station that
is not configured is BAD_VALUE. -/
def Obligations.ReadStationClearsTheFreshLatch : Prop :=
  ∀ (f : Frame) (inp : Inputs) (s : State) (n : Byte), s.hears 0x16#8 f → f.payload = [n] → s.baths.length = 16 →
    (s.configured n.toNat = true → n.toNat ≤ 16 →
      ∃ t p, exec (.readStation f inp) s = .next t ∧ p.length = 33 ∧
        t = { s.taken 0x16#8 f inp with link := s.replying 0x16#8 f inp p, out := t.out, baths := t.baths } ∧
        (t.bath n.toNat = { s.bath n.toNat with fresh := false }) ∧ (∀ m, m ≠ n.toNat → t.bath m = s.bath m) ∧
        u8 p 0 = 0 ∧ u8 p 1 = n.toNat ∧ u8 p 2 = (s.role n.toNat).code ∧ u8 p 3 = min (s.group n.toNat) 255 ∧
        (u8 p 4 = 1 ↔ s.hostClosed n.toNat = true) ∧ (u8 p 5 = 1 ↔ (s.bath n.toNat).presence = true) ∧
        (∀ k r, s.rackAt n.toNat = some (k, r) → u8 p 6 = min k 255 ∧ u16 p 7 = min r.tag 65535) ∧
        (s.rackAt n.toNat = none → u8 p 6 = 255 ∧ u16 p 7 = 0) ∧
        (u8 p 9 = 1 ↔ s.isOpen n.toNat = true) ∧ (u8 p 10 = 1 ↔ s.isUsable n.toNat = true) ∧
        (s.isBath n.toNat = false → u16 p 11 = 0 ∧ u8 p 13 = 0 ∧ u16 p 14 = 65535 ∧ ∀ i, 16 ≤ i → i ≤ 32 → u8 p i = 0) ∧
        (s.isBath n.toNat = true →
          u16 p 11 = min (s.bath n.toNat).raw 65535 ∧ (u8 p 13 = 1 ↔ (s.bath n.toNat).rawValid = true) ∧
          u16 p 14 = min ((s.bath n.toNat).filtered.getD 65535) 65535 ∧ u8 p 16 = min (s.bath n.toNat).invalid 255 ∧
          u8 p 17 = min (s.bath n.toNat).rejected 255 ∧ (u8 p 18 = 1 ↔ (s.bath n.toNat).levelLow = true) ∧
          (u8 p 19 = 1 ↔ (s.bath n.toNat).levelHigh = true) ∧ u16 p 20 = (s.bath n.toNat).conds.bits ∧
          u16 p 22 = (s.bath n.toNat).latches.bits ∧ (u8 p 24 = 1 ↔ (s.bath n.toNat).fresh = true) ∧
          u16 p 25 = min (s.bath n.toNat).exhaustion 65535 ∧
          u8 p 27 = min (s.deliveries.filter (·.station == n.toNat)).length 255 ∧
          u32 p 28 = min ((s.deliveries.filter (·.station == n.toNat)).map (·.volume)).sum 4294967295 ∧
          (u8 p 32 = 1 ↔ ∃ d ∈ s.deliveries, d.station = n.toNat ∧ d.running = true))) ∧
    (s.configured n.toNat = false →
      ∃ t, exec (.readStation f inp) s = .next t ∧ s.onlyAnswered t 0x16#8 f inp [3#8])

/-- READ SCHEDULE answers the number of entries and those from the start index on, as many as asked for or remain, in
schedule order with the slack of the span; READ TIMELINE answers role, open, usable, closure, presence, slot and tag
of a configured station and its intervals in order; both change nothing and refuse figures out of range with
BAD_VALUE. -/
def Obligations.ReadScheduleAndTimelineReturnThePlans : Prop :=
  ∀ (f : Frame) (inp : Inputs) (s : State) (a b : Byte),
    (s.hears 0x17#8 f → f.payload = [a, b] →
      if a.toNat ≤ 191 ∧ 1 ≤ b.toNat ∧ b.toNat ≤ 8 then
        ∃ t p, exec (.readSchedule f inp) s = .next t ∧ s.onlyAnswered t 0x17#8 f inp p ∧
          u8 p 0 = 0 ∧ u8 p 1 = min s.schedule.length 255 ∧ u8 p 2 = min b.toNat (s.schedule.length - a.toNat) ∧
          p.length = 3 + 23 * min b.toNat (s.schedule.length - a.toNat) ∧
          ∀ i e, i < b.toNat → s.schedule[a.toNat + i]? = some e →
            u8 p (3 + 23 * i) = min e.slot 255 ∧ u16 p (4 + 23 * i) = min (s.tagOf e.slot) 65535 ∧
            u8 p (6 + 23 * i) = min e.index 255 ∧ u8 p (7 + 23 * i) = min e.src 255 ∧ u8 p (8 + 23 * i) = min e.dst 255 ∧
            u8 p (9 + 23 * i) % 4 = e.kind.code ∧ (u8 p (9 + 23 * i)).testBit 2 = e.firm ∧
            (u8 p (9 + 23 * i)).testBit 3 = e.executing ∧ u32 p (10 + 23 * i) = min e.start 4294967295 ∧
            u8 p (14 + 23 * i) = min e.duration 255 ∧ u16 p (15 + 23 * i) = min e.lateness 65535 ∧
            u32 p (17 + 23 * i) = min e.spanStart 4294967295 ∧ u32 p (21 + 23 * i) = min e.spanEnd 4294967295 ∧
            u8 p (25 + 23 * i) = min (e.spanEnd - e.duration - e.spanStart) 255
      else ∃ t, exec (.readSchedule f inp) s = .next t ∧ s.onlyAnswered t 0x17#8 f inp [3#8]) ∧
    (s.hears 0x18#8 f → f.payload = [a] →
      if s.configured a.toNat = true then
        ∃ t p, exec (.readTimeline f inp) s = .next t ∧ s.onlyAnswered t 0x18#8 f inp p ∧
          p.length = 11 + 13 * (s.timeline a.toNat).length ∧ u8 p 0 = 0 ∧ u8 p 1 = a.toNat ∧
          u8 p 2 = (s.role a.toNat).code ∧ (u8 p 3 = 1 ↔ s.isOpen a.toNat = true) ∧
          (u8 p 4 = 1 ↔ s.isUsable a.toNat = true) ∧ (u8 p 5 = 1 ↔ s.hostClosed a.toNat = true) ∧
          (u8 p 6 = 1 ↔ (s.bath a.toNat).presence = true) ∧
          (∀ k r, s.rackAt a.toNat = some (k, r) → u8 p 7 = min k 255 ∧ u16 p 8 = min r.tag 65535) ∧
          (s.rackAt a.toNat = none → u8 p 7 = 255 ∧ u16 p 8 = 0) ∧
          u8 p 10 = min (s.timeline a.toNat).length 255 ∧
          ∀ i iv, (s.timeline a.toNat)[i]? = some iv →
            u8 p (11 + 13 * i) = min iv.slot 255 ∧ u16 p (12 + 13 * i) = min (s.tagOf iv.slot) 65535 ∧
            u32 p (14 + 13 * i) = min iv.start 4294967295 ∧
            u32 p (18 + 13 * i) = min (iv.stop.getD 0) 4294967295 ∧ u8 p (22 + 13 * i) = iv.purpose.code ∧
            (u8 p (23 + 13 * i) = 1 ↔ iv.stop = none)
      else ∃ t, exec (.readTimeline f inp) s = .next t ∧ s.onlyAnswered t 0x18#8 f inp [3#8])

/-- READ EVENTS takes the eight oldest records, or all of fewer, answers them with the lost count as it stood and the
number left, and clears the lost count. LINK_RESTORED, posted with the acceptance of the frame, is among the records.
-/
def Obligations.ReadEventsTakesTheOldest : Prop :=
  ∀ (f : Frame) (inp : Inputs) (s u : State), s.hears 0x19#8 f → f.payload = [] → u = s.taken 0x19#8 f inp →
    u.events.length ≤ 64 → u.lost ≤ 255 →
    ∃ t p, exec (.readEvents f inp) s = .next t ∧ t.events = u.events.drop 8 ∧ t.lost = 0 ∧
      t = { u with link := s.replying 0x19#8 f inp p, out := t.out, events := t.events, lost := 0 } ∧
      p.length = 4 + 11 * min 8 u.events.length ∧ u8 p 0 = 0 ∧ u8 p 1 = min 8 u.events.length ∧ u8 p 2 = u.lost ∧
      u8 p (3 + 11 * min 8 u.events.length) = t.events.length ∧
      ∀ i e, i < 8 → u.events[i]? = some e →
        u32 p (3 + 11 * i) = min e.second 4294967295 ∧ u8 p (7 + 11 * i) = e.kind.code ∧
        u8 p (8 + 11 * i) = min e.station 255 ∧ u8 p (9 + 11 * i) = min e.slot 255 ∧
        u16 p (10 + 11 * i) = min e.tag 65535 ∧ u16 p (12 + 11 * i) = min e.detail 65535

/-- READ COMPLETIONS takes the two oldest records and answers them, absent seconds as 0 with their presence bit clear;
then waiting racks move up in slot order into the places made, each slot freed as its record enters, until the queue is
full or none waits; the reply ends with both counts. -/
def Obligations.ReadCompletionsMakesRoom : Prop :=
  ∀ (f : Frame) (inp : Inputs) (s : State) (waiting : List Nat), s.hears 0x1A#8 f → f.payload = [] →
    s.completions.length ≤ 16 →
    waiting = (allSlots.filter fun k => (s.rack k).any fun r => r.phase == .awaitingReport) →
    ∃ t p, exec (.readCompletions f inp) s = .next t ∧ u8 p 0 = 0 ∧ u8 p 1 = min 2 s.completions.length ∧
      t.link = s.replying 0x1A#8 f inp p ∧
      t.completions.length = min 16 (s.completions.length - 2 + waiting.length) ∧
      (s.completions.drop 2) <+: t.completions ∧
      (t.completions.drop (s.completions.length - 2)).map (·.tag) =
        (waiting.take (16 - (s.completions.length - 2))).map s.tagOf ∧
      (∀ k ∈ waiting.take (16 - (s.completions.length - 2)), t.rack k = none) ∧
      (∀ k, k ∉ waiting.take (16 - (s.completions.length - 2)) → t.rack k = s.rack k) ∧
      (∃ rs : List (List Byte), rs.length = min 2 s.completions.length ∧
        p = 0#8 :: b1 rs.length ++ rs.flatten ++ b1 t.completions.length ++
          b1 (waiting.drop (16 - (s.completions.length - 2))).length ∧
        ∀ (i : Nat) (b : List Byte) (c : Completion), rs[i]? = some b → s.completions[i]? = some c →
          b.length = 25 + 5 * c.deviations.length ∧
          u16 b 0 = min c.tag 65535 ∧ u8 b 2 = min c.recipe 255 ∧ u8 b 3 = min c.scale 255 ∧ u8 b 4 = min c.load 255 ∧
          (u8 b 5).testBit 0 = c.entered.isSome ∧ (u8 b 5).testBit 1 = c.unload.isSome ∧
          u32 b 6 = min c.admitted 4294967295 ∧ u32 b 10 = min (c.entered.getD 0) 4294967295 ∧
          u32 b 14 = min (c.unload.getD 0) 4294967295 ∧ u32 b 18 = min c.removed 4294967295 ∧
          u8 b 22 = c.outcome.code ∧ u8 b 23 = c.flags.bits ∧ u8 b 24 = min c.deviations.length 255 ∧
          ∀ (j : Nat) (d : Nat × Int), c.deviations[j]? = some d → u8 b (25 + 5 * j) = min d.1 255 ∧
            ((u32 b (26 + 5 * j) : Nat) : Int) = d.2 % 4294967296) ∧
      t = { s.taken 0x1A#8 f inp with link := t.link, out := t.out, completions := t.completions, slots := t.slots }

/-! ### Arithmetic -/

/-- Under a curve that meets R25, an exhaustion of at most 1000 and a slope of at most 512, the effective rate of a
station lies between 1 and 8192 du, at any temperature; at the curve's reference temperature and no derate it is 1024.
On a curve that does not fall, a warmer bath never develops slower. -/
def Obligations.RatesStayInRangeAndRise : Prop :=
  (∀ (s : State) (n : Nat) (c : Curve), c.points.length = 17 → (∀ p ∈ c.points, 64 ≤ p ∧ p ≤ 8192) →
     c.points.getD 8 0 = 1024 → (s.bath n).exhaustion ≤ 1000 → (s.stationCfg n).slope ≤ 512 →
     1 ≤ (s.stationRate n c).rate ∧ (s.stationRate n c).rate ≤ 8192 ∧
     ((s.rateTemp n c.tref).1 = c.tref → (s.stationCfg n).slope = 0 → (s.stationRate n c).rate = 1024)) ∧
  (∀ (c : Curve) (x a b : Nat), c.points.length = 17 → c.points.Pairwise (· ≤ ·) → a ≤ b →
     effectiveRate (c.rateAt (curveIndex c.tref a).1) x ≤ effectiveRate (c.rateAt (curveIndex c.tref b).1) x)

/-! ### What every step keeps -/

/-- Every step keeps the bounds of the queues: 64 events, a lost count of 255, 16 completion records, 16 deliveries, a
discard count of 65535. Every step keeps the sizes of the tables of stations, slots and settings. The racks the
Integrator has still to reach, a list the model holds within one line second (notes/assumptions/4.md), are none between
steps. -/
def Obligations.StepsKeepTheQueueBounds : Prop :=
  (∀ s t : State, s.queuesBounded → step s = .next t → t.queuesBounded) ∧
  (∀ s t : State, s.shaped → step s = .next t → t.shaped) ∧
  (∀ s t : State, s.accrualDue = [] → step s = .next t → t.accrualDue = [])

/-- Every step keeps the room of the plans: 192 schedule entries and 8 intervals at a station, whatever the placement
walk books. Every step keeps the schedule in order of span start and every timeline in order of from second. Where a
raise takes at least a second, as the line record requires, every step keeps the spans of the schedule apart with the
EXECUTING entry first, and every step keeps the intervals of every timeline apart. Between consecutive entries every
step leaves at least the travel time from the one's to station to the other's from station; the figure of travel
changes by SET LINE with no rack in a slot and by a load, when no entry stands. Every step keeps the BOOKED entries
apart: no two of them are one move of one rack. -/
def Obligations.StepsKeepThePlans : Prop :=
  (∀ s t : State, s.plansBounded → step s = .next t → t.plansBounded) ∧
  (∀ s t : State, s.plansOrdered → step s = .next t → t.plansOrdered) ∧
  (∀ s t : State, 1 ≤ s.cfg.line.tl → s.spansApart → step s = .next t → t.spansApart) ∧
  (∀ s t : State, s.staysApart → step s = .next t → t.staysApart) ∧
  (∀ s t : State, 1 ≤ s.cfg.line.tl → s.spansApart → s.travelsApart → step s = .next t →
    s.schedule = [] ∨ t.cfg.line.tp = s.cfg.line.tp → t.travelsApart) ∧
  (∀ s t : State, s.movesApart → step s = .next t → t.movesApart)

/-- Every step keeps the live burst map, and every image a load could bring, without two enabled stations on one on
tick, every exhaustion index within 1000, and every field of the line record, of those in use and of any a load could
bring, in its range. -/
def Obligations.StepsKeepTheMapsAndIndices : Prop :=
  ∀ s t : State, step s = .next t → (s.mapsClear → t.mapsClear) ∧ (s.exhaustionBounded → t.exhaustionBounded) ∧
    (s.everySettings (fun c => c.line.inRange = true) → t.everySettings fun c => c.line.inRange = true)

/-- After every step of a running part its outputs stand as the blocks' states say; raise and lower are never asserted
together, and at most one replenish selector is, only while pump run is. That the RS-485 driver is enabled from the
acceptance of a frame on is the model's choice (notes/assumptions/39.md). -/
def Obligations.StepsKeepTheOutputs : Prop :=
  ∀ s t : State, s.outputsFollow → s.out.exclusive → step s = .next t → t.outputsFollow ∧ t.out.exclusive

/-- The reset state meets every property the steps keep. -/
def Obligations.ResetMeetsTheInvariants : Prop :=
  State.reset.queuesBounded ∧ State.reset.plansBounded ∧ State.reset.plansOrdered ∧ State.reset.mapsClear ∧
  State.reset.exhaustionBounded ∧ State.reset.outputsFollow ∧ State.reset.out.exclusive ∧ State.reset.shaped ∧
  State.reset.accrualDue = [] ∧ State.reset.spansApart ∧ State.reset.staysApart ∧ State.reset.travelsApart ∧ State.reset.movesApart ∧
  State.reset.everySettings fun c => c.line.inRange = true

/-- Outside full reset and the start-up load each kind of setting changes by its own request alone: the line record by
SET LINE, the station records by SET STATION and SET LINE, with no rack in a slot and the line at rest; curves,
recipes, patterns and routes by theirs, closures by STATION SERVICE, SET STATION and SET LINE; the line, station and
curve records never while the lock is on, and none while the store is busy. In the middle of a frame the byte that
ends it, or a whole-frame command whose bytes end it, stands for that request (notes/assumptions/10.md). The live
burst map changes only at a frame wrap or where the manifold is stopped. -/
def Obligations.SettingsChangeByTheirRequestsAlone : Prop :=
  ∀ (c : Instr) (s t : State), exec c s = .next t → fullResets c = false → (∀ inp, c ≠ .startupLoadDone inp) →
    (t.cfg.line ≠ s.cfg.line →
      ((∃ f inp, c = .setLine f inp) ∨ s.midFrame c) ∧ t.pins.lock = false ∧ s.racks = [] ∧
        (s.line.state = .dormant ∨ s.line.state = .standby)) ∧
    (t.cfg.stations ≠ s.cfg.stations →
      ((∃ f inp, c = .setLine f inp ∨ c = .setStation f inp) ∨ s.midFrame c) ∧ t.pins.lock = false ∧ s.racks = [] ∧
        (s.line.state = .dormant ∨ s.line.state = .standby)) ∧
    (t.cfg.curves ≠ s.cfg.curves → ((∃ f inp, c = .setCurve f inp) ∨ s.midFrame c) ∧ t.pins.lock = false) ∧
    (t.cfg.recipes ≠ s.cfg.recipes → (∃ f inp, c = .setRecipe f inp) ∨ s.midFrame c) ∧
    (t.cfg.patterns ≠ s.cfg.patterns → (∃ f inp, c = .setPattern f inp) ∨ s.midFrame c) ∧
    (t.cfg.routes ≠ s.cfg.routes → (∃ f inp, c = .setRoute f inp) ∨ s.midFrame c) ∧
    (t.cfg.closures ≠ s.cfg.closures →
      (∃ f inp, c = .stationService f inp ∨ c = .setStation f inp ∨ c = .setLine f inp) ∨ s.midFrame c) ∧
    (t.cfg.live ≠ s.cfg.live → t.manifold.running = false ∨
      ∃ inp, (c = .manifoldTick inp ∨ c = .frameWrap inp) ∧ s.manifold.running = true ∧ 199 ≤ s.manifold.tick) ∧
    (s.storeWrite ≠ none → t.cfg = { s.cfg with live := t.cfg.live })

/-- A rack slot comes into use by an ADMIT in READY with no orphan in a bath, or as an orphan of the start-up load,
and by nothing else (in the middle of a frame by the byte that ends such an ADMIT, notes/assumptions/10.md); outside
full reset the slot of a rack with a recipe is freed only with a record of that rack in the completion queue. An entry
becomes EXECUTING by MOVE_START alone, or by a step of the carriage that a line second's order names
(notes/assumptions/4.md), and then it is the first of a schedule whose spans lie apart. A rack ON_CARRIAGE has current
station 0, and a station becomes current to a second rack by a lowering there alone. -/
def Obligations.SlotsAndMovesComeAndGoByTheRules : Prop :=
  ∀ (c : Instr) (s t : State), exec c s = .next t →
    (∀ k, s.rack k = none → ∀ q, t.rack k = some q →
      (((∃ f inp, c = .admitRack f inp) ∨ s.midFrame c) ∧ s.line.state = .ready ∧ q.phase = .waitingEntry ∧
        ∀ e ∈ s.racks, ¬ (e.2.phase = .orphan ∧ s.isBath e.2.station = true)) ∨
      (∃ inp, c = .startupLoadDone inp ∧ q.phase = .orphan ∧ q.recipe = none)) ∧
    (∀ k r n, s.rack k = some r → r.recipe = some n → r.phase ≠ .orphan → t.rack k = none → fullResets c = false →
      ∃ x ∈ t.completions, x.tag = r.tag ∧ x.recipe = n) ∧
    (∀ e ∈ t.schedule, e.executing = true →
      (∃ m ∈ s.schedule, m.executing = true ∧ m.slot = e.slot ∧ m.index = e.index) ∨
      ((1 ≤ s.cfg.line.tl → s.spansApart → t.schedule.head? = some e) ∧
        ((∃ inp, c = .moveStart inp) ∨ ∃ order inp, c = .lineSecond order inp ∧ SecondTask.carriage ∈ order))) ∧
    ((∀ k r, s.rack k = some r → r.phase = .onCarriage → r.station = 0) →
      ∀ k r, t.rack k = some r → r.phase = .onCarriage → r.station = 0) ∧
    (s.slots.length = 24 → (∀ inp, c ≠ .startupLoadDone inp) → ∀ j k q r, j ≠ k → t.rack j = some q →
      t.rack k = some r → q.station = r.station → 1 ≤ r.station →
      (∃ q' r', s.rack j = some q' ∧ s.rack k = some r' ∧ q'.station = r.station ∧ r'.station = r.station) ∨
      ∃ x, (x = q ∨ x = r) ∧ (x.immersion = some t.clock ∨ x.unload = some t.clock))
end

