-- ==== Sys2Proof/Laws/State.lean ====
section
/-! SUPPORT. Every update of State, field by field: true by unfolding the update once, so that no later proof does. -/

namespace Sys2Proof.Machine

variable (s : State)

/-! ### latch -/

@[simp] theorem State.latch_run (inp : Inputs) : (s.latch inp).run = s.run := rfl
@[simp] theorem State.latch_clock (inp : Inputs) : (s.latch inp).clock = s.clock := rfl
@[simp] theorem State.latch_accrualDue (inp : Inputs) : (s.latch inp).accrualDue = s.accrualDue := rfl
@[simp] theorem State.latch_pins (inp : Inputs) : (s.latch inp).pins = inp := rfl
@[simp] theorem State.latch_out (inp : Inputs) : (s.latch inp).out = s.out := rfl
@[simp] theorem State.latch_cfg (inp : Inputs) : (s.latch inp).cfg = s.cfg := rfl
@[simp] theorem State.latch_nv (inp : Inputs) : (s.latch inp).nv = s.nv := rfl
@[simp] theorem State.latch_storeWrite (inp : Inputs) : (s.latch inp).storeWrite = s.storeWrite := rfl
@[simp] theorem State.latch_link (inp : Inputs) : (s.latch inp).link = s.link := rfl
@[simp] theorem State.latch_line (inp : Inputs) : (s.latch inp).line = s.line := rfl
@[simp] theorem State.latch_slots (inp : Inputs) : (s.latch inp).slots = s.slots := rfl
@[simp] theorem State.latch_completions (inp : Inputs) : (s.latch inp).completions = s.completions := rfl
@[simp] theorem State.latch_schedule (inp : Inputs) : (s.latch inp).schedule = s.schedule := rfl
@[simp] theorem State.latch_timelines (inp : Inputs) : (s.latch inp).timelines = s.timelines := rfl
@[simp] theorem State.latch_deferred (inp : Inputs) : (s.latch inp).deferred = s.deferred := rfl
@[simp] theorem State.latch_evacOrder (inp : Inputs) : (s.latch inp).evacOrder = s.evacOrder := rfl
@[simp] theorem State.latch_driver (inp : Inputs) : (s.latch inp).driver = s.driver := rfl
@[simp] theorem State.latch_cradles (inp : Inputs) : (s.latch inp).cradles = s.cradles := rfl
@[simp] theorem State.latch_plans (inp : Inputs) : (s.latch inp).plans = s.plans := rfl
@[simp] theorem State.latch_manifold (inp : Inputs) : (s.latch inp).manifold = s.manifold := rfl
@[simp] theorem State.latch_baths (inp : Inputs) : (s.latch inp).baths = s.baths := rfl
@[simp] theorem State.latch_deliveries (inp : Inputs) : (s.latch inp).deliveries = s.deliveries := rfl
@[simp] theorem State.latch_pump (inp : Inputs) : (s.latch inp).pump = s.pump := rfl
@[simp] theorem State.latch_events (inp : Inputs) : (s.latch inp).events = s.events := rfl
@[simp] theorem State.latch_lost (inp : Inputs) : (s.latch inp).lost = s.lost := rfl
@[simp] theorem State.latch_pending (inp : Inputs) : (s.latch inp).pending = s.pending := rfl

/-! ### setBath -/

@[simp] theorem State.setBath_run (n : Nat) (b : Bath) : (s.setBath n b).run = s.run := rfl
@[simp] theorem State.setBath_clock (n : Nat) (b : Bath) : (s.setBath n b).clock = s.clock := rfl
@[simp] theorem State.setBath_accrualDue (n : Nat) (b : Bath) : (s.setBath n b).accrualDue = s.accrualDue := rfl
@[simp] theorem State.setBath_pins (n : Nat) (b : Bath) : (s.setBath n b).pins = s.pins := rfl
@[simp] theorem State.setBath_out (n : Nat) (b : Bath) : (s.setBath n b).out = s.out := rfl
@[simp] theorem State.setBath_cfg (n : Nat) (b : Bath) : (s.setBath n b).cfg = s.cfg := rfl
@[simp] theorem State.setBath_nv (n : Nat) (b : Bath) : (s.setBath n b).nv = s.nv := rfl
@[simp] theorem State.setBath_storeWrite (n : Nat) (b : Bath) : (s.setBath n b).storeWrite = s.storeWrite := rfl
@[simp] theorem State.setBath_link (n : Nat) (b : Bath) : (s.setBath n b).link = s.link := rfl
@[simp] theorem State.setBath_line (n : Nat) (b : Bath) : (s.setBath n b).line = s.line := rfl
@[simp] theorem State.setBath_slots (n : Nat) (b : Bath) : (s.setBath n b).slots = s.slots := rfl
@[simp] theorem State.setBath_completions (n : Nat) (b : Bath) : (s.setBath n b).completions = s.completions := rfl
@[simp] theorem State.setBath_schedule (n : Nat) (b : Bath) : (s.setBath n b).schedule = s.schedule := rfl
@[simp] theorem State.setBath_timelines (n : Nat) (b : Bath) : (s.setBath n b).timelines = s.timelines := rfl
@[simp] theorem State.setBath_deferred (n : Nat) (b : Bath) : (s.setBath n b).deferred = s.deferred := rfl
@[simp] theorem State.setBath_evacOrder (n : Nat) (b : Bath) : (s.setBath n b).evacOrder = s.evacOrder := rfl
@[simp] theorem State.setBath_driver (n : Nat) (b : Bath) : (s.setBath n b).driver = s.driver := rfl
@[simp] theorem State.setBath_cradles (n : Nat) (b : Bath) : (s.setBath n b).cradles = s.cradles := rfl
@[simp] theorem State.setBath_plans (n : Nat) (b : Bath) : (s.setBath n b).plans = s.plans := rfl
@[simp] theorem State.setBath_manifold (n : Nat) (b : Bath) : (s.setBath n b).manifold = s.manifold := rfl
@[simp] theorem State.setBath_baths (n : Nat) (b : Bath) : (s.setBath n b).baths = setStation s.baths n b := rfl
@[simp] theorem State.setBath_deliveries (n : Nat) (b : Bath) : (s.setBath n b).deliveries = s.deliveries := rfl
@[simp] theorem State.setBath_pump (n : Nat) (b : Bath) : (s.setBath n b).pump = s.pump := rfl
@[simp] theorem State.setBath_events (n : Nat) (b : Bath) : (s.setBath n b).events = s.events := rfl
@[simp] theorem State.setBath_lost (n : Nat) (b : Bath) : (s.setBath n b).lost = s.lost := rfl
@[simp] theorem State.setBath_pending (n : Nat) (b : Bath) : (s.setBath n b).pending = s.pending := rfl

/-! ### setCradle -/

@[simp] theorem State.setCradle_run (n : Nat) (c : Cradle) : (s.setCradle n c).run = s.run := rfl
@[simp] theorem State.setCradle_clock (n : Nat) (c : Cradle) : (s.setCradle n c).clock = s.clock := rfl
@[simp] theorem State.setCradle_accrualDue (n : Nat) (c : Cradle) : (s.setCradle n c).accrualDue = s.accrualDue := rfl
@[simp] theorem State.setCradle_pins (n : Nat) (c : Cradle) : (s.setCradle n c).pins = s.pins := rfl
@[simp] theorem State.setCradle_out (n : Nat) (c : Cradle) : (s.setCradle n c).out = s.out := rfl
@[simp] theorem State.setCradle_cfg (n : Nat) (c : Cradle) : (s.setCradle n c).cfg = s.cfg := rfl
@[simp] theorem State.setCradle_nv (n : Nat) (c : Cradle) : (s.setCradle n c).nv = s.nv := rfl
@[simp] theorem State.setCradle_storeWrite (n : Nat) (c : Cradle) : (s.setCradle n c).storeWrite = s.storeWrite := rfl
@[simp] theorem State.setCradle_link (n : Nat) (c : Cradle) : (s.setCradle n c).link = s.link := rfl
@[simp] theorem State.setCradle_line (n : Nat) (c : Cradle) : (s.setCradle n c).line = s.line := rfl
@[simp] theorem State.setCradle_slots (n : Nat) (c : Cradle) : (s.setCradle n c).slots = s.slots := rfl
@[simp] theorem State.setCradle_completions (n : Nat) (c : Cradle) : (s.setCradle n c).completions = s.completions := rfl
@[simp] theorem State.setCradle_schedule (n : Nat) (c : Cradle) : (s.setCradle n c).schedule = s.schedule := rfl
@[simp] theorem State.setCradle_timelines (n : Nat) (c : Cradle) : (s.setCradle n c).timelines = s.timelines := rfl
@[simp] theorem State.setCradle_deferred (n : Nat) (c : Cradle) : (s.setCradle n c).deferred = s.deferred := rfl
@[simp] theorem State.setCradle_evacOrder (n : Nat) (c : Cradle) : (s.setCradle n c).evacOrder = s.evacOrder := rfl
@[simp] theorem State.setCradle_driver (n : Nat) (c : Cradle) : (s.setCradle n c).driver = s.driver := rfl
@[simp] theorem State.setCradle_cradles (n : Nat) (c : Cradle) : (s.setCradle n c).cradles = setStation s.cradles n c := rfl
@[simp] theorem State.setCradle_plans (n : Nat) (c : Cradle) : (s.setCradle n c).plans = s.plans := rfl
@[simp] theorem State.setCradle_manifold (n : Nat) (c : Cradle) : (s.setCradle n c).manifold = s.manifold := rfl
@[simp] theorem State.setCradle_baths (n : Nat) (c : Cradle) : (s.setCradle n c).baths = s.baths := rfl
@[simp] theorem State.setCradle_deliveries (n : Nat) (c : Cradle) : (s.setCradle n c).deliveries = s.deliveries := rfl
@[simp] theorem State.setCradle_pump (n : Nat) (c : Cradle) : (s.setCradle n c).pump = s.pump := rfl
@[simp] theorem State.setCradle_events (n : Nat) (c : Cradle) : (s.setCradle n c).events = s.events := rfl
@[simp] theorem State.setCradle_lost (n : Nat) (c : Cradle) : (s.setCradle n c).lost = s.lost := rfl
@[simp] theorem State.setCradle_pending (n : Nat) (c : Cradle) : (s.setCradle n c).pending = s.pending := rfl

/-! ### setTimeline -/

@[simp] theorem State.setTimeline_run (n : Nat) (l : List Interval) : (s.setTimeline n l).run = s.run := rfl
@[simp] theorem State.setTimeline_clock (n : Nat) (l : List Interval) : (s.setTimeline n l).clock = s.clock := rfl
@[simp] theorem State.setTimeline_accrualDue (n : Nat) (l : List Interval) : (s.setTimeline n l).accrualDue = s.accrualDue := rfl
@[simp] theorem State.setTimeline_pins (n : Nat) (l : List Interval) : (s.setTimeline n l).pins = s.pins := rfl
@[simp] theorem State.setTimeline_out (n : Nat) (l : List Interval) : (s.setTimeline n l).out = s.out := rfl
@[simp] theorem State.setTimeline_cfg (n : Nat) (l : List Interval) : (s.setTimeline n l).cfg = s.cfg := rfl
@[simp] theorem State.setTimeline_nv (n : Nat) (l : List Interval) : (s.setTimeline n l).nv = s.nv := rfl
@[simp] theorem State.setTimeline_storeWrite (n : Nat) (l : List Interval) : (s.setTimeline n l).storeWrite = s.storeWrite := rfl
@[simp] theorem State.setTimeline_link (n : Nat) (l : List Interval) : (s.setTimeline n l).link = s.link := rfl
@[simp] theorem State.setTimeline_line (n : Nat) (l : List Interval) : (s.setTimeline n l).line = s.line := rfl
@[simp] theorem State.setTimeline_slots (n : Nat) (l : List Interval) : (s.setTimeline n l).slots = s.slots := rfl
@[simp] theorem State.setTimeline_completions (n : Nat) (l : List Interval) : (s.setTimeline n l).completions = s.completions := rfl
@[simp] theorem State.setTimeline_schedule (n : Nat) (l : List Interval) : (s.setTimeline n l).schedule = s.schedule := rfl
@[simp] theorem State.setTimeline_timelines (n : Nat) (l : List Interval) : (s.setTimeline n l).timelines = setStation s.timelines n l := rfl
@[simp] theorem State.setTimeline_deferred (n : Nat) (l : List Interval) : (s.setTimeline n l).deferred = s.deferred := rfl
@[simp] theorem State.setTimeline_evacOrder (n : Nat) (l : List Interval) : (s.setTimeline n l).evacOrder = s.evacOrder := rfl
@[simp] theorem State.setTimeline_driver (n : Nat) (l : List Interval) : (s.setTimeline n l).driver = s.driver := rfl
@[simp] theorem State.setTimeline_cradles (n : Nat) (l : List Interval) : (s.setTimeline n l).cradles = s.cradles := rfl
@[simp] theorem State.setTimeline_plans (n : Nat) (l : List Interval) : (s.setTimeline n l).plans = s.plans := rfl
@[simp] theorem State.setTimeline_manifold (n : Nat) (l : List Interval) : (s.setTimeline n l).manifold = s.manifold := rfl
@[simp] theorem State.setTimeline_baths (n : Nat) (l : List Interval) : (s.setTimeline n l).baths = s.baths := rfl
@[simp] theorem State.setTimeline_deliveries (n : Nat) (l : List Interval) : (s.setTimeline n l).deliveries = s.deliveries := rfl
@[simp] theorem State.setTimeline_pump (n : Nat) (l : List Interval) : (s.setTimeline n l).pump = s.pump := rfl
@[simp] theorem State.setTimeline_events (n : Nat) (l : List Interval) : (s.setTimeline n l).events = s.events := rfl
@[simp] theorem State.setTimeline_lost (n : Nat) (l : List Interval) : (s.setTimeline n l).lost = s.lost := rfl
@[simp] theorem State.setTimeline_pending (n : Nat) (l : List Interval) : (s.setTimeline n l).pending = s.pending := rfl

/-! ### setValve -/

@[simp] theorem State.setValve_run (n : Nat) (b : Bool) : (s.setValve n b).run = s.run := rfl
@[simp] theorem State.setValve_clock (n : Nat) (b : Bool) : (s.setValve n b).clock = s.clock := rfl
@[simp] theorem State.setValve_accrualDue (n : Nat) (b : Bool) : (s.setValve n b).accrualDue = s.accrualDue := rfl
@[simp] theorem State.setValve_pins (n : Nat) (b : Bool) : (s.setValve n b).pins = s.pins := rfl
@[simp] theorem State.setValve_out (n : Nat) (b : Bool) : (s.setValve n b).out = s.out := rfl
@[simp] theorem State.setValve_cfg (n : Nat) (b : Bool) : (s.setValve n b).cfg = s.cfg := rfl
@[simp] theorem State.setValve_nv (n : Nat) (b : Bool) : (s.setValve n b).nv = s.nv := rfl
@[simp] theorem State.setValve_storeWrite (n : Nat) (b : Bool) : (s.setValve n b).storeWrite = s.storeWrite := rfl
@[simp] theorem State.setValve_link (n : Nat) (b : Bool) : (s.setValve n b).link = s.link := rfl
@[simp] theorem State.setValve_line (n : Nat) (b : Bool) : (s.setValve n b).line = s.line := rfl
@[simp] theorem State.setValve_slots (n : Nat) (b : Bool) : (s.setValve n b).slots = s.slots := rfl
@[simp] theorem State.setValve_completions (n : Nat) (b : Bool) : (s.setValve n b).completions = s.completions := rfl
@[simp] theorem State.setValve_schedule (n : Nat) (b : Bool) : (s.setValve n b).schedule = s.schedule := rfl
@[simp] theorem State.setValve_timelines (n : Nat) (b : Bool) : (s.setValve n b).timelines = s.timelines := rfl
@[simp] theorem State.setValve_deferred (n : Nat) (b : Bool) : (s.setValve n b).deferred = s.deferred := rfl
@[simp] theorem State.setValve_evacOrder (n : Nat) (b : Bool) : (s.setValve n b).evacOrder = s.evacOrder := rfl
@[simp] theorem State.setValve_driver (n : Nat) (b : Bool) : (s.setValve n b).driver = s.driver := rfl
@[simp] theorem State.setValve_cradles (n : Nat) (b : Bool) : (s.setValve n b).cradles = s.cradles := rfl
@[simp] theorem State.setValve_plans (n : Nat) (b : Bool) : (s.setValve n b).plans = s.plans := rfl
@[simp] theorem State.setValve_manifold (n : Nat) (b : Bool) : (s.setValve n b).manifold = { s.manifold with valves := setStation s.manifold.valves n b } := rfl
@[simp] theorem State.setValve_baths (n : Nat) (b : Bool) : (s.setValve n b).baths = s.baths := rfl
@[simp] theorem State.setValve_deliveries (n : Nat) (b : Bool) : (s.setValve n b).deliveries = s.deliveries := rfl
@[simp] theorem State.setValve_pump (n : Nat) (b : Bool) : (s.setValve n b).pump = s.pump := rfl
@[simp] theorem State.setValve_events (n : Nat) (b : Bool) : (s.setValve n b).events = s.events := rfl
@[simp] theorem State.setValve_lost (n : Nat) (b : Bool) : (s.setValve n b).lost = s.lost := rfl
@[simp] theorem State.setValve_pending (n : Nat) (b : Bool) : (s.setValve n b).pending = s.pending := rfl

/-! ### setRack -/

@[simp] theorem State.setRack_run (k : Nat) (r : Rack) : (s.setRack k r).run = s.run := rfl
@[simp] theorem State.setRack_clock (k : Nat) (r : Rack) : (s.setRack k r).clock = s.clock := rfl
@[simp] theorem State.setRack_accrualDue (k : Nat) (r : Rack) : (s.setRack k r).accrualDue = s.accrualDue := rfl
@[simp] theorem State.setRack_pins (k : Nat) (r : Rack) : (s.setRack k r).pins = s.pins := rfl
@[simp] theorem State.setRack_out (k : Nat) (r : Rack) : (s.setRack k r).out = s.out := rfl
@[simp] theorem State.setRack_cfg (k : Nat) (r : Rack) : (s.setRack k r).cfg = s.cfg := rfl
@[simp] theorem State.setRack_nv (k : Nat) (r : Rack) : (s.setRack k r).nv = s.nv := rfl
@[simp] theorem State.setRack_storeWrite (k : Nat) (r : Rack) : (s.setRack k r).storeWrite = s.storeWrite := rfl
@[simp] theorem State.setRack_link (k : Nat) (r : Rack) : (s.setRack k r).link = s.link := rfl
@[simp] theorem State.setRack_line (k : Nat) (r : Rack) : (s.setRack k r).line = s.line := rfl
@[simp] theorem State.setRack_slots (k : Nat) (r : Rack) : (s.setRack k r).slots = s.slots.set k (some r) := rfl
@[simp] theorem State.setRack_completions (k : Nat) (r : Rack) : (s.setRack k r).completions = s.completions := rfl
@[simp] theorem State.setRack_schedule (k : Nat) (r : Rack) : (s.setRack k r).schedule = s.schedule := rfl
@[simp] theorem State.setRack_timelines (k : Nat) (r : Rack) : (s.setRack k r).timelines = s.timelines := rfl
@[simp] theorem State.setRack_deferred (k : Nat) (r : Rack) : (s.setRack k r).deferred = s.deferred := rfl
@[simp] theorem State.setRack_evacOrder (k : Nat) (r : Rack) : (s.setRack k r).evacOrder = s.evacOrder := rfl
@[simp] theorem State.setRack_driver (k : Nat) (r : Rack) : (s.setRack k r).driver = s.driver := rfl
@[simp] theorem State.setRack_cradles (k : Nat) (r : Rack) : (s.setRack k r).cradles = s.cradles := rfl
@[simp] theorem State.setRack_plans (k : Nat) (r : Rack) : (s.setRack k r).plans = s.plans := rfl
@[simp] theorem State.setRack_manifold (k : Nat) (r : Rack) : (s.setRack k r).manifold = s.manifold := rfl
@[simp] theorem State.setRack_baths (k : Nat) (r : Rack) : (s.setRack k r).baths = s.baths := rfl
@[simp] theorem State.setRack_deliveries (k : Nat) (r : Rack) : (s.setRack k r).deliveries = s.deliveries := rfl
@[simp] theorem State.setRack_pump (k : Nat) (r : Rack) : (s.setRack k r).pump = s.pump := rfl
@[simp] theorem State.setRack_events (k : Nat) (r : Rack) : (s.setRack k r).events = s.events := rfl
@[simp] theorem State.setRack_lost (k : Nat) (r : Rack) : (s.setRack k r).lost = s.lost := rfl
@[simp] theorem State.setRack_pending (k : Nat) (r : Rack) : (s.setRack k r).pending = s.pending := rfl

/-! ### freeSlot -/

@[simp] theorem State.freeSlot_run (k : Nat) : (s.freeSlot k).run = s.run := rfl
@[simp] theorem State.freeSlot_clock (k : Nat) : (s.freeSlot k).clock = s.clock := rfl
@[simp] theorem State.freeSlot_accrualDue (k : Nat) : (s.freeSlot k).accrualDue = s.accrualDue := rfl
@[simp] theorem State.freeSlot_pins (k : Nat) : (s.freeSlot k).pins = s.pins := rfl
@[simp] theorem State.freeSlot_out (k : Nat) : (s.freeSlot k).out = s.out := rfl
@[simp] theorem State.freeSlot_cfg (k : Nat) : (s.freeSlot k).cfg = s.cfg := rfl
@[simp] theorem State.freeSlot_nv (k : Nat) : (s.freeSlot k).nv = s.nv := rfl
@[simp] theorem State.freeSlot_storeWrite (k : Nat) : (s.freeSlot k).storeWrite = s.storeWrite := rfl
@[simp] theorem State.freeSlot_link (k : Nat) : (s.freeSlot k).link = s.link := rfl
@[simp] theorem State.freeSlot_line (k : Nat) : (s.freeSlot k).line = s.line := rfl
@[simp] theorem State.freeSlot_slots (k : Nat) : (s.freeSlot k).slots = s.slots.set k none := rfl
@[simp] theorem State.freeSlot_completions (k : Nat) : (s.freeSlot k).completions = s.completions := rfl
@[simp] theorem State.freeSlot_schedule (k : Nat) : (s.freeSlot k).schedule = s.schedule := rfl
@[simp] theorem State.freeSlot_timelines (k : Nat) : (s.freeSlot k).timelines = s.timelines := rfl
@[simp] theorem State.freeSlot_deferred (k : Nat) : (s.freeSlot k).deferred = s.deferred := rfl
@[simp] theorem State.freeSlot_evacOrder (k : Nat) : (s.freeSlot k).evacOrder = s.evacOrder := rfl
@[simp] theorem State.freeSlot_driver (k : Nat) : (s.freeSlot k).driver = s.driver := rfl
@[simp] theorem State.freeSlot_cradles (k : Nat) : (s.freeSlot k).cradles = s.cradles := rfl
@[simp] theorem State.freeSlot_plans (k : Nat) : (s.freeSlot k).plans = s.plans := rfl
@[simp] theorem State.freeSlot_manifold (k : Nat) : (s.freeSlot k).manifold = s.manifold := rfl
@[simp] theorem State.freeSlot_baths (k : Nat) : (s.freeSlot k).baths = s.baths := rfl
@[simp] theorem State.freeSlot_deliveries (k : Nat) : (s.freeSlot k).deliveries = s.deliveries := rfl
@[simp] theorem State.freeSlot_pump (k : Nat) : (s.freeSlot k).pump = s.pump := rfl
@[simp] theorem State.freeSlot_events (k : Nat) : (s.freeSlot k).events = s.events := rfl
@[simp] theorem State.freeSlot_lost (k : Nat) : (s.freeSlot k).lost = s.lost := rfl
@[simp] theorem State.freeSlot_pending (k : Nat) : (s.freeSlot k).pending = s.pending := rfl

/-! ### setDrainTarget -/

@[simp] theorem State.setDrainTarget_run (t : Option LineState) : (s.setDrainTarget t).run = s.run := rfl
@[simp] theorem State.setDrainTarget_clock (t : Option LineState) : (s.setDrainTarget t).clock = s.clock := rfl
@[simp] theorem State.setDrainTarget_accrualDue (t : Option LineState) : (s.setDrainTarget t).accrualDue = s.accrualDue := rfl
@[simp] theorem State.setDrainTarget_pins (t : Option LineState) : (s.setDrainTarget t).pins = s.pins := rfl
@[simp] theorem State.setDrainTarget_out (t : Option LineState) : (s.setDrainTarget t).out = s.out := rfl
@[simp] theorem State.setDrainTarget_cfg (t : Option LineState) : (s.setDrainTarget t).cfg = s.cfg := rfl
@[simp] theorem State.setDrainTarget_nv (t : Option LineState) : (s.setDrainTarget t).nv = s.nv := rfl
@[simp] theorem State.setDrainTarget_storeWrite (t : Option LineState) : (s.setDrainTarget t).storeWrite = s.storeWrite := rfl
@[simp] theorem State.setDrainTarget_link (t : Option LineState) : (s.setDrainTarget t).link = s.link := rfl
@[simp] theorem State.setDrainTarget_line (t : Option LineState) : (s.setDrainTarget t).line = { s.line with drainTarget := t } := rfl
@[simp] theorem State.setDrainTarget_slots (t : Option LineState) : (s.setDrainTarget t).slots = s.slots := rfl
@[simp] theorem State.setDrainTarget_completions (t : Option LineState) : (s.setDrainTarget t).completions = s.completions := rfl
@[simp] theorem State.setDrainTarget_schedule (t : Option LineState) : (s.setDrainTarget t).schedule = s.schedule := rfl
@[simp] theorem State.setDrainTarget_timelines (t : Option LineState) : (s.setDrainTarget t).timelines = s.timelines := rfl
@[simp] theorem State.setDrainTarget_deferred (t : Option LineState) : (s.setDrainTarget t).deferred = s.deferred := rfl
@[simp] theorem State.setDrainTarget_evacOrder (t : Option LineState) : (s.setDrainTarget t).evacOrder = s.evacOrder := rfl
@[simp] theorem State.setDrainTarget_driver (t : Option LineState) : (s.setDrainTarget t).driver = s.driver := rfl
@[simp] theorem State.setDrainTarget_cradles (t : Option LineState) : (s.setDrainTarget t).cradles = s.cradles := rfl
@[simp] theorem State.setDrainTarget_plans (t : Option LineState) : (s.setDrainTarget t).plans = s.plans := rfl
@[simp] theorem State.setDrainTarget_manifold (t : Option LineState) : (s.setDrainTarget t).manifold = s.manifold := rfl
@[simp] theorem State.setDrainTarget_baths (t : Option LineState) : (s.setDrainTarget t).baths = s.baths := rfl
@[simp] theorem State.setDrainTarget_deliveries (t : Option LineState) : (s.setDrainTarget t).deliveries = s.deliveries := rfl
@[simp] theorem State.setDrainTarget_pump (t : Option LineState) : (s.setDrainTarget t).pump = s.pump := rfl
@[simp] theorem State.setDrainTarget_events (t : Option LineState) : (s.setDrainTarget t).events = s.events := rfl
@[simp] theorem State.setDrainTarget_lost (t : Option LineState) : (s.setDrainTarget t).lost = s.lost := rfl
@[simp] theorem State.setDrainTarget_pending (t : Option LineState) : (s.setDrainTarget t).pending = s.pending := rfl

/-! ### hunt -/

@[simp] theorem State.hunt_run : (s.hunt).run = s.run := rfl
@[simp] theorem State.hunt_clock : (s.hunt).clock = s.clock := rfl
@[simp] theorem State.hunt_accrualDue : (s.hunt).accrualDue = s.accrualDue := rfl
@[simp] theorem State.hunt_pins : (s.hunt).pins = s.pins := rfl
@[simp] theorem State.hunt_out : (s.hunt).out = s.out := rfl
@[simp] theorem State.hunt_cfg : (s.hunt).cfg = s.cfg := rfl
@[simp] theorem State.hunt_nv : (s.hunt).nv = s.nv := rfl
@[simp] theorem State.hunt_storeWrite : (s.hunt).storeWrite = s.storeWrite := rfl
@[simp] theorem State.hunt_link : (s.hunt).link = { s.link with path := .hunting, rx := [] } := rfl
@[simp] theorem State.hunt_line : (s.hunt).line = s.line := rfl
@[simp] theorem State.hunt_slots : (s.hunt).slots = s.slots := rfl
@[simp] theorem State.hunt_completions : (s.hunt).completions = s.completions := rfl
@[simp] theorem State.hunt_schedule : (s.hunt).schedule = s.schedule := rfl
@[simp] theorem State.hunt_timelines : (s.hunt).timelines = s.timelines := rfl
@[simp] theorem State.hunt_deferred : (s.hunt).deferred = s.deferred := rfl
@[simp] theorem State.hunt_evacOrder : (s.hunt).evacOrder = s.evacOrder := rfl
@[simp] theorem State.hunt_driver : (s.hunt).driver = s.driver := rfl
@[simp] theorem State.hunt_cradles : (s.hunt).cradles = s.cradles := rfl
@[simp] theorem State.hunt_plans : (s.hunt).plans = s.plans := rfl
@[simp] theorem State.hunt_manifold : (s.hunt).manifold = s.manifold := rfl
@[simp] theorem State.hunt_baths : (s.hunt).baths = s.baths := rfl
@[simp] theorem State.hunt_deliveries : (s.hunt).deliveries = s.deliveries := rfl
@[simp] theorem State.hunt_pump : (s.hunt).pump = s.pump := rfl
@[simp] theorem State.hunt_events : (s.hunt).events = s.events := rfl
@[simp] theorem State.hunt_lost : (s.hunt).lost = s.lost := rfl
@[simp] theorem State.hunt_pending : (s.hunt).pending = s.pending := rfl

/-! ### drive: the outputs alone -/

@[simp] theorem State.drive_run : s.drive.run = s.run := by unfold State.drive; split <;> rfl
@[simp] theorem State.drive_clock : s.drive.clock = s.clock := by unfold State.drive; split <;> rfl
@[simp] theorem State.drive_accrualDue : s.drive.accrualDue = s.accrualDue := by unfold State.drive; split <;> rfl
@[simp] theorem State.drive_pins : s.drive.pins = s.pins := by unfold State.drive; split <;> rfl
@[simp] theorem State.drive_cfg : s.drive.cfg = s.cfg := by unfold State.drive; split <;> rfl
@[simp] theorem State.drive_nv : s.drive.nv = s.nv := by unfold State.drive; split <;> rfl
@[simp] theorem State.drive_storeWrite : s.drive.storeWrite = s.storeWrite := by unfold State.drive; split <;> rfl
@[simp] theorem State.drive_link : s.drive.link = s.link := by unfold State.drive; split <;> rfl
@[simp] theorem State.drive_line : s.drive.line = s.line := by unfold State.drive; split <;> rfl
@[simp] theorem State.drive_slots : s.drive.slots = s.slots := by unfold State.drive; split <;> rfl
@[simp] theorem State.drive_completions : s.drive.completions = s.completions := by unfold State.drive; split <;> rfl
@[simp] theorem State.drive_schedule : s.drive.schedule = s.schedule := by unfold State.drive; split <;> rfl
@[simp] theorem State.drive_timelines : s.drive.timelines = s.timelines := by unfold State.drive; split <;> rfl
@[simp] theorem State.drive_deferred : s.drive.deferred = s.deferred := by unfold State.drive; split <;> rfl
@[simp] theorem State.drive_evacOrder : s.drive.evacOrder = s.evacOrder := by unfold State.drive; split <;> rfl
@[simp] theorem State.drive_driver : s.drive.driver = s.driver := by unfold State.drive; split <;> rfl
@[simp] theorem State.drive_cradles : s.drive.cradles = s.cradles := by unfold State.drive; split <;> rfl
@[simp] theorem State.drive_plans : s.drive.plans = s.plans := by unfold State.drive; split <;> rfl
@[simp] theorem State.drive_manifold : s.drive.manifold = s.manifold := by unfold State.drive; split <;> rfl
@[simp] theorem State.drive_baths : s.drive.baths = s.baths := by unfold State.drive; split <;> rfl
@[simp] theorem State.drive_deliveries : s.drive.deliveries = s.deliveries := by unfold State.drive; split <;> rfl
@[simp] theorem State.drive_pump : s.drive.pump = s.pump := by unfold State.drive; split <;> rfl
@[simp] theorem State.drive_events : s.drive.events = s.events := by unfold State.drive; split <;> rfl
@[simp] theorem State.drive_lost : s.drive.lost = s.lost := by unfold State.drive; split <;> rfl
@[simp] theorem State.drive_pending : s.drive.pending = s.pending := by unfold State.drive; split <;> rfl

/-! ### post: the event queue and the lost count alone -/

@[simp] theorem State.post_run (k : EventKind) (a b c d : Nat) : (s.post k a b c d).run = s.run := by
  unfold State.post; split <;> rfl
@[simp] theorem State.post_clock (k : EventKind) (a b c d : Nat) : (s.post k a b c d).clock = s.clock := by
  unfold State.post; split <;> rfl
@[simp] theorem State.post_accrualDue (k : EventKind) (a b c d : Nat) : (s.post k a b c d).accrualDue = s.accrualDue := by
  unfold State.post; split <;> rfl
@[simp] theorem State.post_pins (k : EventKind) (a b c d : Nat) : (s.post k a b c d).pins = s.pins := by
  unfold State.post; split <;> rfl
@[simp] theorem State.post_out (k : EventKind) (a b c d : Nat) : (s.post k a b c d).out = s.out := by
  unfold State.post; split <;> rfl
@[simp] theorem State.post_cfg (k : EventKind) (a b c d : Nat) : (s.post k a b c d).cfg = s.cfg := by
  unfold State.post; split <;> rfl
@[simp] theorem State.post_nv (k : EventKind) (a b c d : Nat) : (s.post k a b c d).nv = s.nv := by
  unfold State.post; split <;> rfl
@[simp] theorem State.post_storeWrite (k : EventKind) (a b c d : Nat) : (s.post k a b c d).storeWrite = s.storeWrite := by
  unfold State.post; split <;> rfl
@[simp] theorem State.post_link (k : EventKind) (a b c d : Nat) : (s.post k a b c d).link = s.link := by
  unfold State.post; split <;> rfl
@[simp] theorem State.post_line (k : EventKind) (a b c d : Nat) : (s.post k a b c d).line = s.line := by
  unfold State.post; split <;> rfl
@[simp] theorem State.post_slots (k : EventKind) (a b c d : Nat) : (s.post k a b c d).slots = s.slots := by
  unfold State.post; split <;> rfl
@[simp] theorem State.post_completions (k : EventKind) (a b c d : Nat) : (s.post k a b c d).completions = s.completions := by
  unfold State.post; split <;> rfl
@[simp] theorem State.post_schedule (k : EventKind) (a b c d : Nat) : (s.post k a b c d).schedule = s.schedule := by
  unfold State.post; split <;> rfl
@[simp] theorem State.post_timelines (k : EventKind) (a b c d : Nat) : (s.post k a b c d).timelines = s.timelines := by
  unfold State.post; split <;> rfl
@[simp] theorem State.post_deferred (k : EventKind) (a b c d : Nat) : (s.post k a b c d).deferred = s.deferred := by
  unfold State.post; split <;> rfl
@[simp] theorem State.post_evacOrder (k : EventKind) (a b c d : Nat) : (s.post k a b c d).evacOrder = s.evacOrder := by
  unfold State.post; split <;> rfl
@[simp] theorem State.post_driver (k : EventKind) (a b c d : Nat) : (s.post k a b c d).driver = s.driver := by
  unfold State.post; split <;> rfl
@[simp] theorem State.post_cradles (k : EventKind) (a b c d : Nat) : (s.post k a b c d).cradles = s.cradles := by
  unfold State.post; split <;> rfl
@[simp] theorem State.post_plans (k : EventKind) (a b c d : Nat) : (s.post k a b c d).plans = s.plans := by
  unfold State.post; split <;> rfl
@[simp] theorem State.post_manifold (k : EventKind) (a b c d : Nat) : (s.post k a b c d).manifold = s.manifold := by
  unfold State.post; split <;> rfl
@[simp] theorem State.post_baths (k : EventKind) (a b c d : Nat) : (s.post k a b c d).baths = s.baths := by
  unfold State.post; split <;> rfl
@[simp] theorem State.post_deliveries (k : EventKind) (a b c d : Nat) : (s.post k a b c d).deliveries = s.deliveries := by
  unfold State.post; split <;> rfl
@[simp] theorem State.post_pump (k : EventKind) (a b c d : Nat) : (s.post k a b c d).pump = s.pump := by
  unfold State.post; split <;> rfl
@[simp] theorem State.post_pending (k : EventKind) (a b c d : Nat) : (s.post k a b c d).pending = s.pending := by
  unfold State.post; split <;> rfl

end Sys2Proof.Machine
end

