-- ==== Sys2Proof/Laws/Tables.lean ====
section
/-! SUPPORT. The tables by number: what is read after a write, in the place written and in every other. -/

namespace Sys2Proof.Machine

/-! ### Tables of stations -/

@[simp] theorem setStation_length {α : Type} (l : List α) (n : Nat) (v : α) : (setStation l n v).length = l.length := by
  cases n <;> simp [setStation]

/-- A station of the table reads what was written to it. -/
theorem atStation_setStation_same {α : Type} (l : List α) (d v : α) {n : Nat} (h : 1 ≤ n) (hn : n ≤ l.length) :
    atStation (setStation l n v) d n = v := by
  obtain ⟨k, rfl⟩ : ∃ k, n = k + 1 := ⟨n - 1, by omega⟩
  have hk : k < l.length := by omega
  simp [atStation, setStation, List.getD_eq_getElem?_getD, hk]

/-- A write to one station leaves every other as it was. -/
theorem atStation_setStation_other {α : Type} (l : List α) (d v : α) {m n : Nat} (h : m ≠ n) :
    atStation (setStation l n v) d m = atStation l d m := by
  rcases m with _ | m
  · rfl
  rcases n with _ | n
  · rfl
  have hmn : n ≠ m := by omega
  simp [atStation, setStation, List.getD_eq_getElem?_getD, hmn]

theorem State.bath_setBath_same (s : State) (b : Bath) {n : Nat} (h : 1 ≤ n) (hn : n ≤ s.baths.length) :
    (s.setBath n b).bath n = b := atStation_setStation_same _ _ _ h hn

theorem State.bath_setBath_other (s : State) (b : Bath) {m n : Nat} (h : m ≠ n) : (s.setBath n b).bath m = s.bath m :=
  atStation_setStation_other _ _ _ h

theorem State.cradle_setCradle_same (s : State) (c : Cradle) {n : Nat} (h : 1 ≤ n) (hn : n ≤ s.cradles.length) :
    (s.setCradle n c).cradle n = c := atStation_setStation_same _ _ _ h hn

theorem State.cradle_setCradle_other (s : State) (c : Cradle) {m n : Nat} (h : m ≠ n) :
    (s.setCradle n c).cradle m = s.cradle m := atStation_setStation_other _ _ _ h

theorem State.timeline_setTimeline_same (s : State) (l : List Interval) {n : Nat} (h : 1 ≤ n)
    (hn : n ≤ s.timelines.length) : (s.setTimeline n l).timeline n = l := atStation_setStation_same _ _ _ h hn

theorem State.timeline_setTimeline_other (s : State) (l : List Interval) {m n : Nat} (h : m ≠ n) :
    (s.setTimeline n l).timeline m = s.timeline m := atStation_setStation_other _ _ _ h

theorem State.valve_setValve_same (s : State) (b : Bool) {n : Nat} (h : 1 ≤ n) (hn : n ≤ s.manifold.valves.length) :
    (s.setValve n b).valve n = b := atStation_setStation_same _ _ _ h hn

theorem State.valve_setValve_other (s : State) (b : Bool) {m n : Nat} (h : m ≠ n) :
    (s.setValve n b).valve m = s.valve m := atStation_setStation_other _ _ _ h

/-! ### Rack slots -/

/-- A slot in use lies in the table. -/
theorem State.rack_lt {s : State} {k : Nat} {r : Rack} (h : s.rack k = some r) : k < s.slots.length := by
  by_contra hk
  simp [State.rack, List.getD_eq_getElem?_getD, List.getElem?_eq_none (Nat.not_lt.mp hk)] at h

theorem State.rack_setRack_same (s : State) (r : Rack) {k : Nat} (h : k < s.slots.length) :
    (s.setRack k r).rack k = some r := by
  simp [State.rack, State.setRack, List.getD_eq_getElem?_getD, h]

theorem State.rack_setRack_other (s : State) (r : Rack) {j k : Nat} (h : j ≠ k) :
    (s.setRack k r).rack j = s.rack j := by
  simp [State.rack, State.setRack, List.getD_eq_getElem?_getD, Ne.symm h]

@[simp] theorem State.rack_freeSlot_same (s : State) (k : Nat) : (s.freeSlot k).rack k = none := by
  by_cases h : k < s.slots.length <;> simp [State.rack, State.freeSlot, List.getD_eq_getElem?_getD, h]

theorem State.rack_freeSlot_other (s : State) {j k : Nat} (h : j ≠ k) : (s.freeSlot k).rack j = s.rack j := by
  simp [State.rack, State.freeSlot, List.getD_eq_getElem?_getD, Ne.symm h]

/-- A rack of the list stands in its slot, and every rack of the table is in the list. -/
theorem State.mem_racks {s : State} {k : Nat} {r : Rack} : (k, r) ∈ s.racks ↔ k < 24 ∧ s.rack k = some r := by
  simp [State.racks, allSlots, List.mem_filterMap]

/-! ### The schedule -/

theorem mem_insertEntry {m e : Entry} {l : List Entry} : m ∈ insertEntry e l ↔ m = e ∨ m ∈ l := by
  induction l with
  | nil => simp [insertEntry]
  | cons x xs ih =>
    unfold insertEntry
    split
    · simp
    · simp [ih, or_left_comm]

/-- What remains of a schedule: the entries of other racks, and an EXECUTING one. -/
theorem mem_dropBooked {m : Entry} {slot : Nat} {l : List Entry} :
    m ∈ dropBooked slot l ↔ m ∈ l ∧ (m.slot ≠ slot ∨ m.executing = true) := by
  by_cases h : m.slot = slot <;> simp [dropBooked, Entry.bookedFor, h]

/-- A booking adds every move of a chain and removes nothing (R89). -/
theorem mem_insertAll {m : Entry} {es l : List Entry} :
    m ∈ es.foldl (fun l e => insertEntry e l) l ↔ m ∈ l ∨ m ∈ es := by
  induction es generalizing l with
  | nil => simp
  | cons e es ih => simp only [List.foldl_cons, ih, mem_insertEntry, List.mem_cons]; tauto

end Sys2Proof.Machine
end

