-- ==== Sys2Proof/Laws/Ops.lean ====
section
/-! SUPPORT. For each shared operation, once, everything it can do: events, the outputs after a command, the course of a
request, the passages of the line state. -/

namespace Sys2Proof.Machine

/-! ### Events -/

/-- A posted event is appended, or the queue is full and the lost count rises. -/
theorem State.post_cases (s : State) (k : EventKind) (a b c d : Nat) :
    (s.events.length < 64 ∧ s.post k a b c d = { s with events := s.events ++ [⟨s.clock, k, a, b, c, d⟩] }) ∨
    (64 ≤ s.events.length ∧ s.post k a b c d = { s with lost := min (s.lost + 1) 255 }) := by
  by_cases h : s.events.length < 64
  · exact .inl ⟨h, by simp [State.post, Config.eventCapacity, h]⟩
  · exact .inr ⟨by omega, by simp [State.post, Config.eventCapacity, h]⟩

/-- Posting changes the event queue and the lost count alone. -/
theorem State.post_eq (s : State) (k : EventKind) (a b c d : Nat) :
    s.post k a b c d = { s with events := (s.post k a b c d).events, lost := (s.post k a b c d).lost } := by
  unfold State.post; split <;> rfl

/-! ### Every command -/

/-- Driving changes the outputs alone. -/
theorem State.drive_eq (s : State) : s.drive = { s with out := s.drive.out } := by unfold State.drive; split <;> rfl

/-- In a running part the outputs are those of the state. -/
theorem State.drive_running {s : State} (h : s.run = .running) : s.drive = { s with out := s.outputs } := by
  simp [State.drive, h]

/-- In a running part a command latches the pins, has its effect and drives the outputs. -/
theorem event_running {s : State} (h : s.run = .running) (inp : Inputs) (f : State → State) :
    event inp f s = .next (f (s.latch inp)).drive := by simp [event, h, RunState.live]

/-- While the settings are loaded a command is taken in the same way. -/
theorem event_loading {s : State} {cause : ResetCause} (h : s.run = .loading cause) (inp : Inputs) (f : State → State) :
    event inp f s = .next (f (s.latch inp)).drive := by simp [event, h, RunState.live]

/-- Without power, or held by RESET, a command does nothing. -/
theorem event_dead {s : State} (h : s.run = .off ∨ s.run = .held) (inp : Inputs) (f : State → State) :
    event inp f s = .next s := by rcases h with h | h <;> simp [event, h, RunState.live]

/-- A command answers a next state, whatever it does. -/
theorem event_answers (s : State) (inp : Inputs) (f : State → State) : ∃ t, event inp f s = .next t := by
  unfold event; split <;> exact ⟨_, rfl⟩

/-! ### Requests -/

/-- The acceptance of a frame: the path closes, LINK_LOST goes with its event, the watchdog restarts; nothing but the link,
the event queue and the lost count changes. -/
theorem State.accept_eq (s : State) (kind : Byte) (f : Frame) :
    s.accept kind f = { s with
      link := { s.link with
        path := .closed, rx := frameBytes f.addr f.tag kind f.payload f.check, lost := false,
        watchdog := .start s.cfg.line.linkTimeout s.clock }
      events := (s.accept kind f).events
      lost := (s.accept kind f).lost } := by
  unfold State.accept State.touchWatchdog
  by_cases h : s.link.lost = true
  · simp only [h, if_true, State.restartWatchdog, State.postLine]
    conv_lhs => rw [State.post_eq]
  · simp only [Bool.not_eq_true] at h
    simp [h, State.restartWatchdog]

/-- A frame that the path can take is judged as a whole (R156). -/
theorem State.takeFrame_taken {s : State} {kind : Byte} {f : Frame} (h : s.takes kind f) (whole : State → State) :
    s.takeFrame kind f whole = whole s := by
  unfold State.takeFrame State.awaits
  rcases h with h | ⟨h, hp⟩
  · simp [h]
  · simp [h, List.isPrefixOf_iff_prefix.mpr hp]

/-- An intact request for this unit reaches its owner over the length check (R160). -/
theorem State.telegram_heard {s : State} {kind : Byte} {f : Frame} (h : s.hears kind f)
    (hk : isRequestKind kind = true) (inp : Inputs) :
    event inp (fun t => t.telegram kind f) s =
      .next (if (catalogue kind).1 f.payload = true then
        (((catalogue kind).2 f.payload (s.taken kind f inp)).1.answer kind f
          ((catalogue kind).2 f.payload (s.taken kind f inp)).2).drive
      else ((s.taken kind f inp).answer kind f (resultByte .badLength)).drive) := by
  obtain ⟨hr, hp, hl, hi, ha⟩ := h
  rw [event_running hr]
  have ht : (s.latch inp).takes kind f := hp
  have hn : ¬ (200 < f.payload.length ∨ frameIntact kind f = false) := by simp [hi, hl]
  have hj : (s.latch inp).judgeFrame kind f = (s.latch inp).serve kind f (catalogue kind).1 (catalogue kind).2 := by
    have haddr : (s.latch inp).addressed f = true := by simp [State.addressed, ha]
    rw [State.judgeFrame, State.endFrame, if_neg hn, haddr, hk, Bool.and_true, if_pos rfl]
  rw [State.telegram, State.takeFrame_taken ht, hj]
  simp only [State.serve, State.taken]
  split <;> rfl

/-- An owner that leaves the state as it is makes a command that only answers. -/
theorem State.onlyAnswered_refuse (s : State) (kind : Byte) (f : Frame) (inp : Inputs) (payload : List Byte) :
    s.onlyAnswered ((s.taken kind f inp).answer kind f payload).drive kind f inp payload := by
  unfold State.onlyAnswered
  conv_lhs => rw [State.drive_eq]
  have h : (s.taken kind f inp).link.addr = s.link.addr := by
    unfold State.taken; rw [State.accept_eq]; rfl
  simp only [State.answer, State.replying, replyKind, h]

/-! ### The line state -/

/-- A passage of the line state enters the state asked for, whatever follows it. -/
theorem State.enterLine_state (s : State) (st : LineState) (cause : LineCause) :
    (s.enterLine st cause).line.state = st := by
  have hs : ∀ u : State, (u.applyBursts).line = u.line := by
    intro u
    unfold State.applyBursts
    simp only [State.postLine]
    split
    · simp
    · split <;> simp
  have hm : ∀ u : State, (u.followLineState st).line = u.line := by
    intro u
    have hstop : u.stopManifold.line = u.line := by
      unfold State.stopManifold
      by_cases h : u.manifold.applyPending = true
      · simp [State.closeValves, h, hs]
      · simp [State.closeValves, h]
    unfold State.followLineState
    split <;> split <;> first | rfl | exact hstop
  unfold State.enterLine State.stopPump
  simp only [State.postLine]
  split <;> simp [hm]

end Sys2Proof.Machine
end

