-- ==== Sys2Proof/Laws/PerInstr.lean ====
section
/-! SUPPORT. What holds of every command as syntax, one lemma for each constructor: a well-formed command brings
well-formed pins (R2, R4, R15). -/

namespace Sys2Proof.Laws.Pins

/-- The pins a command brings. -/
def pinsOf : Instr → Inputs
  | .powerOn _ inp => inp
  | .resetAsserted _ inp => inp
  | .resetReleased inp => inp
  | .startupLoadDone inp => inp
  | .lineSecond _ inp => inp
  | .intervalExpiry _ _ inp => inp
  | .overstay _ inp => inp
  | .warmupTimeout inp => inp
  | .moveStart inp => inp
  | .carriageArrival inp => inp
  | .hoistUpLimit inp => inp
  | .drainEnd inp => inp
  | .hoistDownLimit inp => inp
  | .hookFall inp => inp
  | .phaseTimeout inp => inp
  | .dunkDue _ inp => inp
  | .cradleUpLimit _ inp => inp
  | .dunkOutEnd _ inp => inp
  | .cradleDownLimit _ inp => inp
  | .cradleTimeout _ inp => inp
  | .frameWrap inp => inp
  | .burstOnTick _ inp => inp
  | .burstOffTick _ inp => inp
  | .gasPressureChange inp => inp
  | .pumpStart inp => inp
  | .pumpFlowFault inp => inp
  | .pumpRunComplete inp => inp
  | .storeWriteEnd _ inp => inp
  | .linkWatchdogExpiry inp => inp
  | .frameGap inp => inp
  | .byteDropped inp => inp
  | .frameLengthDiscard _ inp => inp
  | .frameCheckFailed _ _ inp => inp
  | .framePassedOver _ _ inp => inp
  | .unknownRequestKind _ _ inp => inp
  | .replySent inp => inp
  | .identify _ inp => inp
  | .status _ inp => inp
  | .setLine _ inp => inp
  | .setStation _ inp => inp
  | .stationService _ inp => inp
  | .setCurve _ inp => inp
  | .setRecipe _ inp => inp
  | .setPattern _ inp => inp
  | .setBursts _ inp => inp
  | .setRoute _ inp => inp
  | .setExhaustion _ inp => inp
  | .readSetting _ inp => inp
  | .store _ inp => inp
  | .restart _ inp => inp
  | .mode _ inp => inp
  | .admitRack _ inp => inp
  | .abandon _ inp => inp
  | .evacuate _ inp => inp
  | .carriageClear _ inp => inp
  | .clearFlags _ inp => inp
  | .clearLink _ inp => inp
  | .readRack _ inp => inp
  | .readStation _ inp => inp
  | .readSchedule _ inp => inp
  | .readTimeline _ inp => inp
  | .readEvents _ inp => inp
  | .readCompletions _ inp => inp
  | .powerLoss _ inp => inp
  | .manifoldTick inp => inp
  | .leadByteReceived _ inp => inp

/-- A well-formed command brings the pins of sixteen stations, a code of at most 16 and a strap value of at most 31. -/
def Statement (i : Instr) : Prop :=
  i.wf = true → (pinsOf i).stations.length = 16 ∧ (pinsOf i).atStation ≤ 16 ∧ (pinsOf i).straps ≤ 31

/-- Well-formed pins have the three properties. -/
theorem pins_wf {inp : Inputs} (h : inp.wf = true) :
    inp.stations.length = 16 ∧ inp.atStation ≤ 16 ∧ inp.straps ≤ 31 := by
  simpa [Inputs.wf, and_assoc] using h

/-- The last check of a well-formed command is that of its pins. -/
theorem pins_wf_right {b : Bool} {inp : Inputs} (h : (b && inp.wf) = true) :
    inp.stations.length = 16 ∧ inp.atStation ≤ 16 ∧ inp.straps ≤ 31 :=
  pins_wf (Bool.and_eq_true_iff.mp h).2

theorem powerOn (wrote) (inp) : Statement (.powerOn wrote inp) := pins_wf
theorem resetAsserted (wrote) (inp) : Statement (.resetAsserted wrote inp) := pins_wf
theorem resetReleased (inp) : Statement (.resetReleased inp) := pins_wf
theorem startupLoadDone (inp) : Statement (.startupLoadDone inp) := pins_wf
theorem lineSecond (order) (inp) : Statement (.lineSecond order inp) := pins_wf_right
theorem intervalExpiry (station) (index) (inp) : Statement (.intervalExpiry station index inp) := pins_wf_right
theorem overstay (slot) (inp) : Statement (.overstay slot inp) := pins_wf_right
theorem warmupTimeout (inp) : Statement (.warmupTimeout inp) := pins_wf
theorem moveStart (inp) : Statement (.moveStart inp) := pins_wf
theorem carriageArrival (inp) : Statement (.carriageArrival inp) := pins_wf
theorem hoistUpLimit (inp) : Statement (.hoistUpLimit inp) := pins_wf
theorem drainEnd (inp) : Statement (.drainEnd inp) := pins_wf
theorem hoistDownLimit (inp) : Statement (.hoistDownLimit inp) := pins_wf
theorem hookFall (inp) : Statement (.hookFall inp) := pins_wf
theorem phaseTimeout (inp) : Statement (.phaseTimeout inp) := pins_wf
theorem dunkDue (slot) (inp) : Statement (.dunkDue slot inp) := pins_wf_right
theorem cradleUpLimit (station) (inp) : Statement (.cradleUpLimit station inp) := pins_wf_right
theorem dunkOutEnd (station) (inp) : Statement (.dunkOutEnd station inp) := pins_wf_right
theorem cradleDownLimit (station) (inp) : Statement (.cradleDownLimit station inp) := pins_wf_right
theorem cradleTimeout (station) (inp) : Statement (.cradleTimeout station inp) := pins_wf_right
theorem frameWrap (inp) : Statement (.frameWrap inp) := pins_wf
theorem burstOnTick (station) (inp) : Statement (.burstOnTick station inp) := pins_wf_right
theorem burstOffTick (station) (inp) : Statement (.burstOffTick station inp) := pins_wf_right
theorem gasPressureChange (inp) : Statement (.gasPressureChange inp) := pins_wf
theorem pumpStart (inp) : Statement (.pumpStart inp) := pins_wf
theorem pumpFlowFault (inp) : Statement (.pumpFlowFault inp) := pins_wf
theorem pumpRunComplete (inp) : Statement (.pumpRunComplete inp) := pins_wf
theorem storeWriteEnd (good) (inp) : Statement (.storeWriteEnd good inp) := pins_wf
theorem linkWatchdogExpiry (inp) : Statement (.linkWatchdogExpiry inp) := pins_wf
theorem frameGap (inp) : Statement (.frameGap inp) := pins_wf
theorem byteDropped (inp) : Statement (.byteDropped inp) := pins_wf
theorem frameLengthDiscard (length) (inp) : Statement (.frameLengthDiscard length inp) := pins_wf_right
theorem frameCheckFailed (kind) (f) (inp) : Statement (.frameCheckFailed kind f inp) := pins_wf_right
theorem framePassedOver (kind) (f) (inp) : Statement (.framePassedOver kind f inp) := pins_wf_right
theorem unknownRequestKind (kind) (f) (inp) : Statement (.unknownRequestKind kind f inp) := pins_wf_right
theorem replySent (inp) : Statement (.replySent inp) := pins_wf
theorem identify (f) (inp) : Statement (.identify f inp) := pins_wf_right
theorem status (f) (inp) : Statement (.status f inp) := pins_wf_right
theorem setLine (f) (inp) : Statement (.setLine f inp) := pins_wf_right
theorem setStation (f) (inp) : Statement (.setStation f inp) := pins_wf_right
theorem stationService (f) (inp) : Statement (.stationService f inp) := pins_wf_right
theorem setCurve (f) (inp) : Statement (.setCurve f inp) := pins_wf_right
theorem setRecipe (f) (inp) : Statement (.setRecipe f inp) := pins_wf_right
theorem setPattern (f) (inp) : Statement (.setPattern f inp) := pins_wf_right
theorem setBursts (f) (inp) : Statement (.setBursts f inp) := pins_wf_right
theorem setRoute (f) (inp) : Statement (.setRoute f inp) := pins_wf_right
theorem setExhaustion (f) (inp) : Statement (.setExhaustion f inp) := pins_wf_right
theorem readSetting (f) (inp) : Statement (.readSetting f inp) := pins_wf_right
theorem store (f) (inp) : Statement (.store f inp) := pins_wf_right
theorem restart (f) (inp) : Statement (.restart f inp) := pins_wf_right
theorem mode (f) (inp) : Statement (.mode f inp) := pins_wf_right
theorem admitRack (f) (inp) : Statement (.admitRack f inp) := pins_wf_right
theorem abandon (f) (inp) : Statement (.abandon f inp) := pins_wf_right
theorem evacuate (f) (inp) : Statement (.evacuate f inp) := pins_wf_right
theorem carriageClear (f) (inp) : Statement (.carriageClear f inp) := pins_wf_right
theorem clearFlags (f) (inp) : Statement (.clearFlags f inp) := pins_wf_right
theorem clearLink (f) (inp) : Statement (.clearLink f inp) := pins_wf_right
theorem readRack (f) (inp) : Statement (.readRack f inp) := pins_wf_right
theorem readStation (f) (inp) : Statement (.readStation f inp) := pins_wf_right
theorem readSchedule (f) (inp) : Statement (.readSchedule f inp) := pins_wf_right
theorem readTimeline (f) (inp) : Statement (.readTimeline f inp) := pins_wf_right
theorem readEvents (f) (inp) : Statement (.readEvents f inp) := pins_wf_right
theorem readCompletions (f) (inp) : Statement (.readCompletions f inp) := pins_wf_right
theorem powerLoss (wrote) (inp) : Statement (.powerLoss wrote inp) := pins_wf
theorem manifoldTick (inp) : Statement (.manifoldTick inp) := pins_wf
theorem leadByteReceived (b) (inp) : Statement (.leadByteReceived b inp) := pins_wf

end Sys2Proof.Laws.Pins
end

