-- ==== Sys2Proof/Tests/Slice0.lean ====
section
/-! SUPPORT. Small tests. The first part holds ill-formed commands that `Instr.wf` refuses, and figures the manual works
out. The second part shows, for every statement with hypotheses, a concrete state and operands that meet them. -/

namespace Sys2Proof.Tests

-- The theorems are small, and one after another they need one thread instead of one each.
set_option Elab.async false

open Sys2Proof.Machine

/-! ### Helpers -/

/-- Sixteen stations at rest: no rack, 20.0 degrees, the cradles down. -/
def still : List StationIn := List.replicate 16 ⟨false, 200, false, false, false, true⟩

/-- The pins of a line at rest, the trolley over a station. -/
def pinsAt (n : Nat) : Inputs :=
  { quietInputs with stations := still, atStation := n, hoistDown := true, gasOk := true, straps := 7 }

/-- The pins with one station's levels changed. -/
def withStation (inp : Inputs) (n : Nat) (f : StationIn → StationIn) : Inputs :=
  { inp with stations := inp.stations.modify (n - 1) f }

/-- The pins with a rack shown at a station. -/
def withRackAt (inp : Inputs) (n : Nat) : Inputs := withStation inp n fun i => { i with presence := true }

/-- A frame for unit 1 with tag 1 and its check. -/
def frame (kind : Byte) (payload : List Byte) : Frame :=
  { addr := 1, tag := 1, payload := payload, check := crc16 (checkedBytes 1 1 kind payload) }

/-- A frame with a check that does not match. -/
def spoilt (kind : Byte) (payload : List Byte) : Frame :=
  { frame kind payload with check := (frame kind payload).check ^^^ 1 }

/-- The state a command leaves, or the state before it when it does not answer one. -/
def after (c : Instr) (s : State) : State :=
  match exec c s with
  | .next t => t
  | .fault _ | .refused _ => s

/-- The payload of the reply a request leaves. -/
def answer (c : Instr) (s : State) : Option (List Byte) := (after c s).link.reply.map (·.payload)

/-- A station of a role and group. -/
def stationOf (role : Role) (group : Nat) : StationCfg :=
  { StationCfg.factory with role := role, group := group, exhPerLoad := 5, mlPerLoad := 40 }

/-- The curve of 2.6. -/
def curve26 : Curve :=
  ⟨200, [560, 610, 660, 715, 770, 830, 895, 960, 1024, 1120, 1228, 1330, 1440, 1560, 1690, 1830, 1980]⟩

/-- A development of six minutes in group 1. -/
def develop1 : Sys2Proof.Machine.Step :=
  { group := 1, kind := .develop, drain := 10, pattern := some 1, nominal := 360, curve := 0, tolerance := 5,
    immersion := 0, stretch := 0 }

/-- A minute in group 2. -/
def bath2 : Sys2Proof.Machine.Step :=
  { group := 2, kind := .bath, drain := 5, pattern := none, nominal := 0, curve := 0, tolerance := 0, immersion := 60,
    stretch := 30 }

/-- The pattern of 2.6. -/
def pattern26 : Pattern :=
  { mode := .both, initialCount := 3, initialInterval := 10, period := 60, outTime := 5, quiet := 15, everyN := 2 }

/-- A line of six stations: 1 LOAD, 2 and 3 DEVELOP in group 1, 4 BATH in group 2, 5 and 6 UNLOAD. -/
def settings : Settings :=
  { Settings.factory with
    line := { LineCfg.factory with count := 6, tp := 20, threshold := 1, lostAction := .drain }
    stations := [stationOf .load 0, stationOf .develop 1, stationOf .develop 1, stationOf .bath 2, stationOf .unload 0,
      stationOf .unload 0] ++ List.replicate 10 .factory
    curves := [some curve26, none, none, none]
    recipes := [[develop1, bath2], [], [], [], [], [], [], []]
    patterns := [.factory, pattern26, .factory, .factory, .factory, .factory, .factory, .factory]
    live := (List.replicate 16 Burst.factory).set 1 ⟨true, 20, 40⟩ }

/-- A bath at 20.0 degrees. -/
def warm : Bath := { filtered := some 200, lastAccepted := some 200, history := [200] }

/-- That line, READY at second 1000 with nothing on it, the trolley over station 1. -/
def part : State :=
  { State.reset with
    run := .running, clock := 1000, pins := pinsAt 1, cfg := settings
    link := { Link.reset with path := .hunting }
    line := { Line.reset with state := .ready }
    baths := [{}, warm, warm, warm] ++ List.replicate 12 {}
    cradles := [⟨.none, 0, 0⟩, ⟨.down, 0, 0⟩, ⟨.down, 0, 0⟩, ⟨.down, 0, 0⟩] ++ List.replicate 12 ⟨.none, 0, 0⟩
    manifold := { Manifold.reset with running := true, staged := settings.live } }

/-- A line at rest in a line state. -/
def partIn (st : LineState) : State := { part with line := { part.line with state := st } }

/-- A rack of recipe 0 in a phase, step and station. -/
def rackIn (phase : Phase) (step station : Nat) : Rack :=
  { tag := 41, recipe := some 0, scale := 100, load := 12, loadStation := 1, phase := phase, step := step,
    station := station, immersion := some 900, dose := 0, target := 368640, rate := 1024, heldRate := 0,
    predicted := none, deviations := [], nextStart := none, flags := {}, pending := .none, admitted := 800,
    entered := some 900, unload := none, ended := none, outcome := .none, slideMark := 0, overMark := 0,
    lift := none }

/-- The part with a rack in slot 0, shown at its station. -/
def holding (s : State) (r : Rack) : State :=
  (s.setRack 0 r).setBath r.station { s.bath r.station with presence := true }

/-- A move of the rack in slot 0. -/
def moveOf (index src dst start : Nat) (firm : Bool) : Entry :=
  mkEntry settings.line 0 index src dst .transfer firm start 10

/-- The part with the move of the rack in slot 0 in a phase. -/
def moving (st : DriverState) (e : Entry) : State :=
  { holding part { rackIn .onCarriage 1 0 with heldRate := 1024 } with
    schedule := [{ e with executing := true }]
    driver := { Driver.reset with state := st, position := e.src, goTo := e.src, entry := some (0, e.index),
                                  phaseStart := some 990, deadline := some 1000, upSecond := some 990 } }

/-- The part as POWER_LOSS leaves nothing of it: a reply on the line, a store write in progress. -/
def writing : State := { part with storeWrite := some settings }

/-! ### Ill-formed commands, each refused by its check -/

theorem test_wf_pins : (Instr.frameGap (pinsAt 16)).wf = true := by decide +kernel
theorem test_wf_station_count : (Instr.frameGap { pinsAt 1 with stations := still.drop 1 }).wf = false := by
  decide +kernel
theorem test_wf_station_code : (Instr.carriageArrival (pinsAt 17)).wf = false := by decide +kernel
theorem test_wf_straps : (Instr.resetReleased { pinsAt 1 with straps := 32 }).wf = false := by decide +kernel
theorem test_wf_payload : (Instr.status (frame 2 (List.replicate 201 0)) (pinsAt 1)).wf = false := by decide +kernel
theorem test_wf_station_zero : (Instr.cradleUpLimit 0 (pinsAt 1)).wf = false := by decide +kernel
theorem test_wf_station_high : (Instr.burstOnTick 17 (pinsAt 1)).wf = false := by decide +kernel
theorem test_wf_slot : (Instr.overstay 24 (pinsAt 1)).wf = false := by decide +kernel
theorem test_wf_index : (Instr.intervalExpiry 1 8 (pinsAt 1)).wf = false := by decide +kernel
theorem test_wf_order : (Instr.lineSecond [.bath, .pump, .bath] (pinsAt 1)).wf = false := by decide +kernel
theorem test_wf_length : (Instr.frameLengthDiscard 200 (pinsAt 1)).wf = false := by decide +kernel
theorem test_wf_kind : (Instr.unknownRequestKind 0x1B (frame 0x1B []) (pinsAt 1)).wf = false := by decide +kernel
theorem test_wf_reply_kind : (Instr.unknownRequestKind 0x80 (frame 0x80 []) (pinsAt 1)).wf = false := by decide +kernel

/-! ### Figures of the manual -/

/-- 12.10: the check of STATUS with tag 1 for unit 7. -/
theorem test_check : crc16 (checkedBytes 0x07 0x01 0x02 []) = 0x84BF#16 := by decide +kernel

/-- R7: the table of travel times, and the two moves worked out below it. -/
theorem test_travel : (travelTime 20 1 6, travelTime 25 2 5, travelTime 25 16 1, travelTime 20 4 4) = (10, 8, 38, 0) ∧
    moveDuration { LineCfg.factory with tp := 20 } 2 4 10 = 26 ∧
    moveDuration { LineCfg.factory with tp := 20 } 1 2 0 = 14 := by decide +kernel

/-- 3.10: the curve rate 1163, the derate 30, the rate 1128, the target 589,824 and the lift start at t + 144. -/
theorem test_rate : curve26.rateAt (curveIndex 200 214).1 = 1163 ∧ effectiveRate 1163 (derate 150 200) = 1128 ∧
    targetOf 480 120 = 589824 ∧ ceilDiv (589824 - 400000) 1128 = 169 := by decide +kernel

/-- 10.2: a unit address of 1 to 30 from the straps, otherwise 1. -/
theorem test_straps : (strapAddress 0, strapAddress 30, strapAddress 31) = (1, 30, 1) := by decide +kernel

/-- The two moves of 5.6.1 that the short line shares: the entry at 1002 and the firm lift with its span [1345, 1381). -/
theorem test_admit :
    ((after (.admitRack (frame 0x0F [0, 41, 0, 100, 12, 1, 0, 0, 0, 0]) (withRackAt (pinsAt 1) 1))
        (part.setBath 1 { presence := true })).schedule.map
      fun e => (e.src, e.dst, e.start, e.duration, e.spanStart, e.spanEnd)).take 2 =
      [(1, 2, 1002, 14, 1002, 1016), (2, 4, 1350, 26, 1345, 1381)] := by decide +kernel

/-- 5.6.1: the reply carries slot 0 and the planned entry 1002. -/
theorem test_admit_reply :
    (answer (.admitRack (frame 0x0F [0, 41, 0, 100, 12, 1, 0, 0, 0, 0]) (withRackAt (pinsAt 1) 1))
        (part.setBath 1 { presence := true })).map (·.take 6) = some [0, 0, 0, 0, 0x03, 0xEA] := by decide +kernel

/-- 3.11: a lowering into station 2 begins a development with target 368,640, completion in 360 s. -/
theorem test_down_limit :
    ((after (.hoistDownLimit (pinsAt 2))
        { moving .lower (mkEntry settings.line 0 0 1 2 .entry false 986 0) with
            slots := part.slots.set 0 (some (rackIn .onCarriage 0 0)) }).rack 0).map
      (fun r => [r.phase.code, r.step, r.dose, r.target, r.rate, r.predicted.getD 0]) =
      some [1, 1, 0, 368640, 1024, 1360] := by decide +kernel

/-- 8.4, second 101: a sample of 240 after 202 is rejected and leaves the filter. -/
theorem test_sample_rejected :
    let s := part.setBath 3 { warm with history := [201, 199, 200, 202], lastAccepted := some 202 }
    let b := (after (.lineSecond [] (withStation (pinsAt 1) 3 fun i => { i with temp := 240 })) s).bath 3
    (b.filtered, b.rejected, b.history) = (some 200, 1, [201, 199, 200, 202]) := by decide +kernel

/-- 8.4, second 105: after three rejections 240 is accepted and the mean becomes 841 div 4 = 210. -/
theorem test_sample_accepted :
    let s := part.setBath 3 { warm with history := [201, 199, 200, 202], lastAccepted := some 202, rejected := 3 }
    let t := after (.lineSecond [] (withStation (pinsAt 1) 3 fun i => { i with temp := 240 })) s
    ((t.bath 3).filtered, (t.bath 3).rejected) = (some 210, 0) := by decide +kernel

/-- R16, R17: the first load over a blank image. -/
theorem test_first_load :
    let t := after (.startupLoadDone (pinsAt 1)) State.reset
    (t.run, t.cfg, t.line.configDefaulted, t.events.map (·.kind)) =
      (.running, .factory, true, [.resetDone, .configDefaulted]) := by decide +kernel

/-- R139, 8.8: 60 ml at 500 ml/min run ceil(7.2) = 8 s. -/
theorem test_pump : ((after (.pumpStart (pinsAt 1)) { part with deliveries := [⟨2, 60, 5, 990, false⟩] }).pump) =
    some ⟨2, 1000, 8, false⟩ := by decide +kernel

/-- R118: the tick after 199 is 0 and begins the next frame. -/
theorem test_wrap : (fun m : Manifold => (m.tick, m.frame))
    (after (.manifoldTick (pinsAt 1)) { part with manifold := { part.manifold with tick := 199, frame := 65535 } }).manifold
    = (0, 0) := by decide +kernel

/-- R124: the valve opens at the on tick over a rack in development whose pattern gives a burst in an even frame. -/
theorem test_burst : ((after (.burstOnTick 2 (pinsAt 1))
    { holding part (rackIn .inBath 1 2) with manifold := { part.manifold with tick := 20, frame := 4 } }).valve 2,
  (after (.burstOnTick 2 (pinsAt 1))
    { holding part (rackIn .inBath 1 2) with manifold := { part.manifold with tick := 20, frame := 5 } }).valve 2) =
    (true, false) := by decide +kernel

/-- R28, R171: the modes of a pattern are 0 to 3. -/
theorem test_pattern_mode : PatternMode.ofCode 0 = some .none ∧ PatternMode.ofCode 3 = some .both ∧
    PatternMode.ofCode 4 = none := by decide +kernel

/-- R163: IDENTIFY. The model number 2416 is bytes 0x09 and 0x70. -/
theorem test_identify : (answer (.identify (frame 1 []) (pinsAt 1)) part).map (fun p => (p.take 3, p.drop 4)) =
    some ([0, 0x09, 0x70], [16, 24, 8, 12, 4, 4, 8, 192, 8, 24, 16, 64, 16, 8, 200, 1, 0, 0, 6]) := by decide +kernel

/-- R161: the reply carries the unit address, the tag of the request and its kind plus 0x80. -/
theorem test_reply : ((after (.clearLink (frame 0x14 []) (pinsAt 1)) part).link.reply) =
    some ⟨1, 1, 0x94, [0, 0, 0]⟩ := by decide +kernel

/-- R145: RUN in STANDBY enters WARMUP; a mode of 4 is BAD_VALUE. -/
theorem test_mode : (after (.mode (frame 0x0E [1, 0]) (pinsAt 1)) (partIn .standby)).line.state = .warmup ∧
    answer (.mode (frame 0x0E [4, 0]) (pinsAt 1)) part = some [3, 3, 0] := by decide +kernel

/-! ### Statements and their hypotheses

Each theorem below is named after its statement and shows a concrete state and operands that meet the hypotheses of the
statement, or of one of its clauses, together. -/

theorem witness_CommandsAnswerAndOnlySecondsMoveTheClock :
    (∃ t, exec (.lineSecond [] (pinsAt 1)) part = .next t ∧ t.clock = 1001) ∧
    (∃ t, exec (.powerOn true (pinsAt 1)) part = .next t ∧ t.clock = 0 ∧ t.run ≠ .running) ∧
    (∃ t, exec (.lineSecond [] (pinsAt 1)) { part with clock := 4294967295 } = .next t ∧ t.clock = 4294967295) :=
  ⟨⟨_, rfl, by decide +kernel⟩, ⟨_, rfl, by decide +kernel⟩, ⟨_, rfl, by decide +kernel⟩⟩

theorem witness_FullResetLeavesTheResetState :
    part.storeWrite = none ∧ writing.storeWrite = some settings ∧ { part with run := .held }.run = .held ∧
    (let s := after (.restart (frame 0x0D []) (pinsAt 1)) part
     s.run = .running ∧ s.link.reply ≠ none ∧ s.link.restartPending = true) := by decide +kernel

theorem witness_PowerLossAndResetHalt :
    part.run ≠ .off ∧ part.run = .running ∧ part.storeWrite = none ∧ writing.storeWrite = some settings ∧
    { part with run := .off }.run = .off ∧ State.reset.run = .loading .power := by decide +kernel

theorem witness_FailedImageLoadsTheDefaults :
    State.reset.run = .loading .power ∧ State.reset.nv = .blank ∧
    { State.reset with run := .loading .pin, nv := .damaged }.nv = .damaged ∧
    { State.reset with nv := .image settings (crc16 settings.bytes + 1) }.nv =
      .image settings (crc16 settings.bytes + 1) ∧
    crc16 settings.bytes ≠ crc16 settings.bytes + 1 :=
  ⟨rfl, rfl, rfl, rfl, by bv_omega⟩

/-- A part about to load `settings`. -/
def loading : State :=
  { State.reset with run := .loading .restart, nv := .image settings (crc16 settings.bytes) }

theorem witness_StoredImageLoads :
    loading.run = .loading .restart ∧ loading.nv = .image settings (crc16 settings.bytes) ∧
    loading.slots = List.replicate 24 none ∧ loading.baths.length = 16 ∧ loading.cradles.length = 16 ∧
    loading.clock = 0 :=
  ⟨rfl, rfl, rfl, rfl, rfl, rfl⟩

/-- R70: the first presence samples after the load replace older ones, a false one too. -/
theorem test_first_presence :
    let s : State := { part.setBath 5 { presence := true } with pins := withRackAt (pinsAt 1) 6 }
    (s.createOrphans.bath 5).presence = false ∧ (s.createOrphans.bath 6).presence = true ∧
    s.createOrphans.racks.map (fun e => (e.1, e.2.station)) = [(0, 6)] := by decide +kernel

/-- The bath of station 2 after a line second with a sample, its last accepted one 200 and the jump limit 15. -/
def sampled (temp : Nat) : Bath :=
  (after (.lineSecond [] (withStation (pinsAt 1) 2 fun i => { i with temp := temp })) part).bath 2

/-- The conditions of station 2, window 190 to 210, after a line second whose first sample is `temp`; its neighbour of the
group stands at 200, the spread limit is 10. -/
def judged (conds : FlagSet) (temp : Nat) : FlagSet :=
  ((after (.lineSecond [] (withStation (pinsAt 1) 2 fun i => { i with temp := temp }))
    (part.setBath 2 { conds := conds })).bath 2).conds

theorem witness_LineSecondSamplesEveryStation :
    part.run = .running ∧ part.baths.length = 16 ∧ part.isBath 2 = true ∧ part.isBath 4 = true ∧
    (part.stationCfg 2).jump = 15 ∧ (part.bath 2).lastAccepted = some 200 ∧
    (((sampled 215).rejected, (sampled 215).filtered) = (0, some 207) ∧
      ((sampled 216).rejected, (sampled 216).filtered) = (1, some 200) ∧
      ((sampled 600).rawValid, (sampled 600).invalid) = (true, 0) ∧
      ((sampled 601).rawValid, (sampled 601).invalid) = (false, 1)) ∧
    ((judged {} 190).tempLow, (judged {} 189).tempLow, (judged { tempLow := true } 191).tempLow,
      (judged { tempLow := true } 192).tempLow) = (false, true, true, false) ∧
    ((judged {} 210).tempHigh, (judged {} 211).tempHigh, (judged { tempHigh := true } 209).tempHigh,
      (judged { tempHigh := true } 208).tempHigh) = (false, true, true, false) ∧
    ((judged {} 210).spread, (judged {} 211).spread) = (false, true) ∧ part.groupStations (part.group 2) = [2, 3] ∧
    part.masked 2 .tempLow = false ∧ part.cond 2 .tempLow = false := by decide +kernel

theorem witness_WarmupSettlesOrTimesOut :
    (partIn .warmup).run = .running ∧ (partIn .warmup).line.state = .warmup ∧ SecondTask.carriage ∉ [] ∧
    (let s : State := { part with line := { Line.reset with state := .warmup, warmStart := some 100 }, clock := 3700 }
     s.run = .running ∧ s.line.state = .warmup ∧ s.line.warmStart = some 100 ∧
     min (100 + s.cfg.line.warmTimeout) 4294967295 ≤ s.clock ∧ s.events.length ≤ 62) := by decide +kernel

/-- A rack in slot 0 at a station, the sample true; the pins show it gone. -/
def leaving (phase : Phase) (step n : Nat) : State := holding part (rackIn phase step n)

theorem witness_PresenceFallEndsTheRack :
    ∀ p ∈ [(Phase.atUnload, 3, 5), (.waitingEntry, 0, 1), (.inBath, 2, 4), (.orphan, 0, 6)],
      (leaving p.1 p.2.1 p.2.2).run = .running ∧ 1 ≤ p.2.2 ∧ p.2.2 ≤ 16 ∧
      (leaving p.1 p.2.1 p.2.2).role p.2.2 ≠ .unused ∧
      (leaving p.1 p.2.1 p.2.2).rackAt p.2.2 = some (0, rackIn p.1 p.2.1 p.2.2) ∧
      ((leaving p.1 p.2.1 p.2.2).bath p.2.2).presence = true ∧
      ((pinsAt 1).stations.getD (p.2.2 - 1) ⟨false, 0, false, false, false, false⟩).presence = false ∧
      (let s := { leaving p.1 p.2.1 p.2.2 with evacOrder := [0] }
       (s.evacOrder = [0] ∧ (after (.lineSecond [] (pinsAt 1)) s).evacOrder = []) ∧
       (∀ st ∈ [LineState.draining, .faulted],
        let u : State := { s with line := { s.line with state := st }, driver := { s.driver with faultCleared := true } }
        u.line.state = st ∧ u.line.drainTarget = none ∧ u.driver.faultCleared = true ∧
        (∀ e ∈ u.racks, e.1 ≠ 0 → u.countsForDrain e.2 = false ∧ u.isBath e.2.station = false ∧ e.2.phase ≠ .onCarriage) ∧
        (after (.lineSecond [] (pinsAt 1)) u).line.state = (if st = .draining then .standby else .ready))) := by
  decide +kernel

/-- A rack in station 2 with its lift to station 4 due, the Driver WAITING. -/
def due (r : Rack) (e : Entry) : State :=
  { holding part r with
    schedule := [e]
    driver := { Driver.reset with state := .waiting, position := e.src, goTo := e.src, entry := some (0, e.index) } }

/-- A rack at the end of its development in station 2, its firm lift to station 4 planned for second `start`, both stays
on their timelines. -/
def sliding (dose start : Nat) : State :=
  let e := moveOf 1 2 4 start true
  (({ holding part { rackIn .inBath 1 2 with dose := dose, nextStart := some start } with schedule := [e] }).setTimeline 2
    [⟨0, 900, some (start + 16), .immerse, 1⟩]).setTimeline 4 [⟨0, start, some (start + 100), .immerse, 2⟩]

theorem witness_DoseAccruesOncePerSecond :
    (let s := holding part (rackIn .inBath 1 2)
     s.run = .running ∧ s.rack 0 = some (rackIn .inBath 1 2) ∧ s.stepOf (rackIn .inBath 1 2) = some develop1 ∧
     develop1.kind = .develop ∧ SecondTask.carriage ∉ [] ∧
     ((withRackAt (pinsAt 1) 2).stations.getD 1 ⟨false, 0, false, false, false, false⟩).presence = true) ∧
    (let s := moving .travel (moveOf 1 2 4 986 true)
     s.run = .running ∧ s.rack 0 = some { rackIn .onCarriage 1 0 with heldRate := 1024 } ∧
     s.stepOf { rackIn .onCarriage 1 0 with heldRate := 1024 } = some develop1) := by decide +kernel

/-- R41: a start notice before the work of its second holds the rate of the second before, one after it that of this
second. -/
theorem witness_DoseAccruesOncePerSecond_lift :
    let e := moveOf 1 2 4 1000 true
    let s := due { rackIn .inBath 1 2 with rate := 1000 } e
    let inp := withRackAt (pinsAt 2) 2
    s.driver.state = .waiting ∧ s.schedule = [e] ∧ e.slot = 0 ∧ e.src = 2 ∧ e.start ≤ min (s.clock + 1) 4294967295 ∧
    inp.atStation = e.src ∧ s.schedule.Pairwise (fun a b => a.spanStart ≤ b.spanStart) ∧
    (∀ l ∈ s.timelines, l.Pairwise fun a b => a.start ≤ b.start) ∧
    (∀ m ∈ s.schedule, m.spanStart ≤ m.start ∧ m.start + m.duration ≤ m.spanEnd) ∧
    e.src ≤ s.cfg.line.count ∧ s.isBath e.src = true ∧
    (inp.stations.getD 1 ⟨false, 0, false, false, false, false⟩).cradleDown = true ∧ inp.hook = false ∧
    inp.hoistUp = false ∧ s.line.state = .ready ∧ (s.bath e.dst).presence = false ∧ s.cond e.dst .levelLow = false ∧
    ((after (.lineSecond [.carriage] inp) s).rack 0).map (fun r => (r.phase, r.heldRate, r.dose)) =
      some (.onCarriage, 1000, 1000) ∧
    ((after (.lineSecond [.develop, .carriage] inp) s).rack 0).map (fun r => (r.phase, r.heldRate, r.dose)) =
      some (.onCarriage, 1024, 1024) := by decide +kernel

/-- R43: the held rate is added once for the second of the end notice, whichever comes first. -/
theorem witness_DoseAccruesOncePerSecond_end :
    let e := { moveOf 1 2 4 974 true with executing := true }
    let s := moving .lower (moveOf 1 2 4 974 true)
    let inp := withRackAt (pinsAt 4) 4
    s.driver.state = .lower ∧ s.executing = some e ∧ e.slot = 0 ∧ inp.hoistDown = true ∧ inp.atStation = e.dst ∧
    e.dst ≤ s.cfg.line.count ∧ inp.hook = false ∧ s.isBath e.dst = true ∧
    (inp.stations.getD 3 ⟨false, 0, false, false, false, false⟩).presence = true ∧
    ∀ order ∈ [[SecondTask.carriage], [.develop, .carriage]],
      ((after (.lineSecond order inp) s).rack 0).map (·.deviations) = some [(1, 1024 - 368640)] := by decide +kernel

/-- The state in which the rack of slot 0 has its second: the presence and bath work done. -/
def offering (s : State) : State :=
  [SecondTask.presence, .bath].foldl State.doTurn
    { s with clock := min (s.clock + 1) 4294967295, pins := withRackAt (pinsAt 1) 2, accrualDue := allSlots }

/-- R101 to R103: a start within the span, one already past, one beyond the span that re-books, and one that no shift of
the chain can meet, so that it goes to the span's edge. -/
theorem witness_DoseAccruesOncePerSecond_slide :
    taskOrder [] = [.presence, .bath] ++ .develop :: [.retry, .warmup, .pump] ∧
    ∀ x ∈ [(348640, 1005, 1002), (348640, 990, 990), (307200, 1020, 1034), (348640, 1020, 1015)],
      let s := sliding x.1 x.2.1
      let v := offering s
      let r := { rackIn .inBath 1 2 with dose := x.1, nextStart := some x.2.1 }
      v.rack 0 = some r ∧ v.stepOf r = some develop1 ∧ v.deferred = [] ∧ v.schedule.length = 1 ∧
      (v.pin 2).presence = true ∧
      v.schedule.find? (fun m => m.slot == 0 && !m.executing && m.firm && m.index == r.step) =
        some (moveOf 1 2 4 x.2.1 true) ∧
      (after (.lineSecond [] (withRackAt (pinsAt 1) 2)) s).schedule.map (·.start) = [x.2.2] ∧
      ((after (.lineSecond [] (withRackAt (pinsAt 1) 2)) s).rack 0).map (·.flags.slideRefused) =
        some (x.2.2 == 1015) := by decide +kernel

/-- R103: with a second rack on the line, which waits in the deferred set, and its stay at station 4 up to second 1004, the
start goes from the offer 1002 to the nearest second at which the intervals fit. -/
theorem witness_DoseAccruesOncePerSecond_others :
    let e := moveOf 1 2 4 1005 true
    let wide : State := { sliding 348640 1005 with schedule := [{ e with spanStart := 1000, spanEnd := 1046 }] }
    let s : State := { wide.setRack 3 { rackIn .inBath 2 4 with tag := 42 } with deferred := [⟨3, .exit, 990⟩] }
    let t := s.setTimeline 4 [⟨3, 900, some 1004, .immerse, 2⟩, ⟨0, 1005, some 1100, .immerse, 2⟩]
    let v := offering t
    v.deferred = [⟨3, .exit, 990⟩] ∧ (v.schedule.map fun m => (m.slot, m.start)) = [(0, 1005)] ∧
    (let c := Instr.lineSecond [] (withRackAt (pinsAt 1) 2)
     ((after c t).schedule.filter (·.slot == 0)).map (·.start) = [1004] ∧
     ((after c t).rack 0).map (·.flags.slideRefused) = some true) := by decide +kernel

/-- R35, R36: a rate read at the curve's clamp, and one at another station's temperature. -/
theorem witness_DoseAccruesOncePerSecond_flags :
    let cold := (holding part (rackIn .inBath 1 2)).setBath 2 { warm with filtered := some 100, presence := true }
    let blind := (holding part (rackIn .inBath 1 2)).setBath 2 { warm with conds := { probeFault := true }, presence := true }
    let hidden := withStation (withRackAt (pinsAt 1) 2) 2 fun i => { i with temp := 601 }
    ((after (.lineSecond [.develop] (withRackAt (pinsAt 1) 2)) cold).rack 0).map (·.flags.compClamped) = some true ∧
    ((after (.lineSecond [] hidden) blind).rack 0).map (·.flags.tempSubstituted) = some true := by decide +kernel

/-- The same between stations: an IDLE Driver under way to another start has not changed where it goes. -/
theorem witness_DoseAccruesOncePerSecond_between :
    let s := { sliding 348640 1005 with driver := { Driver.reset with state := .approaching, goTo := 2 } }
    { s with clock := 1001, pins := withRackAt (pinsAt 0) 2 }.turn.driver.goTo = s.driver.goTo ∧
    (after (.lineSecond [] (withRackAt (pinsAt 0) 2)) s).schedule.map (·.start) = [1002] := by decide +kernel

/-- An interval of slot 0 at station 2 that ends in second `x`. -/
def stay (x : Nat) : Interval := ⟨0, 900, some x, .immerse, 1⟩

theorem witness_IntervalsAndOverstaysAreExamined :
    (let s := (holding part (rackIn .inBath 1 2)).setTimeline 2 [stay 1000]
     s.run = .running ∧ 2 ≤ s.timelines.length ∧ (s.timeline 2)[0]? = some (stay 1000) ∧
     (stay 1000).stop.getD 0 ≤ s.clock ∧ s.rack (stay 1000).slot = some (rackIn .inBath 1 2)) ∧
    (let s := part.setTimeline 16 [stay 1000, stay 1001]
     16 ≤ s.timelines.length ∧ (s.timeline 16)[0]? = some (stay 1000) ∧ (s.timeline 16)[1]? = some (stay 1001) ∧
     s.rack (stay 1000).slot = none ∧ s.clock < (stay 1001).stop.getD 0) ∧
    (∀ i ∈ [909, 910],
     let r := { rackIn .inBath 2 4 with immersion := some i }
     let s := holding part r
     s.run = .running ∧ s.rack 0 = some r ∧ s.stepOf r = some bath2 ∧ bath2.kind = .bath ∧ r.immersion = some i ∧
     r.lift = none ∧ (min (i + (bath2.immersion + bath2.stretch)) 4294967295 < s.clock ↔ i = 909)) ∧
    (∀ i ∈ [909, 910],
     let r := { rackIn .onCarriage 2 0 with lift := some ⟨1000, 4, 2, some i⟩ }
     let s := holding part r
     s.rack 0 = some r ∧ r.phase = .onCarriage ∧ r.lift = some ⟨s.clock, 4, 2, some i⟩ ∧
     stepAt (s.stepsOf r) 2 = some bath2 ∧
     (after (.overstay 0 (pinsAt 1)) s).events.map (·.station) = if i = 909 then [4] else []) := by decide +kernel

/-- R107: a rack lifted out of station 4 in second 1000 is examined there, lowered again into a bath or at an UNLOAD
station. -/
theorem witness_IntervalsAndOverstaysAreExamined_lowered :
    ∀ r ∈ [{ rackIn .inBath 2 4 with immersion := some 1000 }, rackIn .atUnload 3 5],
      let q := { r with lift := some ⟨1000, 4, 2, some 909⟩ }
      let s := holding part q
      (∀ x ∈ s.stepOf q, ∀ j ∈ q.immersion, s.clock ≤ min (j + (x.immersion + x.stretch)) 4294967295) ∧
      (after (.overstay 0 (pinsAt 1)) s).events.map (·.station) = [4] ∧
      ((after (.overstay 0 (pinsAt 1)) s).rack 0).map (·.flags.overstay) = some true := by decide +kernel

/-! The carriage. -/

theorem witness_MoveStartBeginsTheMove :
    (let e := moveOf 1 2 4 1000 true
     let s := due (rackIn .inBath 1 2) e
     let inp := { withRackAt (pinsAt 2) 2 with hoistDown := true }
     s.run = .running ∧ s.schedule = [e] ∧ s.driver.state = .waiting ∧ s.rack e.slot = some (rackIn .inBath 1 2) ∧
     s.baths.length = 16 ∧ 1 ≤ e.src ∧ e.src ≤ s.cfg.line.count ∧ e.start ≤ s.clock ∧ inp.atStation = e.src ∧
     (inp.stations.getD (e.src - 1) ⟨false, 0, false, false, false, false⟩).cradleDown = true ∧
     s.line.state = .ready ∧ (s.bath e.dst).presence = false ∧ s.cond e.dst .levelLow = false ∧
     inp.hook = false ∧ inp.hoistUp = false) ∧
    (let e := mkEntry settings.line 0 1 2 5 .evacuate false 1000 0
     let r := { rackIn .onCarriage 1 0 with pending := .interrupted }
     let s : State := { due r e with
       line := { Line.reset with state := .faulted }
       driver := { (due r e).driver with faultCleared := true } }
     let inp := { pinsAt 2 with hook := true, hoistUp := true, hoistDown := false }
     s.schedule = [e] ∧ s.driver.state = .waiting ∧ s.rack e.slot = some r ∧ r.station = 0 ∧ r.phase = .onCarriage ∧
     e.kind = .evacuate ∧ e.drain = 0 ∧ e.dst ≠ e.src ∧ inp.hook = true ∧ inp.hoistUp = true ∧ e.start ≤ s.clock ∧
     inp.atStation = e.src ∧ s.line.state = .faulted ∧ s.driver.faultCleared = true ∧
     (s.bath e.dst).presence = false ∧ s.cond e.dst .levelLow = false) := by decide +kernel

/-- R138: a full queue merges into the newest waiting entry of the station, to 9,999 ml at most, and drops the lift's
volume, here 12 x 40 ml, where only the entry that runs is the station's. -/
theorem witness_MoveStartBeginsTheMove_full :
    let other : Delivery := ⟨3, 60, 5, 990, false⟩
    let full (ds : List Delivery) : State := { due (rackIn .inBath 1 2) (moveOf 1 2 4 1000 true) with deliveries := ds }
    let started (ds : List Delivery) : State := after (.moveStart (withRackAt (pinsAt 2) 2)) (full ds)
    let low : List Delivery := ⟨2, 9000, 5, 990, false⟩ :: ⟨2, 9600, 5, 991, false⟩ :: List.replicate 14 other
    let served : List Delivery := ⟨2, 9600, 5, 991, true⟩ :: List.replicate 15 other
    (started low).deliveries = ⟨2, 9000, 5, 990, false⟩ :: ⟨2, 9999, 65, 991, false⟩ :: List.replicate 14 other ∧
    (started served).deliveries = served ∧
    (started served).events.map (fun e => (e.kind, e.station, e.slot, e.tag, e.detail)) =
      [(.replenishOverflow, 2, 0, 41, 480)] := by decide +kernel

/-- Three racks wait in the deferred set: one in station 4 for its EXIT, one in development in station 2 to be evacuated,
one at station 1 for its ENTRY; with `hook` a fourth hangs on it. The UNLOAD stations are open or not. -/
def deferredAll (hook closed : Bool) : State :=
  let racks := ((part.slots.set 0 (some { rackIn .inBath 2 4 with nextStart := none })).set 1
    (some { rackIn .inBath 1 2 with tag := 42, pending := .abandoned })).set 2
    (some { rackIn .waitingEntry 0 1 with tag := 43 })
  { part with
    slots := if hook then racks.set 3 (some { rackIn .onCarriage 1 0 with tag := 44, pending := .interrupted }) else racks
    deferred := [⟨0, .exit, 990⟩, ⟨1, .evacuate, 991⟩, ⟨2, .entry, 992⟩] ++ if hook then [⟨3, .evacuate, 993⟩] else []
    cfg := { settings with closures := List.replicate 16 closed } }

theorem witness_MoveStartDefersTheMove :
    let e := moveOf 1 2 4 1000 true
    let s := due (rackIn .inBath 1 2) e
    let taken := s.setBath 4 { warm with presence := true }
    let low := s.setBath 4 { warm with conds := { levelLow := true } }
    let inp := withRackAt (pinsAt 2) 2
    s.run = .running ∧ s.schedule = [e] ∧ e.executing = false ∧ s.driver.state = .waiting ∧
    s.rack e.slot = some (rackIn .inBath 1 2) ∧ e.start ≤ s.clock ∧ inp.atStation = e.src ∧ 1 ≤ e.src ∧
    e.src ≤ s.cfg.line.count ∧ inp.hook = false ∧
    (inp.stations.getD (e.src - 1) ⟨false, 0, false, false, false, false⟩).cradleDown = true ∧ s.line.state = .ready ∧
    (taken.bath e.dst).presence = true ∧ low.cond e.dst .levelLow = true ∧ (low.bath e.dst).presence = false := by
  decide +kernel

/-- R106: each waiting rack in its turn, whatever its phase and kind; while one waits on the hook, it alone; none with every
station closed. -/
theorem witness_MoveStartDefersTheMove_retry :
    let inp := withRackAt (withRackAt (withRackAt (pinsAt 1) 1) 2) 4
    let order := [SecondTask.develop, .retry]
    taskOrder order = [.develop] ++ .retry :: [.presence, .bath, .warmup, .pump] ∧
    (∀ x ∈ [(false, false), (true, false), (false, true)],
      let v := ([SecondTask.develop].foldl State.doTurn
        { deferredAll x.1 x.2 with clock := 1001, pins := inp, accrualDue := allSlots }).developAll
      v.racks.length = (if x.1 then 4 else 3) ∧
      (∀ e ∈ v.racks, (v.bath e.2.station).presence = false ∨ (v.pin e.2.station).presence = true) ∧
      v.hookedWaits = x.1) ∧
    ((after (.lineSecond order inp) (deferredAll false false)).deferred.map (·.slot),
      (after (.lineSecond order inp) (deferredAll true false)).deferred.map (·.slot),
      (after (.lineSecond order inp) (deferredAll false true)).deferred.map (·.slot)) =
      ([], [0, 1, 2], [0, 1, 2]) := by decide +kernel

/-- The Driver approaches station 2 for the lift of slot 0. -/
def approaching : State :=
  { due (rackIn .inBath 1 2) (moveOf 1 2 4 1100 true) with
    driver := { Driver.reset with state := .approaching, position := 1, goTo := 2, entry := some (0, 1),
                                  phaseStart := some 998, deadline := some 1000 } }

theorem witness_ArrivalEndsApproachAndTravel :
    (let e := moveOf 1 2 4 1100 true
     approaching.run = .running ∧ approaching.driver.state = .approaching ∧ approaching.schedule.head? = some e ∧
     approaching.driver.entry = some (e.slot, e.index) ∧ e.src = approaching.driver.goTo ∧
     (pinsAt 2).atStation = approaching.driver.goTo ∧ 1 ≤ (pinsAt 2).atStation ∧
     (pinsAt 2).atStation ≤ approaching.cfg.line.count ∧
     (pinsAt 0).atStation = 0 ∧ (pinsAt 16).atStation ≠ 0 ∧ (pinsAt 16).atStation ≠ approaching.driver.goTo ∧
     approaching.cfg.line.count < (pinsAt 7).atStation ∧
     (after (.carriageArrival (pinsAt 7)) { approaching with driver := { approaching.driver with goTo := 7 } }).driver.state =
       .stopped) ∧
    (let e := { moveOf 1 2 4 986 true with executing := true }
     let s := moving .travel (moveOf 1 2 4 986 true)
     s.driver.state = .travel ∧ s.executing = some e ∧ { pinsAt 4 with hoistDown := false }.atStation = e.dst ∧
     1 ≤ e.dst ∧ e.dst ≤ s.cfg.line.count ∧ (pinsAt 3).atStation ≠ 0 ∧ (pinsAt 3).atStation ≠ e.dst ∧
     (pinsAt 0).atStation = 0 ∧ s.cfg.line.count < (pinsAt 7).atStation) := by decide +kernel

theorem witness_RaiseAndDrainEnd :
    let e := { moveOf 1 2 4 984 true with executing := true }
    let dry := { mkEntry settings.line 0 0 1 2 .entry false 984 0 with executing := true }
    let s := moving .raise (moveOf 1 2 4 984 true)
    let d := moving .drain (moveOf 1 2 4 984 true)
    let up (n : Nat) : Inputs := { pinsAt n with hoistUp := true, hoistDown := false, hook := true }
    s.run = .running ∧ s.executing = some e ∧ s.driver.state = .raise ∧ (up 2).hoistUp = true ∧
    (up 3).atStation ≠ e.src ∧ (up 2).atStation = e.src ∧ 1 ≤ e.src ∧ e.src ≤ s.cfg.line.count ∧ { up 2 with hook := false }.hook = false ∧ (up 2).hook = true ∧
    e.drain ≠ 0 ∧ (moving .raise dry).executing = some dry ∧ dry.drain = 0 ∧ dry.dst ≠ dry.src ∧
    (up 1).atStation = dry.src ∧
    d.executing = some e ∧ d.driver.state = .drain ∧ d.driver.upSecond = some 990 ∧
    min (990 + e.drain) 4294967295 ≤ d.clock ∧ { d with clock := 999 }.clock < min (990 + e.drain) 4294967295 ∧
    e.dst ≠ e.src := by decide +kernel

/-- R55: an ABANDONED rack lowered into station 4 keeps no booking but its evacuation. -/
theorem witness_DownLimitEndsTheMove_abandoned :
    let s := moving .lower (moveOf 1 2 4 974 true)
    let r := { rackIn .onCarriage 1 0 with pending := .abandoned }
    let u := s.setRack 0 r
    r.pending = .abandoned ∧ u.line.state = .ready ∧ u.isBath 4 = true ∧
    (after (.hoistDownLimit (pinsAt 4)) u).schedule.map (fun m => (m.kind, m.src, m.dst)) = [(.evacuate, 4, 5)] := by
  decide +kernel

/-- R90: with no UNLOAD station open the evacuation walk fails and the rack waits. -/
theorem witness_DownLimitEndsTheMove_waits :
    let r := { rackIn .onCarriage 1 0 with pending := .abandoned }
    let u := (moving .lower (moveOf 1 2 4 974 true)).setRack 0 r
    let t := after (.hoistDownLimit (pinsAt 4)) { u with cfg := { u.cfg with closures := List.replicate 16 true } }
    r.pending = .abandoned ∧ u.isBath 4 = true ∧ t.schedule = [] ∧ t.deferred = [⟨0, .evacuate, 1000⟩] ∧
    t.driver.state = .idle := by decide +kernel

/-- R46, R95, R114: lowered into station 2, a development has its first prediction and its first dunk, and the Driver
approaches station 4, where the next move begins. -/
theorem witness_DownLimitEndsTheMove_begins :
    let next := moveOf 2 4 5 1100 false
    let s := moving .lower (mkEntry settings.line 0 0 1 2 .entry false 974 0)
    let u : State := { s with slots := part.slots.set 0 (some (rackIn .onCarriage 0 0)), schedule := s.schedule ++ [next] }
    let t := after (.hoistDownLimit (pinsAt 2)) { u with driver := { u.driver with position := 2 } }
    (u.pattern 1).inRange = true ∧ develop1.pattern = some 1 ∧
    ((t.rack 0).bind (·.predicted)) = some 1360 ∧ t.plans = [⟨0, 2, 1000, some ⟨1010, 5, 15⟩⟩] ∧
    (t.driver.state, t.driver.goTo, t.driver.phaseStart) = (.approaching, 4, some 1000) ∧
    t.driver.deadline = some (1000 + (4 + 5)) := by decide +kernel

theorem witness_DownLimitEndsTheMove :
    let e := { moveOf 1 2 4 974 true with executing := true }
    let s := moving .lower (moveOf 1 2 4 974 true)
    let r := { rackIn .onCarriage 1 0 with heldRate := 1024 }
    s.run = .running ∧ s.executing = some e ∧ s.driver.state = .lower ∧ (pinsAt 4).hoistDown = true ∧
    s.rack e.slot = some r ∧ r.phase = .onCarriage ∧ s.accrualDue = [] ∧ 1 ≤ e.dst ∧ e.dst ≤ s.cfg.line.count ∧
    (pinsAt 3).atStation ≠ e.dst ∧ (pinsAt 4).atStation = e.dst ∧
    { pinsAt 4 with hook := true }.hook = true ∧ (pinsAt 4).hook = false ∧ s.isBath e.dst = true ∧
    r.pending ≠ .abandoned ∧ s.stepOf { r with step := r.step + 1 } = some bath2 ∧
    (let x := { mkEntry settings.line 0 2 4 5 .exit false 974 5 with executing := true }
     let q := { rackIn .onCarriage 2 0 with recipe := none }
     let u : State := { moving .lower x with slots := part.slots.set 0 (some q) }
     u.executing = some x ∧ u.isBath x.dst = false ∧ u.rack x.slot = some q ∧ q.recipe = none ∧
     (∀ y ∈ u.racks, y.1 ≠ x.slot → u.countsForDrain y.2 = false ∧ u.isBath y.2.station = false ∧ y.2.phase ≠ .onCarriage) ∧
     (after (.hoistDownLimit (pinsAt 5)) { u with line := { u.line with state := .draining } }).line.state = .standby ∧
     (after (.hoistDownLimit (pinsAt 5)) { u with line := { u.line with state := .faulted },
                                                  driver := { u.driver with faultCleared := true } }).line.state = .ready ∧
     (after (.hoistDownLimit (pinsAt 5)) { u with schedule := [{ x with kind := .evacuate }], evacOrder := [0] }).events.map
       (·.kind) = [.rackAtUnload, .evacuationDone]) ∧
    (∀ dose ∈ [366796, 366797, 370483, 370484],
     let u := s.setRack 0 { r with dose := dose }
     develop1.tolerance = 5 ∧ (368640 * 5 / 1000 < ((dose : Int) - 368640).natAbs ↔ dose = 366796 ∨ dose = 370484) ∧
     ((after (.hoistDownLimit (pinsAt 4)) u).rack 0).map (·.flags.devOutOfTol) =
       some (dose == 366796 || dose == 370484)) ∧
    (let x := { mkEntry settings.line 0 0 1 2 .entry false 974 0 with executing := true }
     let q := rackIn .onCarriage 0 0
     let u : State := { moving .lower x with slots := part.slots.set 0 (some q) }
     u.executing = some x ∧ x.kind = .entry ∧ u.isBath x.dst = true ∧
     u.stepOf { q with step := q.step + 1 } = some develop1) := by decide +kernel

theorem witness_CarriageFaultsStopTheDriver :
    (let e := { moveOf 1 2 4 974 true with executing := true }
     (moving .drain e).run = .running ∧ (moving .drain e).executing = some e ∧ (pinsAt 2).hook = false ∧
     (moving .drain e).driver.state = .drain ∧ (moving .travel e).driver.state = .travel ∧
     (moving .raise e).driver.deadline = some 1000 ∧ 1000 ≤ (moving .raise e).clock ∧
     (moving .lower e).driver.state = .lower ∧ { moving .lower e with clock := 999 }.clock < 1000) ∧
    (approaching.driver.state = .approaching ∧ approaching.driver.deadline = some 1000 ∧ 1000 ≤ approaching.clock) ∧
    (let s := holding part (rackIn .onCarriage 1 0)
     s.executing = none ∧ s.driver.state ≠ .stopped ∧ s.carried = some (0, rackIn .onCarriage 1 0)) := by decide +kernel

/-! Agitation. -/

/-- A rack developing in station 2 with a dunk due. -/
def dunking (next : Option Nat) : State :=
  { holding part { rackIn .inBath 1 2 with nextStart := next } with plans := [⟨0, 2, 900, some ⟨1000, 5, 15⟩⟩] }

theorem witness_DunksComeDue :
    ∀ next ∈ [none, some 1020, some 1019],
      let s := dunking next
      let r := { rackIn .inBath 1 2 with nextStart := next }
      s.run = .running ∧ s.plans = [] ++ ⟨0, 2, 900, some ⟨1000, 5, 15⟩⟩ :: [] ∧ 1000 ≤ s.clock ∧
      s.rack 0 = some r ∧ r.phase = .inBath ∧ s.patternOf r = some 1 ∧ s.cradles.length = 16 ∧
      (s.pattern 1).mode = .both ∧ (s.pattern 1).inRange = true ∧ 900 ≤ s.clock ∧ s.clock ≤ 4294966000 ∧
      (s.cradle 2).state = .down ∧
      ((next.all fun x => decide (min (s.clock + (5 + 15)) 4294967295 ≤ x)) = decide (next ≠ some 1019)) ∧
      ((after (.dunkDue 0 (pinsAt 1)) s).cradle 2).state = (if next = some 1019 then .down else .rising) := by
  decide +kernel

/-- R6: a dunk whose end stops at the largest second fits before a start planned for that second. -/
theorem witness_DunksComeDue_late :
    let s := { dunking (some 4294967295) with clock := 4294967290 }
    s.rack 0 = some { rackIn .inBath 1 2 with nextStart := some 4294967295 } ∧
    min (s.clock + (5 + 15)) 4294967295 ≤ 4294967295 ∧
    ((after (.dunkDue 0 (pinsAt 1)) s).cradle 2).state = .rising := by decide +kernel

/-- R115: a planned start at the present second fails the second test, the largest second included. -/
theorem witness_DunksComeDue_due :
    let s := { dunking (some 4294967295) with clock := 4294967295 }
    4294967295 ≤ s.clock ∧ min (s.clock + (5 + 15)) 4294967295 ≤ 4294967295 ∧
    ((after (.dunkDue 0 (pinsAt 1)) s).cradle 2).state = .down := by decide +kernel

/-- R6: no dunk is fixed after the largest second, and one at it is the last. -/
theorem witness_DunksComeDue_last :
    let s (now : Nat) : State := { dunking none with clock := now, plans := [⟨0, 2, 4294967230, some ⟨1000, 5, 15⟩⟩] }
    ((after (.dunkDue 0 (pinsAt 1)) (s 4294967295)).plans.map (·.dunk)) = [none] ∧
    ((after (.dunkDue 0 (pinsAt 1)) (s 4294967294)).plans.map (·.dunk)) = [some ⟨4294967295, 5, 15⟩] := by
  decide +kernel

theorem witness_CradlesMove :
    part.run = .running ∧ part.cradles.length = 16 ∧ part.baths.length = 16 ∧
    (∀ c ∈ [(⟨.rising, 997, 5⟩ : Cradle), ⟨.rising, 998, 5⟩, ⟨.out, 995, 5⟩, ⟨.out, 996, 5⟩, ⟨.falling, 997, 5⟩],
      (part.setCradle 2 c).run = .running ∧ (part.setCradle 2 c).cradle 2 = c ∧ (part.setCradle 2 c).cradles.length = 16) ∧
    (after (.cradleTimeout 2 (pinsAt 1)) (part.setCradle 2 ⟨.rising, 997, 5⟩)).cradle 2 = ⟨.held, 997, 5⟩ ∧
    (after (.cradleTimeout 2 (pinsAt 1)) (part.setCradle 2 ⟨.rising, 998, 5⟩)).cradle 2 = ⟨.rising, 998, 5⟩ := by
  decide +kernel

/-- A running manifold at a tick. -/
def ticking (tick : Nat) (apply : Bool) (staged : List Burst) : State :=
  { part with manifold := { part.manifold with tick := tick, applyPending := apply, staged := staged } }

/-- Three stations on one on tick, and two on one off tick. -/
def clashing : List Burst := (settings.live.set 3 ⟨true, 20, 60⟩).set 8 ⟨true, 20, 61⟩
def sharing : List Burst := (settings.live.set 3 ⟨true, 21, 40⟩).set 8 ⟨true, 22, 40⟩

/-- `lowestPair` gives the lowest pair (R121). -/
theorem witness_lowestShared (tick : Burst → Nat) (m : List Burst) (i j : Nat)
    (h : (∀ x ∈ List.range 17, ∀ y ∈ List.range 17, 1 ≤ x → x < y → (burstOf m x).enabled = true →
      (burstOf m y).enabled = true → tick (burstOf m x) = tick (burstOf m y) → i < x ∨ (i = x ∧ j ≤ y)) ∧
      1 ≤ i ∧ i < j ∧ j ≤ 16 ∧ (burstOf m i).enabled = true ∧ (burstOf m j).enabled = true ∧
      tick (burstOf m i) = tick (burstOf m j)) : lowestShared tick m i j :=
  ⟨h.2, fun x y ⟨a, b, c, d, e, f⟩ => h.1 x (by simp; omega) y (by simp; omega) a b d e f⟩

theorem witness_ManifoldTicksAndWraps :
    (∀ t ∈ [0, 198], (ticking t false settings.live).manifold.tick < 199) ∧
    199 ≤ (ticking 199 true settings.live).manifold.tick ∧
    (ticking 199 true clashing).run = .running ∧ (ticking 199 true clashing).manifold.running = true ∧
    (pinsAt 1).gasOk = true ∧ (ticking 199 true clashing).manifold.valves.length = 16 ∧
    (ticking 199 true clashing).manifold.applyPending = true ∧
    lowestShared (·.onTick) clashing 2 4 ∧ lowestShared (·.offTick) sharing 2 4 ∧
    (after (.frameWrap (pinsAt 1)) (ticking 199 true clashing)).events.map (fun e => (e.kind, e.station, e.detail)) =
      [(.burstClash, 2, 4)] ∧
    (after (.frameWrap (pinsAt 1)) (ticking 199 true sharing)).events.map (fun e => (e.kind, e.station, e.detail)) =
      [(.burstOffShared, 2, 4), (.burstApplied, 0, 2)] :=
  ⟨by decide +kernel, by decide +kernel, by decide +kernel, by decide +kernel, by decide +kernel, by decide +kernel,
    by decide +kernel, witness_lowestShared _ _ _ _ (by decide +kernel), witness_lowestShared _ _ _ _ (by decide +kernel),
    by decide +kernel, by decide +kernel⟩

theorem witness_mapClear : mapClear settings.live := by
  have h : ∀ i ∈ List.range 17, ∀ j ∈ List.range 17, 1 ≤ i → i < j → (burstOf settings.live i).enabled = true →
      (burstOf settings.live j).enabled = true → (burstOf settings.live i).onTick ≠ (burstOf settings.live j).onTick := by
    decide +kernel
  intro i j hi hij hj
  exact h i (by simp; omega) j (by simp; omega) hi hij

theorem witness_BurstValvesAndGasPressure :
    part.run = .running ∧ part.manifold.running = true ∧ part.manifold.valves.length = 16 ∧
    part.line.gasLow = false ∧ part.events.length < 64 ∧
    (after (.gasPressureChange { pinsAt 1 with gasOk := false }) part).events.map (·.kind) = [.gasLow] := by
  decide +kernel

/-! The pump, the watchdog. -/

/-- Two deliveries wait, the first for a station with a high level. -/
def queued : State :=
  ({ part with deliveries := [⟨2, 60, 5, 990, false⟩, ⟨3, 60, 5, 991, false⟩] }).setBath 2
    { warm with conds := { levelHigh := true } }

/-- The pump serves station 2 from second `start`. -/
def pumping (start : Nat) (flow : Bool) : State :=
  { part with deliveries := [⟨2, 60, 5, 990, true⟩], pump := some ⟨2, start, 8, flow⟩ }

theorem witness_PumpServesTheQueue :
    queued.run = .running ∧
    queued.deliveries = [⟨2, 60, 5, 990, false⟩] ++ ⟨3, 60, 5, 991, false⟩ :: [] ∧ queued.pump = none ∧
    queued.cond 2 .levelHigh = true ∧ queued.cond 3 .levelHigh = false ∧ queued.line.state ≠ .dormant ∧
    queued.line.pumpFault = false ∧
    (after (.pumpStart (pinsAt 1)) queued).pump.map (·.station) = some 3 ∧
    (∀ x ∈ [(pumping 995 false, 995), (pumping 996 false, 996)], x.1.run = .running ∧ x.1.baths.length = 16 ∧
      x.1.pump = some ⟨2, x.2, 8, false⟩ ∧ (min (x.2 + 5) 4294967295 ≤ x.1.clock ↔ x.2 = 995)) ∧
    (pumping 992 true).deliveries = [] ++ ⟨2, 60, 5, 990, true⟩ :: [] ∧
    min (992 + 8) 4294967295 ≤ (pumping 992 true).clock ∧ (pumping 993 true).clock < min (993 + 8) 4294967295 := by
  decide +kernel

/-- A line whose watchdog runs. -/
def watching (st : LineState) (expiry : Nat) : State :=
  { partIn st with link := { part.link with watchdog := .running expiry } }

theorem witness_WatchdogExpires :
    (watching .ready 1001).run = .running ∧ (watching .ready 1001).link.watchdog = .running 1001 ∧
    (watching .ready 1001).clock < 1001 ∧ 1000 ≤ (watching .ready 1000).clock ∧
    (watching .ready 1000).cfg.line.lostAction = .drain ∧ (watching .warmup 1000).line.state = .warmup ∧
    (watching .standby 1000).line.state ≠ .ready ∧ (watching .ready 1000).someRack (watching .ready 1000).countsForDrain = false ∧
    (after (.linkWatchdogExpiry (pinsAt 1)) (watching .ready 1000)).line.state = .standby := by decide +kernel

/-! The link. -/

/-- The part in the middle of a frame, with the bytes collected. -/
def collected (rx : List Byte) : State := { part with link := { part.link with path := .receiving, rx := rx } }

/-- The part behind a lead byte. -/
def receiving : State := collected [0xA9]

/-- A STATUS for unit 1 as its eight bytes less one, and that one. -/
def statusBytes : List Byte := frameBytes 1 1 2 [] (frame 2 []).check

theorem witness_BrokenFramesAreDiscarded :
    receiving.run = .running ∧ receiving.link.path = .receiving ∧ part.link.path = .hunting ∧
    receiving.link.rx.length < 5 ∧ (collected [0xA9, 1, 1, 2]).link.rx.length = 4 ∧
    (after (.leadByteReceived 201 (pinsAt 1)) (collected [0xA9, 1, 1, 2])).link.path = .hunting ∧
    (after (.leadByteReceived 200 (pinsAt 1)) (collected [0xA9, 1, 1, 2])).link.path = .receiving ∧
    part.takes 2 (spoilt 2 []) ∧ (collected [0xA9, 1, 1]).takes 2 (spoilt 2 []) ∧
    200 < (201#8).toNat ∧ 200 < (255#8).toNat ∧ frameIntact 2 (spoilt 2 []) = false ∧ part.link.path ≠ .receiving ∧
    part.link.degraded = false ∧ part.cfg.line.threshold = 1 ∧
    (after (.frameGap (pinsAt 1)) receiving).events.map (fun e => (e.kind, e.detail)) = [(.linkDegraded, 1)] := by
  unfold State.takes; decide +kernel

theorem witness_BytesForeignFramesAndSentReplies :
    (part.run = .running ∧ part.link.path = .hunting ∧ receiving.link.path = .receiving ∧
      receiving.link.rx.length < 4 ∧ (collected [0xA9, 1, 1, 2]).link.rx.length = 4 ∧ (200#8).toNat ≤ 200 ∧
      (let rx := (collected [0xA9, 1, 1, 2, 1, 0xA9]).link.rx
       5 ≤ rx.length ∧ u8 rx 4 ≤ 200 ∧ rx.length + 1 < 7 + u8 rx 4) ∧
      (after (.identify (frame 1 []) (pinsAt 1)) part).link.path = .closed) ∧
    (frameIntact 2 { frame 2 [] with addr := 2, check := crc16 (checkedBytes 2 1 2 []) } = true ∧
      (2#8).toNat ≠ part.link.addr ∧ frameIntact 0x80 (frame 0x80 []) = true ∧ 128 ≤ (0x80#8).toNat) ∧
    (part.hears 0 (frame 0 []) ∧ part.hears 28 (frame 28 []) ∧ part.hears 127 (frame 127 [])) ∧
    (after (.identify (frame 1 []) (pinsAt 1)) part).link.reply ≠ none ∧
    (statusBytes.length = 7 ∧ (collected (statusBytes.take 6)).link.rx ++ [statusBytes.getD 6 0] = statusBytes ∧
      requestOf (.status (frame 2 []) (pinsAt 1)) = some (2, fixedLength 0, frame 2 [], pinsAt 1)) ∧
    (statusBytes.foldl (fun s b => after (.leadByteReceived b (pinsAt 1)) s) part).link.reply.map (·.kind) = some 0x82 :=
  ⟨by decide +kernel, by decide +kernel, by unfold State.hears State.takes; decide +kernel, by decide +kernel,
    ⟨by decide +kernel, by decide +kernel, rfl⟩, by decide +kernel⟩

theorem witness_RequestsPassTheLinkChecks :
    requestOf (.status (frame 2 []) (pinsAt 1)) = some (2, fixedLength 0, frame 2 [], pinsAt 1) ∧
    requestOf (.status (frame 2 [0]) (pinsAt 1)) = some (2, fixedLength 0, frame 2 [0], pinsAt 1) ∧
    part.run = .running ∧ (frame 2 []).payload.length ≤ 200 ∧
    (after (.identify (frame 1 []) (pinsAt 1)) part).link.path = .closed ∧ part.takes 2 (spoilt 2 []) ∧
    frameIntact 2 (spoilt 2 []) = false ∧
    (frameIntact 2 { frame 2 [] with addr := 2, check := crc16 (checkedBytes 2 1 2 []) } = true ∧
      (2#8).toNat ≠ part.link.addr) ∧
    part.hears 2 (frame 2 [0]) ∧ fixedLength 0 (frame 2 [0]).payload = false :=
  ⟨rfl, rfl, by unfold State.hears State.takes; decide +kernel⟩

/-- A part whose watchdog has expired. -/
def silent : State := { part with link := { part.link with lost := true, watchdog := .expired 990 } }

theorem witness_AcceptedFramesTouchTheWatchdog :
    requestOf (.status (frame 2 []) (pinsAt 1)) = some (2, fixedLength 0, frame 2 [], pinsAt 1) ∧
    part.hears 2 (frame 2 []) ∧ silent.hears 2 (frame 2 []) ∧ silent.link.lost = true ∧
    silent.link.watchdog = .expired 990 ∧
    Instr.status (frame 2 []) (pinsAt 1) ≠ .readEvents (frame 2 []) (pinsAt 1) ∧
    (after (.status (frame 2 []) (pinsAt 1)) silent).events.map (fun e => (e.kind, e.detail)) = [(.linkRestored, 10)] :=
  ⟨rfl, by unfold State.hears State.takes; decide +kernel⟩

/-- The payload of SET RECIPE that deletes recipe 1. -/
def deletion : List Byte := [1, 0]

theorem witness_BusyAndLockedRequestsAreRefused :
    (requestOf (.setRecipe (frame 7 deletion) (pinsAt 1)) = some (7, countedLength 1 12, frame 7 deletion, pinsAt 1) ∧
     requestOf (.setLine (frame 3 settings.line.bytes) { pinsAt 1 with lock := true }) =
       some (3, fixedLength 23, frame 3 settings.line.bytes, { pinsAt 1 with lock := true })) ∧
    writing.hears 7 (frame 7 deletion) ∧ countedLength 1 12 deletion = true ∧ writing.storeWrite ≠ none ∧
    changesSettings (.setRecipe (frame 7 deletion) (pinsAt 1)) = true ∧
    answer (.setRecipe (frame 7 deletion) (pinsAt 1)) writing = some [6, 0] ∧
    part.hears 3 (frame 3 settings.line.bytes) ∧ fixedLength 23 settings.line.bytes = true ∧ part.storeWrite = none ∧
    answer (.setLine (frame 3 settings.line.bytes) { pinsAt 1 with lock := true }) part = some [5] :=
  ⟨⟨rfl, rfl⟩, by unfold State.hears State.takes; decide +kernel⟩

theorem witness_IdentifyAnswers :
    part.hears 1 (frame 1 []) ∧ (frame 1 []).payload = [] ∧ part.link.straps ≤ 31 ∧ part.cfg.line.count ≤ 16 := by
  unfold State.hears State.takes; decide +kernel

theorem witness_StatusAnswers :
    part.hears 2 (frame 2 []) ∧ (frame 2 []).payload = [] ∧ part.queuesBounded ∧ part.plansBounded ∧
    part.deferred.length ≤ 24 ∧ part.clock ≤ 4294967295 ∧
    answer (.status (frame 2 []) (pinsAt 1)) part =
      some [0, 3, 0, 0, 3, 0xE8, 0, 0, 0, 0, 0, 0, 0, 0, 0, 0, 0, 0, 0, 0] := by
  unfold State.hears State.takes State.queuesBounded State.plansBounded; decide +kernel

/-! Requests that change settings. -/

/-- A line of four stations, and one out of range. -/
def shortLine : LineCfg := { settings.line with count := 4 }
def wrongLine : LineCfg := { settings.line with count := 17 }

theorem witness_SetLineReplacesTheRecord :
    (∀ c ∈ [shortLine, wrongLine], ∀ s ∈ [partIn .standby, partIn .dormant, partIn .ready,
        holding (partIn .standby) (rackIn .atUnload 3 5)],
      (s.run = .running ∧ s.link.path = .hunting ∧ (frame 3 c.bytes).payload.length ≤ 200 ∧
        frameIntact 3 (frame 3 c.bytes) = true ∧ (frame 3 c.bytes).addr.toNat = s.link.addr) ∧
      (frame 3 c.bytes).payload = c.bytes ∧ s.storeWrite = none) ∧
    (pinsAt 1).lock = false ∧ (partIn .standby).racks = [] ∧
    (holding (partIn .standby) (rackIn .atUnload 3 5)).racks ≠ [] ∧
    (shortLine.count ≤ 255 ∧ shortLine.window ≤ 65535 ∧ shortLine.override ≤ 255 ∧ shortLine.inRange = true ∧
      wrongLine.inRange = false) ∧
    answer (.setLine (frame 3 shortLine.bytes) (pinsAt 1)) (partIn .standby) = some [0] ∧
    answer (.setLine (frame 3 wrongLine.bytes) (pinsAt 1)) (partIn .standby) = some [3] ∧
    answer (.setLine (frame 3 shortLine.bytes) (pinsAt 1)) part = some [4] := by
  decide +kernel

/-- An unlisted link-lost action, and an unlisted baud. -/
theorem witness_SetLineReplacesTheRecord_codes :
    ∀ p ∈ [settings.line.bytes.set 15 2, settings.line.bytes.set 19 3],
      ((partIn .standby).run = .running ∧ (partIn .standby).link.path = .hunting ∧ p.length = 23 ∧
        frameIntact 3 (frame 3 p) = true ∧ (frame 3 p).addr.toNat = (partIn .standby).link.addr) ∧
      (2 ≤ u8 p 15 ∨ 3 ≤ u8 p 19) ∧ answer (.setLine (frame 3 p) (pinsAt 1)) (partIn .standby) = some [3] := by
  decide +kernel

/-- R9, R11: a shorter line keeps the deliveries and the run of the stations that stay. -/
theorem witness_SetLineReplacesTheRecord_deliveries :
    let s : State := { partIn .standby with
      deliveries := [⟨4, 60, 5, 990, false⟩, ⟨2, 60, 5, 991, true⟩], pump := some ⟨2, 995, 8, false⟩ }
    let t := after (.setLine (frame 3 { settings.line with count := 3 }.bytes) (pinsAt 1)) s
    t.deliveries = [⟨2, 60, 5, 991, true⟩] ∧ t.pump = s.pump := by decide +kernel

/-- A DEVELOP record of group 1 whose liquid depth differs from the one of 2.6. -/
def deeper : StationCfg := { stationOf .develop 1 with depth := 8 }

/-- The line in STANDBY with no recipe: any role may go to any station. -/
def recipeFree : State := { partIn .standby with cfg := { settings with recipes := [] } }

/-- The answer to SET STATION of the record `c` for station `n`. -/
def putStation (s : State) (n : Nat) (c : StationCfg) : Option (List Byte) :=
  answer (.setStation (frame 4 (b1 n ++ c.bytes)) (pinsAt 1)) s

theorem witness_SetStationReplacesTheRecord :
    let s := partIn .standby
    let c := deeper
    (s.hears 4 (frame 4 (b1 2 ++ c.bytes)) ∧ (frame 4 (b1 2 ++ c.bytes)).payload = b1 2 ++ c.bytes ∧
      s.storeWrite = none ∧ (pinsAt 1).lock = false ∧ s.line.state = .standby ∧ s.racks = [] ∧ s.cfg.line.count = 6 ∧
      s.cfg.stations.length = 16 ∧ s.baths.length = 16 ∧ s.cradles.length = 16 ∧ s.manifold.valves.length = 16) ∧
    (c.winLow < c.winHigh ∧ c.winHigh ≤ 600 ∧ c.depth = 8 ∧ c.jump = 15 ∧ c.spreadLimit = 10 ∧ c.probeHold = 5 ∧
      c.exhPerLoad = 5 ∧ c.slope = 0 ∧ c.exhLimit = 800 ∧ c.mlPerLoad = 40 ∧ c.masks = {} ∧
      c.role.holdsBath = true ∧ c.group = 1) ∧
    (∀ m ∈ List.range 17, m ≠ 2 → s.isBath m = true → s.group m = c.group → s.role m = c.role) ∧
    ∀ steps ∈ s.cfg.recipes, ∀ st ∈ steps, st.group = c.group → (st.kind = .develop ↔ c.role = .develop) := by
  unfold State.hears State.takes
  exact ⟨by decide +kernel, by decide +kernel, by decide +kernel, by decide +kernel⟩

theorem witness_SetStationReplacesTheRecord_answers :
    putStation (partIn .standby) 2 deeper = some [0] ∧ putStation (partIn .standby) 6 (stationOf .bath 3) = some [0] ∧
    putStation recipeFree 4 (stationOf .unload 0) = some [0] ∧ putStation recipeFree 2 (stationOf .bath 4) = some [0] ∧
    putStation (partIn .standby) 7 deeper = some [3] ∧
    putStation (partIn .standby) 2 { deeper with winLow := 210 } = some [3] ∧
    putStation (partIn .standby) 2 (stationOf .develop 2) = some [3] ∧
    putStation (partIn .standby) 6 (stationOf .bath 1) = some [3] ∧
    putStation (partIn .standby) 2 (stationOf .develop 16) = some [3] ∧
    putStation part 2 deeper = some [4] ∧
    putStation (holding (partIn .standby) (rackIn .atUnload 3 5)) 2 deeper = some [4] := by
  decide +kernel

/-- An unlisted role, and a mask of LEVEL_LOW. -/
theorem witness_SetStationReplacesTheRecord_codes :
    ∀ p ∈ [(b1 2 ++ deeper.bytes).set 1 5, (b1 2 ++ deeper.bytes).set 12 16],
      ((partIn .standby).run = .running ∧ (partIn .standby).link.path = .hunting ∧ p.length = 19 ∧
        frameIntact 4 (frame 4 p) = true ∧ (frame 4 p).addr.toNat = (partIn .standby).link.addr) ∧
      (5 ≤ u8 p 1 ∨ (u16 p 11).testBit 4 = true) ∧
      answer (.setStation (frame 4 p) (pinsAt 1)) (partIn .standby) = some [3] := by
  decide +kernel

/-- R130: a newly masked TEMP_HIGH and SPREAD are released with their latches, the others stay. -/
theorem witness_SetStationReplacesTheRecord_masks :
    let all : FlagSet := { tempLow := true, tempHigh := true, spread := true }
    let c := { stationOf .develop 1 with masks := { tempHigh := true, spread := true } }
    let s := (partIn .standby).setBath 2 { warm with conds := all, latches := all }
    let t := after (.setStation (frame 4 (b1 2 ++ c.bytes)) (pinsAt 1)) s
    (t.bath 2).conds = { tempLow := true } ∧ (t.bath 2).latches = { tempLow := true } := by decide +kernel

/-- R11, R126: a station that passes from DEVELOP to BATH starts with the empty state and its cradle commanded down, and keeps
its exhaustion index; one that stays DEVELOP keeps what it holds. -/
theorem witness_SetStationReplacesTheRecord_passage :
    let b := { warm with rejected := 2, exhaustion := 300, latches.spread := true, conds.cradleFault := true }
    let s := (recipeFree.setBath 2 b).setCradle 2 ⟨.held, 950, 3⟩
    let t (r : Role) := after (.setStation (frame 4 (b1 2 ++ (stationOf r 4).bytes)) (pinsAt 1)) s
    (t .bath).bath 2 = { exhaustion := 300 } ∧ (t .bath).cradle 2 = ⟨.down, 1000, 3⟩ ∧
    (t .develop).bath 2 = b ∧ (t .develop).cradle 2 = ⟨.held, 950, 3⟩ := by
  decide +kernel

theorem witness_StationServiceSetsTheClosure :
    (∀ p ∈ [[2#8, 1#8], [6, 0], [1, 0], [7, 1], [2, 2], [0, 0]], (part.run = .running ∧ part.link.path = .hunting ∧
      (frame 5 p).payload.length ≤ 200 ∧ frameIntact 5 (frame 5 p) = true ∧ (frame 5 p).addr.toNat = part.link.addr)) ∧
    part.storeWrite = none ∧ (7#8).toNat ≤ part.cfg.closures.length ∧ part.role 2 = .develop ∧ part.role 6 = .unload ∧
    part.role 1 = .load ∧ part.role 7 = .unused ∧
    answer (.stationService (frame 5 [2, 1]) (pinsAt 1)) part = some [0, 1] ∧
    answer (.stationService (frame 5 [1, 1]) (pinsAt 1)) part = some [3] := by
  decide +kernel

/-- The curve of 2.6 with its last point below the one before. -/
def falling : Curve := { curve26 with points := curve26.points.set 16 1829 }

theorem witness_SetCurveReplacesTheRecord :
    (∀ p ∈ [b1 3 ++ curveBytes (some curve26), b1 3 ++ curveBytes (some falling), b1 3 ++ curveBytes none,
        b1 0 ++ curveBytes none], (part.run = .running ∧ part.link.path = .hunting ∧ (frame 6 p).payload.length ≤ 200 ∧
      frameIntact 6 (frame 6 p) = true ∧ (frame 6 p).addr.toNat = part.link.addr)) ∧
    part.cfg.curves.length = 4 ∧ part.storeWrite = none ∧ (pinsAt 1).lock = false ∧ part.racks = [] ∧
    (curve26.points.length = 17 ∧ curve26.tref ≤ 600 ∧ (∀ p ∈ curve26.points, p ≤ 65535) ∧
      curve26.points.Pairwise (· ≤ ·) ∧ (∀ p ∈ curve26.points, 64 ≤ p ∧ p ≤ 8192) ∧ curve26.points.getD 8 0 = 1024) ∧
    (falling.points.length = 17 ∧ falling.points.getD 16 0 < falling.points.getD 15 0) ∧
    (∃ steps ∈ part.cfg.recipes, ∃ st ∈ steps, st.kind = .develop ∧ st.curve = 0) ∧
    (∀ steps ∈ part.cfg.recipes, ∀ st ∈ steps, st.kind = .develop → st.curve ≠ 3) ∧
    (holding part (rackIn .inBath 1 2)).curveInUse 0 = true ∧
    answer (.setCurve (frame 6 (b1 3 ++ curveBytes (some curve26))) (pinsAt 1)) part = some [0] ∧
    answer (.setCurve (frame 6 (b1 3 ++ curveBytes (some falling))) (pinsAt 1)) part = some [3, 16] ∧
    answer (.setCurve (frame 6 (b1 0 ++ curveBytes none)) (pinsAt 1)) part = some [7] ∧
    answer (.setCurve (frame 6 (b1 3 ++ curveBytes none)) (pinsAt 1)) part = some [0] := by
  decide +kernel

/-- R25, R27: K[8] alone, the reference temperature, the number and the defined field, and the deletion of a curve in use. -/
theorem witness_SetCurveReplacesTheRecord_refusals :
    let ask (p : List Byte) := answer (.setCurve (frame 6 p) (pinsAt 1)) (holding part (rackIn .inBath 1 2))
    let at8 : Curve := { curve26 with points := curve26.points.set 8 1025 }
    at8.points.Pairwise (· ≤ ·) ∧ (∀ p ∈ at8.points, 64 ≤ p ∧ p ≤ 8192) ∧
    (b1 3 ++ curveBytes (some curve26)).length = 38 ∧
    ask (b1 3 ++ curveBytes (some at8)) = some [3, 8] ∧
    ask (b1 3 ++ curveBytes (some { curve26 with tref := 601 })) = some [3, 17] ∧
    ask (b1 4 ++ curveBytes (some curve26)) = some [3, 17] ∧
    ask ((b1 3 ++ curveBytes (some curve26)).set 1 2) = some [3, 17] ∧
    ask (b1 0 ++ 0 :: List.replicate 36 0xFF) = some [7] := by decide +kernel

theorem witness_SetRecipeReplacesTheRecipe :
    (part.hears 7 (frame 7 (b1 7 ++ recipeBytes [develop1, bath2])) ∧ part.cfg.recipes.length = 8 ∧ part.storeWrite = none ∧
      [develop1, bath2].length ≤ 12) ∧
    (holding part (rackIn .inBath 1 2)).rack 0 = some (rackIn .inBath 1 2) ∧
    (∀ k r, k < 24 → part.rack k = some r → r.recipe ≠ some 7) ∧
    (∀ st ∈ [develop1, bath2], 1 ≤ st.group ∧ st.group ≤ 15 ∧ st.drain ≤ 30 ∧ (st.pattern.all fun p => decide (p ≤ 7)) ∧
      (st.kind = .develop → 30 ≤ st.nominal ∧ st.nominal ≤ 3600 ∧ st.curve ≤ 3 ∧ st.tolerance ≤ 200 ∧
        part.curve st.curve ≠ none) ∧
      (st.kind = .bath → 10 ≤ st.immersion ∧ st.immersion ≤ 3600 ∧ st.stretch ≤ 3600) ∧
      part.groupStations st.group ≠ [] ∧
      ∀ m ∈ part.groupStations st.group, (part.role m = .develop ↔ st.kind = .develop)) ∧
    develop1.group ≠ bath2.group ∧ ([develop1, bath2].filter fun st => st.kind == .develop).length ≤ 4 ∧
    answer (.setRecipe (frame 7 (b1 7 ++ recipeBytes [develop1, bath2])) (pinsAt 1)) part = some [0] ∧
    answer (.setRecipe (frame 7 (b1 0 ++ recipeBytes [develop1, bath2])) (pinsAt 1)) (holding part (rackIn .inBath 1 2)) =
      some [7, 0] := by
  have h : ∀ k ∈ List.range 24, part.rack k = none := by decide +kernel
  exact ⟨by unfold State.hears State.takes; decide +kernel, by decide +kernel,
    fun k r hk e => by simp [h k (by simpa using hk)] at e, by decide +kernel, by decide +kernel, by decide +kernel,
    by decide +kernel, by decide +kernel⟩

/-- R22: the number of the step at fault, and 0 where no single step is. -/
theorem witness_SetRecipeReplacesTheRecipe_refusals :
    let ask (p : List Byte) := answer (.setRecipe (frame 7 p) (pinsAt 1)) part
    ask (b1 7 ++ recipeBytes [develop1, { bath2 with immersion := 9 }]) = some [3, 2] ∧
    ask (b1 7 ++ recipeBytes [develop1, bath2, bath2]) = some [3, 3] ∧
    ask (b1 7 ++ recipeBytes [{ develop1 with curve := 1 }, bath2]) = some [3, 1] ∧
    ask (b1 8 ++ recipeBytes [develop1, bath2]) = some [3, 0] ∧
    ask ([7, 1, 1, 2] ++ List.replicate 10 0) = some [3, 1] := by decide +kernel

/-- R21, R22: the fields of the other kind are disregarded, and an unlisted kind or pattern in a later step is its fault. -/
theorem witness_SetRecipeReplacesTheRecipe_fields :
    let loose := b1 7 ++ b1 2 ++ ({ develop1 with immersion := 7, stretch := 9 } : Sys2Proof.Machine.Step).bytes ++
      ({ bath2 with nominal := 1, curve := 200, tolerance := 255 } : Sys2Proof.Machine.Step).bytes
    let second (kind pattern : Byte) := b1 7 ++ b1 2 ++ develop1.bytes ++ ([2, kind, 5, pattern] ++ List.replicate 8 0)
    (after (.setRecipe (frame 7 loose) (pinsAt 1)) part).recipe 7 = [develop1, bath2] ∧
    answer (.setRecipe (frame 7 (second 2 255)) (pinsAt 1)) part = some [3, 2] ∧
    answer (.setRecipe (frame 7 (second 1 8)) (pinsAt 1)) part = some [3, 2] := by decide +kernel

set_option maxRecDepth 4000 in
/-- R22: more than four DEVELOP steps. -/
theorem witness_SetRecipeReplacesTheRecipe_develops :
    answer (.setRecipe (frame 7 (b1 7 ++ recipeBytes (List.replicate 5 [develop1, bath2]).flatten)) (pinsAt 1)) part =
      some [3, 0] := by decide +kernel

/-- A pattern whose out time reaches its initial interval. -/
def tight : Pattern := { pattern26 with outTime := 10 }

theorem witness_SetPatternAndSetRouteReplaceTheRecord :
    (part.storeWrite = none ∧ part.hears 8 (frame 8 (b1 7 ++ pattern26.bytes)) ∧
      part.hears 8 (frame 8 (b1 0 ++ tight.bytes)) ∧ part.cfg.patterns.length = 8 ∧ pattern26.inRange = true ∧
      tight.outTime ≤ 20 ∧ ¬ tight.outTime < tight.initialInterval) ∧
    (part.hears 0x1B (frame 0x1B (b1 8 ++ Route.bytes ⟨.stationClosed, 6, true⟩)) ∧
      part.hears 0x1B (frame 0x1B (b1 1 ++ Route.bytes ⟨.groupOpen, 3, false⟩)) ∧ part.cfg.routes.length = 8 ∧
      part.groupStations 3 = [] ∧ part.cfg.line.count = 6) ∧
    answer (.setPattern (frame 8 (b1 7 ++ pattern26.bytes)) (pinsAt 1)) part = some [0] ∧
    answer (.setPattern (frame 8 (b1 0 ++ tight.bytes)) (pinsAt 1)) part = some [3] ∧
    answer (.setRoute (frame 0x1B (b1 8 ++ Route.bytes ⟨.on, 0, true⟩)) (pinsAt 1)) part = some [0, 8, 0] ∧
    answer (.setRoute (frame 0x1B (b1 1 ++ Route.bytes ⟨.groupOpen, 3, false⟩)) (pinsAt 1)) part = some [3] := by
  unfold State.hears State.takes; decide +kernel

/-- R28, R29, R170: a field out of range, a number out of range, and unlisted codes. -/
theorem witness_SetPatternAndSetRouteReplaceTheRecord_refusals :
    let pattern (p : List Byte) := answer (.setPattern (frame 8 p) (pinsAt 1)) part
    let route (p : List Byte) := answer (.setRoute (frame 0x1B p) (pinsAt 1)) part
    (∀ c ∈ [{ pattern26 with initialCount := 11 }, { pattern26 with initialInterval := 61 }, { pattern26 with period := 9 },
        { pattern26 with outTime := 1 }, { pattern26 with quiet := 61 }, { pattern26 with everyN := 0 }],
      pattern (b1 1 ++ c.bytes) = some [3]) ∧
    pattern (b1 8 ++ pattern26.bytes) = some [3] ∧ pattern ((b1 1 ++ pattern26.bytes).set 1 4) = some [3] ∧
    (∀ p ∈ [[1, 11, 0, 0], [1, 1, 0, 2], [0, 1, 0, 0], [9, 1, 0, 0], [1, 6, 7, 0]], route p = some [3]) ∧
    (after (.setRoute (frame 0x1B [1, 1, 77, 0]) (pinsAt 1)) part).cfg.routes.head? = some ⟨.on, 0, false⟩ := by
  decide +kernel

/-- R114: the change of mode fixes a dunk for the rack whose plan held none, here 930 and two periods after it. -/
theorem witness_SetPatternAndSetRouteReplaceTheRecord_dunk :
    let s : State := { holding part (rackIn .inBath 1 2) with plans := [⟨0, 2, 900, none⟩, ⟨1, 3, 900, none⟩] }
    s.rack 0 = some (rackIn .inBath 1 2) ∧ s.patternOf (rackIn .inBath 1 2) = some 1 ∧ s.rack 1 = none ∧
    (after (.setPattern (frame 8 (b1 1 ++ pattern26.bytes)) (pinsAt 1)) s).plans =
      [⟨0, 2, 900, some ⟨1050, 5, 15⟩⟩, ⟨1, 3, 900, none⟩] := by decide +kernel

/-- A SET BURSTS payload. -/
def burstsOf (es : List (Nat × Burst)) (apply : Bool) : List Byte :=
  b1 es.length ++ bBool apply ++ es.flatMap fun e => e.2.bytes e.1

/-- The manifold at rest, and the answer of the staged map to the entries `es` with `apply` set. -/
def atRest : State := { partIn .dormant with manifold := { part.manifold with running := false } }

/-- The answer to SET BURSTS of the entries `es` with `apply` set. -/
def askBursts (s : State) (es : List (Nat × Burst)) : Option (List Byte) :=
  answer (.setBursts (frame 9 (burstsOf es true)) (pinsAt 1)) s

theorem witness_SetBurstsWritesTheStagedMap :
    (part.hears 9 (frame 9 (burstsOf [(4, ⟨true, 20, 199⟩)] true)) ∧ part.hears 9 (frame 9 (burstsOf [] false)) ∧
      part.hears 9 (frame 9 (burstsOf [(4, ⟨true, 20, 1⟩), (16, ⟨true, 20, 2⟩)] true)) ∧ part.storeWrite = none ∧
      part.manifold.staged.length = 16 ∧ part.manifold.running = true) ∧
    (atRest.hears 9 (frame 9 (burstsOf [(4, ⟨true, 20, 199⟩)] true)) ∧ atRest.storeWrite = none ∧
      atRest.manifold.running = false ∧ atRest.manifold.staged.length = 16) ∧
    askBursts part [(4, ⟨true, 20, 199⟩)] = some [0, 1, 0, 0, 0] ∧
    part.hears 9 (frame 9 [0, 2]) ∧ 2 ≤ (2#8).toNat ∧
    answer (.setBursts (frame 9 [0, 2]) (pinsAt 1)) part = some [3] := by
  unfold State.hears State.takes; decide +kernel

theorem witness_SetBurstsWritesTheStagedMap_pairs :
    askBursts atRest [] = some [0, 0, 1, 0, 0] ∧ askBursts atRest [(4, ⟨true, 20, 199⟩)] = some [0, 0, 2, 2, 4] ∧
    askBursts atRest [(4, ⟨true, 21, 199⟩)] = some [0, 0, 1, 0, 0] ∧
    askBursts atRest [(16, ⟨true, 7, 1⟩), (9, ⟨true, 7, 2⟩), (12, ⟨true, 7, 3⟩)] = some [0, 0, 2, 9, 12] := by
  decide +kernel

theorem witness_SetBurstsWritesTheStagedMap_refusals :
    ∀ es ∈ [[(4, ⟨true, 20, 199⟩), (4, ⟨true, 20, 199⟩)], [(0, ⟨true, 20, 199⟩)], [(17, ⟨true, 20, 199⟩)],
      [(4, ⟨true, 200, 199⟩)], [(4, (⟨true, 199, 200⟩ : Burst))]], askBursts atRest es = some [3] := by
  decide +kernel

theorem witness_SetExhaustionRestatesE :
    part.hears 0x0A (frame 0x0A [2, 0x03, 0xE9]) ∧ part.hears 0x0A (frame 0x0A [1, 0, 0]) ∧ part.baths.length = 16 ∧
    part.isBath 2 = true ∧ part.isBath 1 = false ∧
    answer (.setExhaustion (frame 0x0A [2, 0x03, 0xE9]) (pinsAt 1)) part = some [0, 0x03, 0xE8] ∧
    answer (.setExhaustion (frame 0x0A [1, 0, 0]) (pinsAt 1)) part = some [3] := by
  unfold State.hears State.takes; decide +kernel

theorem witness_ReadSettingReturnsTheRecord :
    (∀ p ∈ [[0#8, 0#8], [1, 1], [1, 16], [2, 3], [3, 7], [4, 7], [5, 0], [6, 0], [7, 1], [7, 8], [8, 0], [0, 1], [2, 4],
        [3, 8], [1, 0], [1, 17], [7, 0], [7, 9]],
      (part.run = .running ∧ part.link.path = .hunting ∧ (frame 0x0B p).payload.length ≤ 200 ∧
        frameIntact 0x0B (frame 0x0B p) = true ∧ (frame 0x0B p).addr.toNat = part.link.addr)) ∧
    answer (.readSetting (frame 0x0B [0, 0]) (pinsAt 1)) part = some (0 :: 0 :: 0 :: settings.line.bytes) ∧
    answer (.readSetting (frame 0x0B [1, 17]) (pinsAt 1)) part = some [3] := by
  decide +kernel

theorem witness_StoreAndRestartAreTaken :
    part.hears 0x0C (frame 0x0C []) ∧ part.hears 0x0D (frame 0x0D []) ∧ part.storeWrite = none ∧
    (frame 0x0C []).payload = [] ∧ part.line.state = .ready ∧ part.racks = [] ∧
    (holding part (rackIn .inBath 1 2)).racks ≠ [] ∧ writing.run = .running ∧ writing.storeWrite = some settings ∧
    answer (.store (frame 0x0C []) (pinsAt 1)) (partIn .faulted) = some [4] ∧
    answer (.restart (frame 0x0D []) (pinsAt 1)) (holding part (rackIn .inBath 1 2)) = some [4] := by
  unfold State.hears State.takes; decide +kernel

/-! Requests of operation. -/

/-- The causes of 9.2: STATE, CONFIG and RACKS. -/
theorem witness_ModeMakesItsPassage_refusals :
    let rules : State := { partIn .standby with line := { (partIn .standby).line with configDefaulted := true } }
    answer (.mode (frame 0x0E [0, 0]) (pinsAt 1)) part = some [4, 3, 1] ∧
    answer (.mode (frame 0x0E [2, 1]) (pinsAt 1)) (partIn .draining) = some [4, 4, 1] ∧
    answer (.mode (frame 0x0E [1, 0]) (pinsAt 1)) rules = some [4, 1, 2] ∧
    answer (.mode (frame 0x0E [3, 0]) (pinsAt 1)) (holding part (rackIn .waitingEntry 0 1)) = some [4, 3, 3] := by
  decide +kernel

theorem witness_ModeMakesItsPassage :
    (∀ p ∈ [[0#8, 0#8], [1, 0], [2, 0], [2, 1], [3, 0], [4, 0], [2, 2]],
      ∀ st ∈ [LineState.dormant, .standby, .warmup, .ready, .draining, .faulted],
      ((partIn st).run = .running ∧ (partIn st).link.path = .hunting ∧ (frame 0x0E p).payload.length ≤ 200 ∧
        frameIntact 0x0E (frame 0x0E p) = true ∧ (frame 0x0E p).addr.toNat = (partIn st).link.addr)) ∧
    part.line.configDefaulted = false ∧ part.role 1 = .load ∧ part.role 5 = .unload ∧ part.role 2 = .develop ∧
    part.line.carriageFault = false ∧ part.racks = [] ∧
    answer (.mode (frame 0x0E [2, 1]) (pinsAt 1)) part = some [0, 1, 0] ∧
    answer (.mode (frame 0x0E [2, 1]) (pinsAt 1)) (holding part (rackIn .inBath 1 2)) = some [0, 4, 0] ∧
    answer (.mode (frame 0x0E [3, 0]) (pinsAt 1)) (partIn .warmup) = some [0, 0, 0] ∧
    answer (.mode (frame 0x0E [1, 0]) (pinsAt 1))
      { partIn .standby with line := { part.line with state := .standby, carriageFault := true } } = some [0, 5, 0] := by
  decide +kernel

/-- The admission of a rack with tag 41 under recipe 0 from station 1. -/
def admission : List Byte := b2 41 ++ b1 0 ++ b1 100 ++ b1 12 ++ b1 1 ++ b4 0

/-- A rack hangs at station 1. -/
def hung : State := part.setBath 1 { presence := true }

theorem witness_AdmitTakesTheSlotAndBooksTheChain :
    (hung.hears 0x0F (frame 0x0F admission) ∧ hung.line.state = .ready ∧ hung.racks = [] ∧ hung.recipe 0 ≠ [] ∧
      hung.slots.length = 24 ∧ hung.rack 0 = none ∧ hung.role 1 = .load ∧ (hung.bath 1).presence = true ∧
      hung.timelines.length = 16 ∧ hung.clock ≤ 4294967295 ∧ hung.schedule = [] ∧
      (∀ st ∈ hung.recipe 0, ∃ m ∈ hung.groupStations st.group, hung.isOpen m = true) ∧
      ∃ m ∈ hung.unloads, hung.isOpen m = true) ∧
    ∃ c, (hung.taken 0x0F (frame 0x0F admission) (withRackAt (pinsAt 1) 1)).walk
      (admissionTrip 0 (hung.recipe 0) 100) (admissionCursor 1 hung.clock)
      (max (min (hung.clock + 2) 4294967295) 0) = .ok c := by
  refine ⟨by unfold State.hears State.takes; decide +kernel, ?_⟩
  have h : (match (hung.taken 0x0F (frame 0x0F admission) (withRackAt (pinsAt 1) 1)).walk
      (admissionTrip 0 (hung.recipe 0) 100) (admissionCursor 1 hung.clock) 1002 with
    | .ok _ => true
    | .error _ => false) = true := by decide +kernel
  have e : max (min (hung.clock + 2) 4294967295) 0 = 1002 := by decide +kernel
  rw [e]
  split at h
  · exact ⟨_, by assumption⟩
  · cases h

/-- R84, R89, R95: the intervals of the chain booked for an idle line, and the approach to its first move. -/
theorem witness_AdmitTakesTheSlotAndBooksTheChain_intervals :
    let s : State := { hung with driver := { Driver.reset with state := .idle, position := 3 } }
    let t := after (.admitRack (frame 0x0F admission) { withRackAt (pinsAt 1) 1 with atStation := 3 }) s
    s.driver.state = .idle ∧ (∀ m ∈ s.schedule, m.slot ≠ 0) ∧
    t.timeline 1 = [⟨0, 1000, some 1010, .loadWait, 0⟩] ∧ t.timeline 2 = [⟨0, 1004, some 1368, .immerse, 1⟩] ∧
    (t.schedule.map (·.kind)) = [.entry, .transfer, .exit] ∧
    (t.driver.state, t.driver.goTo, t.driver.approachFrom) = (.approaching, 1, 3) := by decide +kernel

/-- The answer to ADMIT with a tag, recipe, scale, load station and earliest second. -/
def askAdmit (s : State) (tag rec scale n notBefore : Nat) : Option (List Byte) :=
  answer (.admitRack (frame 0x0F (b2 tag ++ b1 rec ++ b1 scale ++ b1 12 ++ b1 n ++ b4 notBefore)) (withRackAt (pinsAt 1) 1)) s

/-- The refusals of R57 in their order; in the last the carriage has no time in the window. -/
theorem witness_AdmitTakesTheSlotAndBooksTheChain_refusals :
    askAdmit (partIn .standby) 41 0 100 1 0 = some [4] ∧ 
    askAdmit (holding hung { rackIn .orphan 0 4 with recipe := none, tag := 0 }) 41 0 100 1 0 = some [14] ∧
    askAdmit hung 41 0 49 1 0 = some [3] ∧ askAdmit hung 41 1 100 1 0 = some [10] ∧
    askAdmit (holding hung (rackIn .inBath 1 2)) 41 0 100 1 0 = some [9] ∧
    askAdmit { hung with slots := List.replicate 24 (some (rackIn .awaitingReport 3 0)) } 42 0 100 1 0 = some [8] ∧
    askAdmit hung 41 0 100 2 0 = some [11] ∧ askAdmit part 41 0 100 1 0 = some [11] ∧
    askAdmit (holding hung (rackIn .waitingEntry 0 1)) 42 0 100 1 0 = some [7] ∧
    askAdmit { hung with cfg := { settings with closures := List.replicate 16 true } } 41 0 100 1 0 = some [12, 1] ∧
    askAdmit { hung with cfg := { settings with closures := List.replicate 4 false ++ List.replicate 12 true } }
      41 0 100 1 0 = some [12, 3] ∧
    askAdmit { hung with schedule := [{ moveOf 1 2 4 1000 true with slot := 5, spanEnd := 9000 }] } 41 0 100 1 0 =
      some [13, 0] := by decide +kernel

/-- A line state with one rack, and what it holds. -/
def occupied (st : LineState) (r : Rack) : State := holding (partIn st) r

/-- The answer to ABANDON of the payload `p` on a line in READY with the rack `r` in slot 0. -/
def askAbandon (r : Rack) (p : List Byte) : Option (List Byte) :=
  answer (.abandon (frame 0x10 p) (pinsAt 1)) (occupied .ready r)

/-- An orphan hanging at a station. -/
def orphanAt (station : Nat) : Rack := { rackIn .orphan 0 station with recipe := none, tag := 0 }

theorem witness_AbandonDisposesOfTheRack :
    (∀ p ∈ [[1#8, 0#8, 0#8], [1, 0, 23], [1, 0, 24], [0, 0, 41], [0, 0, 42], [0, 0, 0], [2, 0, 0]],
      ∀ st ∈ [LineState.ready, .draining, .faulted, .standby],
      ((occupied st (rackIn .inBath 1 2)).run = .running ∧ (occupied st (rackIn .inBath 1 2)).link.path = .hunting ∧
        (frame 0x10 p).payload.length ≤ 200 ∧ frameIntact 0x10 (frame 0x10 p) = true ∧
        (frame 0x10 p).addr.toNat = (occupied st (rackIn .inBath 1 2)).link.addr)) ∧
    ∀ r ∈ [rackIn .inBath 1 2, rackIn .waitingEntry 0 1, rackIn .onCarriage 1 0, rackIn .atUnload 3 5,
        { rackIn .inBath 1 2 with pending := .abandoned }, orphanAt 4, { orphanAt 4 with pending := .abandoned },
        orphanAt 5],
      (occupied .ready r).rack 0 = some r ∧ (occupied .ready r).rack 23 = none := by
  constructor <;> decide +kernel

theorem witness_AbandonDisposesOfTheRack_answers :
    askAbandon (rackIn .inBath 1 2) [1, 0, 0] = some [0, 1] ∧ askAbandon (rackIn .inBath 1 2) [0, 0, 41] = some [0, 1] ∧
    askAbandon (rackIn .waitingEntry 0 1) [1, 0, 0] = some [0, 0] ∧
    askAbandon (rackIn .onCarriage 1 0) [0, 0, 41] = some [0, 3] ∧ askAbandon (orphanAt 4) [1, 0, 0] = some [0, 1] ∧
    askAbandon { orphanAt 4 with pending := .abandoned } [1, 0, 0] = some [0, 4] ∧
    askAbandon (rackIn .inBath 1 2) [1, 0, 23] = some [10] ∧ askAbandon (rackIn .inBath 1 2) [0, 0, 42] = some [10] ∧
    askAbandon (rackIn .inBath 1 2) [1, 0, 24] = some [3] ∧ askAbandon (rackIn .atUnload 3 5) [1, 0, 0] = some [4] := by
  decide +kernel

/-- R67: with no UNLOAD station open the evacuation waits, and the rack's interval at the LOAD station is gone. -/
theorem witness_AbandonDisposesOfTheRack_intervals :
    let s := ((occupied .ready (rackIn .inBath 1 2)).setTimeline 2 [stay 1400]).setTimeline 1
      [⟨0, 880, some 1010, .loadWait, 0⟩]
    let t := after (.abandon (frame 0x10 [1, 0, 0]) (pinsAt 1))
      { s with cfg := { s.cfg with closures := List.replicate 16 true } }
    t.deferred = [⟨0, .evacuate, 1000⟩] ∧ t.timeline 1 = [] ∧ t.timeline 2 = [⟨0, 900, none, .immerse, 1⟩] := by
  decide +kernel

/-- The line after a carriage fault has been cleared, an interrupted rack in station 4. -/
def recovering : State :=
  { occupied .faulted { rackIn .inBath 2 4 with pending := .interrupted } with
    driver := { Driver.reset with faultCleared := true } }

theorem witness_EvacuateTakesTheRacks :
    recovering.hears 0x11 (frame 0x11 []) ∧ recovering.clock ≤ 4294967295 ∧ recovering.line.state = .faulted ∧ recovering.driver.faultCleared = true ∧
    (occupied .standby (rackIn .inBath 2 4)).hears 0x11 (frame 0x11 []) ∧
    answer (.evacuate (frame 0x11 []) (pinsAt 1)) recovering = some [0, 1, 1, 0] ∧
    (after (.evacuate (frame 0x11 []) (pinsAt 1)) recovering).schedule.map (fun e => (e.src, e.dst, e.start)) =
      [(4, 5, 1006)] ∧ (∀ e ∈ recovering.racks, e.2.phase = .onCarriage → e.2.station = 0) := by
  unfold State.hears State.takes; decide +kernel

/-- R111: the rack on the hook before the DEVELOP station before the other bath, and with no UNLOAD station open all three
wait in that order. -/
theorem witness_EvacuateTakesTheRacks_order :
    let x := { rackIn .inBath 2 4 with pending := .interrupted }
    let y := { rackIn .inBath 1 2 with pending := .interrupted, tag := 42 }
    let z := { rackIn .onCarriage 1 0 with pending := .interrupted, tag := 43 }
    let s : State := { recovering with slots := ((part.slots.set 0 (some x)).set 1 (some y)).set 2 (some z) }
    let shut : State := { s with cfg := { s.cfg with closures := List.replicate 16 true } }
    s.hears 0x11 (frame 0x11 []) ∧ s.clock ≤ 4294967295 ∧
    (∀ e ∈ s.racks, e.2.phase = .onCarriage → e.2.station = 0) ∧
    ([0, 1, 2].map s.evacRank) = [2, 1, 0] ∧
    (after (.evacuate (frame 0x11 []) (pinsAt 1)) s).evacOrder = [2, 1, 0] ∧
    answer (.evacuate (frame 0x11 []) (pinsAt 1)) s = some [0, 3, 3, 0] ∧
    (after (.evacuate (frame 0x11 []) (pinsAt 1)) shut).deferred.map (·.slot) = [2, 1, 0] ∧
    answer (.evacuate (frame 0x11 []) (pinsAt 1)) shut = some [0, 3, 0, 3] := by
  unfold State.hears State.takes; decide +kernel

/-- The carriage is stopped, a rack INTERRUPTED on it. -/
def stopped (r : Option Rack) : State :=
  { partIn .faulted with
    slots := part.slots.set 0 r
    line := { part.line with state := .faulted, carriageFault := true }
    driver := { Driver.reset with state := .stopped } }

theorem witness_CarriageClearFreesTheCarriage :
    (let r := { rackIn .onCarriage 1 0 with pending := .interrupted }
     ∀ x ∈ [some r, none], (stopped x).hears 0x12 (frame 0x12 []) ∧ (stopped x).line.state = .faulted ∧
      (stopped x).driver.faultCleared = false ∧ (stopped x).carried = x.map (fun q => (0, q)) ∧
      (stopped x).schedule = []) ∧
    (1 ≤ (pinsAt 6).atStation ∧ (pinsAt 6).atStation ≤ part.cfg.line.count ∧ (pinsAt 6).hoistDown = true ∧
      (pinsAt 7).atStation = 7) ∧
    answer (.carriageClear (frame 0x12 []) { pinsAt 6 with hook := true })
      (stopped (some { rackIn .onCarriage 1 0 with pending := .interrupted })) =
      some [0, 6, 1, 0, 0, 41, 255, 0, 0] ∧
    (∀ r ∈ [rackIn .onCarriage 1 0, { rackIn .onCarriage 0 0 with recipe := none, tag := 0 }],
      let c := Instr.carriageClear (frame 0x12 []) (pinsAt 6)
      answer c (stopped (some r)) = some (if r.recipe = none then [0, 6, 0, 255, 0, 0, 255, 0, 0]
        else [0, 6, 0, 255, 0, 0, 0, 0, 41]) ∧
      (after c (stopped (some r))).line.state = .ready ∧ (after c (stopped (some r))).rack 0 = none) ∧
    answer (.carriageClear (frame 0x12 []) (pinsAt 7)) (stopped none) = some [4] := by
  unfold State.hears State.takes; decide +kernel

/-- A cradle held at station 2 with its fault latched. -/
def held : State :=
  (part.setCradle 2 ⟨.held, 990, 5⟩).setBath 2 { warm with conds := { cradleFault := true },
                                                           latches := { cradleFault := true } }

theorem witness_ClearFlagsClearsTheLatches :
    held.hears 0x13 (frame 0x13 [0]) ∧ held.hears 0x13 (frame 0x13 [2]) ∧ held.hears 0x13 (frame 0x13 [1]) ∧
    held.baths.length = 16 ∧ held.cradles.length = 16 ∧ held.isBath 2 = true ∧ held.isBath 1 = false ∧
    held.cond 2 .cradleFault = true ∧ (pinsAt 1).stations.getD 1 ⟨false, 0, false, false, false, false⟩ =
      ⟨false, 200, false, false, false, true⟩ ∧
    answer (.clearFlags (frame 0x13 [2]) (pinsAt 1)) held = some [0, 2, 0, 0, 0, 0] ∧
    answer (.clearFlags (frame 0x13 [1]) (pinsAt 1)) held = some [3] := by
  unfold State.hears State.takes; decide +kernel

theorem witness_ClearLinkClearsTheCounter :
    silent.hears 0x14 (frame 0x14 []) ∧ (frame 0x14 []).payload = [] := by
  unfold State.hears State.takes; decide +kernel

/-! Reads. -/

theorem witness_ReadRackReturnsTheRecord :
    (∀ p ∈ [[1#8, 0#8, 0#8], [0, 0, 41], [1, 0, 23], [0, 0, 42], [2, 0, 0], [0, 0, 0], [1, 0, 24]],
      let s := occupied .ready (rackIn .inBath 1 2)
      (s.run = .running ∧ s.link.path = .hunting ∧ (frame 0x15 p).payload.length ≤ 200 ∧
        frameIntact 0x15 (frame 0x15 p) = true ∧ (frame 0x15 p).addr.toNat = s.link.addr)) ∧
    (occupied .ready (rackIn .inBath 1 2)).rack 0 = some (rackIn .inBath 1 2) ∧ (rackIn .inBath 1 2).tag = 41 ∧
    (occupied .ready (rackIn .inBath 1 2)).racks.all (fun e => e.2.tag != 42) = true ∧
    (occupied .ready (rackIn .inBath 1 2)).rack 23 = none ∧
    (answer (.readRack (frame 0x15 [0, 0, 41]) (pinsAt 1)) (occupied .ready (rackIn .inBath 1 2))).map (·.take 8) =
      some [0, 0, 0, 41, 0, 100, 12, 1] ∧
    (answer (.readRack (frame 0x15 [0, 0, 41]) (pinsAt 1))
      (occupied .ready { rackIn .inBath 1 2 with deviations := [(1, -2)] })).map (·.drop 59) =
      some [1, 1, 0xFF, 0xFF, 0xFF, 0xFE] := by
  decide +kernel

theorem witness_ReadStationClearsTheFreshLatch :
    part.hears 0x16 (frame 0x16 [2]) ∧ part.hears 0x16 (frame 0x16 [6]) ∧ part.hears 0x16 (frame 0x16 [7]) ∧
    part.baths.length = 16 ∧ part.configured 2 = true ∧ part.configured 6 = true ∧ part.configured 7 = false ∧
    part.isBath 2 = true ∧ part.isBath 6 = false ∧ part.rackAt 2 = none ∧
    (answer (.readStation (frame 0x16 [6]) (pinsAt 1)) part).map (·.drop 11) =
      some ([0, 0, 0, 0xFF, 0xFF] ++ List.replicate 17 0) ∧
    (holding part (rackIn .inBath 1 2)).rackAt 2 = some (0, rackIn .inBath 1 2) ∧
    ((answer (.readStation (frame 0x16 [2]) (pinsAt 1)) (holding part (rackIn .inBath 1 2))).map (·.drop 6)).map (·.take 3) =
      some [0, 0, 41] ∧ answer (.readStation (frame 0x16 [7]) (pinsAt 1)) part = some [3] := by
  unfold State.hears State.takes; decide +kernel

theorem witness_ReadScheduleAndTimelineReturnThePlans :
    (∀ p ∈ [[0#8, 8#8], [191, 1], [192, 1], [0, 0], [0, 9]], (part.run = .running ∧ part.link.path = .hunting ∧
      (frame 0x17 p).payload.length ≤ 200 ∧ frameIntact 0x17 (frame 0x17 p) = true ∧
      (frame 0x17 p).addr.toNat = part.link.addr)) ∧
    part.hears 0x18 (frame 0x18 [6]) ∧ part.hears 0x18 (frame 0x18 [7]) ∧ part.configured 6 = true ∧
    part.configured 7 = false ∧ part.rackAt 6 = none ∧
    answer (.readTimeline (frame 0x18 [6]) (pinsAt 1)) part = some [0, 6, 4, 1, 1, 0, 0, 255, 0, 0, 0] ∧
    answer (.readSchedule (frame 0x17 [191, 1]) (pinsAt 1)) (due (rackIn .inBath 1 2) (moveOf 1 2 4 1000 true)) =
      some [0, 1, 0] ∧
    answer (.readSchedule (frame 0x17 [192, 1]) (pinsAt 1)) part = some [3] := by
  unfold State.hears State.takes; decide +kernel

/-- Nine records wait, `n` of them after the first eight. -/
def noisy : State := { part with events := (List.range 9).map fun i => ⟨i, .rackEntered, 2, 0, 41, 0⟩, lost := 3 }

theorem witness_ReadEventsTakesTheOldest :
    noisy.hears 0x19 (frame 0x19 []) ∧ (frame 0x19 []).payload = [] ∧
    (noisy.taken 0x19 (frame 0x19 []) (pinsAt 1)).events.length ≤ 64 ∧
    (noisy.taken 0x19 (frame 0x19 []) (pinsAt 1)).lost ≤ 255 ∧
    ((after (.readEvents (frame 0x19 []) (pinsAt 1)) noisy).events.map (·.second),
      (after (.readEvents (frame 0x19 []) (pinsAt 1)) noisy).lost) = ([8], 0) := by
  unfold State.hears State.takes; decide +kernel

/-- A record of a rack removed. -/
def record : Completion := ⟨40, 0, 100, 12, 700, some 710, some 880, 890, .complete, {}, []⟩

/-- A full completion queue and one rack awaiting report. -/
def reporting : State :=
  { part with
    completions := List.replicate 16 record
    slots := part.slots.set 0 (some { rackIn .awaitingReport 3 0 with ended := some 900, outcome := .complete }) }

theorem witness_ReadCompletionsMakesRoom :
    reporting.hears 0x1A (frame 0x1A []) ∧ (frame 0x1A []).payload = [] ∧ reporting.completions.length ≤ 16 ∧
    (allSlots.filter fun k => (reporting.rack k).any fun r => r.phase == .awaitingReport) = [0] ∧
    (after (.readCompletions (frame 0x1A []) (pinsAt 1)) reporting).completions.length = 15 ∧
    (after (.readCompletions (frame 0x1A []) (pinsAt 1)) reporting).rack 0 = none ∧
    (answer (.readCompletions (frame 0x1A []) (pinsAt 1)) reporting).map (·.take 27) =
      some ([0, 2] ++ b2 40 ++ [0, 100, 12, 3] ++ b4 700 ++ b4 710 ++ b4 880 ++ b4 890 ++ [1, 0, 0]) := by
  unfold State.hears State.takes; decide +kernel

/-! Arithmetic and what every step keeps. -/

theorem witness_RatesStayInRangeAndRise :
    curve26.points.length = 17 ∧ (∀ p ∈ curve26.points, 64 ≤ p ∧ p ≤ 8192) ∧ curve26.points.getD 8 0 = 1024 ∧
    curve26.points.Pairwise (· ≤ ·) ∧ (part.bath 2).exhaustion ≤ 1000 ∧ (part.stationCfg 2).slope ≤ 512 ∧
    (part.rateTemp 2 curve26.tref).1 = curve26.tref ∧ (part.stationCfg 2).slope = 0 ∧
    (part.stationRate 2 curve26).rate = 1024 := by decide +kernel

/-- A command waits in the queue of a line with a rack. -/
def waiting : State := { recovering with pending := [.evacuate (frame 0x11 []) (pinsAt 1)], out := recovering.outputs }

theorem witness_StepsKeepTheQueueBounds :
    waiting.queuesBounded ∧ waiting.shaped ∧ waiting.accrualDue = [] ∧ ∃ t, step waiting = .next t ∧ t.evacOrder = [0] :=
  ⟨by unfold State.queuesBounded; decide +kernel,
    ⟨⟨by unfold Settings.shaped; decide +kernel, (fun c (h : none = some c) => nomatch h),
      (fun c check (h : NvImage.blank = .image c check) => nomatch h)⟩, by decide +kernel⟩,
    rfl, _, rfl, by decide +kernel⟩

/-- Nothing stands on its timelines. -/
theorem nothing : ∀ l ∈ waiting.timelines, l = [] := by decide +kernel

theorem witness_StepsKeepThePlans :
    waiting.plansBounded ∧ waiting.plansOrdered ∧ 1 ≤ waiting.cfg.line.tl ∧ waiting.spansApart ∧ waiting.staysApart ∧
    waiting.travelsApart ∧ waiting.schedule = [] ∧ waiting.movesApart ∧
    ∃ t, step waiting = .next t ∧ t.schedule.length = 1 :=
  ⟨by unfold State.plansBounded; decide +kernel, by unfold State.plansOrdered; decide +kernel, by decide +kernel,
    by unfold State.spansApart; decide +kernel, (fun l hl => by rw [show l = [] from nothing l hl]; exact .nil),
    ⟨by decide +kernel, fun i a b h => nomatch h⟩, by decide +kernel, .nil, _, rfl, by decide +kernel⟩

theorem witness_StepsKeepTheMapsAndIndices :
    (∃ t, step waiting = .next t) ∧ waiting.mapsClear ∧ waiting.exhaustionBounded ∧
    waiting.everySettings fun c => c.line.inRange = true :=
  ⟨⟨_, rfl⟩, ⟨witness_mapClear, (fun c (h : none = some c) => nomatch h),
    (fun c check (h : NvImage.blank = .image c check) => nomatch h)⟩,
    by unfold State.exhaustionBounded; decide +kernel,
    ⟨by decide +kernel, (fun c (h : none = some c) => nomatch h),
      (fun c check (h : NvImage.blank = .image c check) => nomatch h)⟩⟩

theorem witness_StepsKeepTheOutputs :
    waiting.outputsFollow ∧ waiting.out.exclusive ∧ ∃ t, step waiting = .next t := by
  refine ⟨fun _ => ?_, by unfold Outputs.exclusive; decide +kernel, _, rfl⟩
  have h : waiting.out.raise = false ∧ waiting.driver.state = .idle ∧ waiting.out.lower = false ∧
      waiting.out.pumpRun = false ∧ waiting.pump = none ∧ waiting.out.valves = waiting.manifold.valves ∧
      (waiting.out.lifts = waiting.cradles.map fun c => c.state == .rising || c.state == .out) ∧
      waiting.out.temper = true ∧ waiting.line.state = .faulted ∧ waiting.out.setback = false ∧
      waiting.out.circulate = true ∧ waiting.out.alert = false ∧ waiting.events = [] ∧ waiting.completions = [] ∧
      ∀ k ∈ List.range 24, (waiting.rack k).all fun r => r.phase != .awaitingReport := by decide +kernel
  obtain ⟨a, b, c, d, e, f, g, i, j, k, l, m, n, o, p⟩ := h
  have h' : waiting.out.selectors = List.replicate 16 false ∧ waiting.out.indicators = List.replicate 8 false ∧
      waiting.cfg.routes = List.replicate 8 Route.factory ∧ waiting.out.driverOn = false ∧
      waiting.link.reply = none := by decide +kernel
  obtain ⟨q, r, u, v, w⟩ := h'
  refine ⟨by simp [a, b], by simp [c, b], by simp [d, e], f, g, by simp [i, j], by simp [k, j], by simp [l, j], ?_,
    ⟨by simp [q], fun x hx hy => ?_⟩, ⟨by simp [r, u], fun x y hy => ?_⟩, by simp [v, w]⟩
  · simp only [m, n, o, ne_eq, not_true_eq_false, false_or, Bool.false_eq_true, false_iff]
    rintro ⟨x, y, hx, hy, h⟩
    have := p x (by simpa using hx)
    simp [hy, h] at this
  · have hz : (List.replicate 16 false).getD (x - 1) false = false := by
      rw [List.getD_eq_getElem?_getD, List.getElem?_replicate]; split <;> rfl
    rw [q, hz, e]; simp
  · rw [u, List.getElem?_replicate] at hy
    split at hy
    · cases hy
      rw [r, List.getElem?_replicate]
      split <;> simp [State.sourceHolds, Route.factory]
    · cases hy

theorem witness_SettingsChangeByTheirRequestsAlone :
    (∃ t, exec (.setPattern (frame 8 (b1 7 ++ pattern26.bytes)) (pinsAt 1)) part = .next t ∧
      t.cfg.patterns ≠ part.cfg.patterns) ∧
    (∃ t, exec (.setStation (frame 4 (b1 6 ++ (stationOf .bath 3).bytes)) (pinsAt 1)) (partIn .standby) = .next t ∧
      t.cfg.stations ≠ part.cfg.stations) ∧
    (∃ t, exec (.frameWrap (pinsAt 1)) (ticking 199 true Settings.factory.live) = .next t ∧
      t.cfg.live ≠ part.cfg.live) ∧
    writing.storeWrite ≠ none :=
  ⟨⟨_, rfl, by decide +kernel⟩, ⟨_, rfl, by decide +kernel⟩, ⟨_, rfl, by decide +kernel⟩, by decide +kernel⟩

theorem witness_SlotsAndMovesComeAndGoByTheRules :
    (∃ t, exec (.admitRack (frame 0x0F admission) (withRackAt (pinsAt 1) 1)) hung = .next t ∧
      hung.rack 0 = none ∧ (t.rack 0).map (·.phase) = some .waitingEntry) ∧
    (∃ t, exec (.lineSecond [] (pinsAt 1)) (leaving .atUnload 3 5) = .next t ∧
      (leaving .atUnload 3 5).rack 0 = some (rackIn .atUnload 3 5) ∧ t.rack 0 = none ∧ t.completions.length = 1) ∧
    (∃ t, exec (.moveStart (withRackAt (pinsAt 2) 2)) (due (rackIn .inBath 1 2) (moveOf 1 2 4 1000 true)) = .next t ∧
      t.schedule.map (·.executing) = [true]) ∧
    (∃ t, exec (.lineSecond [.carriage] (withRackAt (pinsAt 2) 2)) (due (rackIn .inBath 1 2) (moveOf 1 2 4 1000 true)) =
      .next t ∧ t.schedule.map (·.executing) = [true] ∧ (t.rack 0).map (fun r => (r.phase, r.station)) = some (.onCarriage, 0)) ∧
    part.slots.length = 24 :=
  ⟨⟨_, rfl, by decide +kernel, by decide +kernel⟩, ⟨_, rfl, by decide +kernel, by decide +kernel, by decide +kernel⟩,
    ⟨_, rfl, by decide +kernel⟩, ⟨_, rfl, by decide +kernel, by decide +kernel⟩, by decide +kernel⟩

end Sys2Proof.Tests
end

section
/-! PROOFS. The bath monitoring and replenishment (8): what the judging of a flag does to a bath, and SET EXHAUSTION
(R137). -/

namespace Sys2Proof.Machine

/-! ### One flag of a set -/

@[simp] theorem FlagSet.get_set_same (fs : FlagSet) (f : Flag) (v : Bool) : (fs.set f v).get f = v := by
  cases f <;> rfl

theorem FlagSet.get_set_other (fs : FlagSet) {f g : Flag} (v : Bool) (h : g ≠ f) : (fs.set f v).get g = fs.get g := by
  cases f <;> cases g <;> first | rfl | exact absurd rfl h

/-- A flag given the value it has leaves the set as it is. -/
theorem FlagSet.set_eq_self {fs : FlagSet} {f : Flag} {v : Bool} (h : fs.get f = v) : fs.set f v = fs := by
  subst h; cases f <;> rfl

/-! ### The conditions of a station as they are judged (R130) -/

theorem State.masked_of_not_maskable (s : State) (n : Nat) {f : Flag} (hf : f.maskable = false) :
    s.masked n f = false := by
  simp [State.masked, hf]

/-- Asserting a flag changes the baths, the event queue and the lost count alone. -/
theorem State.assertFlag_eq (s : State) (n : Nat) (f : Flag) :
    s.assertFlag n f = { s with
      baths := (s.assertFlag n f).baths, events := (s.assertFlag n f).events, lost := (s.assertFlag n f).lost } := by
  unfold State.assertFlag
  split
  · rfl
  split
  · rfl
  · conv_lhs => rw [State.post_eq]
    simp [State.setBath]

/-- Judging a flag changes the baths, the event queue and the lost count alone. -/
theorem State.judgeFlag_eq (s : State) (n : Nat) (f : Flag) (p : Bool) :
    s.judgeFlag n f p = { s with
      baths := (s.judgeFlag n f p).baths, events := (s.judgeFlag n f p).events, lost := (s.judgeFlag n f p).lost } := by
  cases p with
  | false => rfl
  | true => exact s.assertFlag_eq n f

@[simp] theorem State.bath_post (s : State) (k : EventKind) (a b c d m : Nat) :
    (s.post k a b c d).bath m = s.bath m := by
  simp [State.bath]

theorem State.bath_assertFlag_other (s : State) {m n : Nat} (f : Flag) (h : m ≠ n) :
    (s.assertFlag n f).bath m = s.bath m := by
  unfold State.assertFlag
  split
  · rfl
  split <;> simp [State.bath_setBath_other _ _ h]

/-- Judging a flag of one station leaves every other bath as it was. -/
theorem State.bath_judgeFlag_other (s : State) {m n : Nat} (f : Flag) (p : Bool) (h : m ≠ n) :
    (s.judgeFlag n f p).bath m = s.bath m := by
  cases p with
  | false => exact State.bath_setBath_other _ _ h
  | true => exact s.bath_assertFlag_other f h

section
variable (s : State) {n : Nat} (h : 1 ≤ n) (hn : n ≤ s.baths.length)
include h hn

theorem State.bath_releaseFlag_same (f : Flag) :
    (s.releaseFlag n f).bath n = { s.bath n with conds := (s.bath n).conds.set f false } :=
  State.bath_setBath_same _ _ h hn

/-- A flag that cannot be masked takes the value of its cause, and the bath keeps the rest but for its latches. -/
theorem State.bath_judgeFlag_same {f : Flag} (hf : f.maskable = false) (p : Bool) :
    ∃ l, (s.judgeFlag n f p).bath n = { s.bath n with conds := (s.bath n).conds.set f p, latches := l } := by
  cases p with
  | false => exact ⟨_, s.bath_releaseFlag_same h hn f⟩
  | true =>
    simp only [State.judgeFlag, if_true, State.assertFlag, s.masked_of_not_maskable n hf, Bool.or_false]
    split
    · next hc => exact ⟨_, by rw [FlagSet.set_eq_self hc]⟩
    · split
      · exact ⟨_, State.bath_setBath_same _ _ h hn⟩
      · exact ⟨_, (State.bath_post _ _ _ _ _ _ _).trans (State.bath_setBath_same _ _ h hn)⟩

/-- EXHAUSTED is true exactly while E is at the station's limit or above it (R134). -/
theorem State.bath_judgeExhausted_same :
    ∃ l, (s.judgeExhausted n).bath n =
      { s.bath n with
        conds := (s.bath n).conds.set .exhausted (decide ((s.stationCfg n).exhLimit ≤ (s.bath n).exhaustion))
        latches := l } := s.bath_judgeFlag_same h hn rfl _

end

/-! ### E restated (R137) -/

theorem State.one_le_of_isBath {s : State} {n : Nat} (h : s.isBath n = true) : 1 ≤ n := by
  by_contra hn
  obtain rfl : n = 0 := by omega
  simp [State.isBath, State.role, State.configured, Role.holdsBath] at h

/-- The part after SET EXHAUSTION has set E of a station, before EXHAUSTED is judged (R137). -/
def State.replaceExhaustion (s : State) (n e : Nat) : State :=
  ((s.setBath n { s.bath n with exhaustion := e }).releaseFlag n .exhUnknown).zeroCredits n

/-- The part after SET EXHAUSTION has set E of a station (R137). -/
def State.restateExhaustion (s : State) (n e : Nat) : State := (s.replaceExhaustion n e).judgeExhausted n

/-- A bath station has its E restated and is answered with it. -/
theorem setExhaustionOwner_of_isBath {s : State} {n hi lo : Byte} (h : s.isBath n.toNat = true) :
    setExhaustionOwner [n, hi, lo] s =
      (s.restateExhaustion n.toNat (min (hi.toNat * 256 + lo.toNat) 1000),
        0#8 :: wordBytes (min (hi.toNat * 256 + lo.toNat) 1000)) := by
  have hb : b2 (min (hi.toNat * 256 + lo.toNat) 1000) = wordBytes (min (hi.toNat * 256 + lo.toNat) 1000) := by
    rw [b2, min_eq_left (by omega)]
  have hu : u8 [n, hi, lo] 0 = n.toNat := rfl
  have hv : u16 [n, hi, lo] 1 = hi.toNat * 256 + lo.toNat := rfl
  have hok : resultByte .ok = [0#8] := rfl
  simp [setExhaustionOwner, hu, hv, h, hb, replyOk, hok, State.restateExhaustion, State.replaceExhaustion]

/-- Any other station is refused. -/
theorem setExhaustionOwner_of_not_isBath {s : State} {n hi lo : Byte} (h : s.isBath n.toNat = false) :
    setExhaustionOwner [n, hi, lo] s = (s, [3#8]) := by
  have hu : u8 [n, hi, lo] 0 = n.toNat := rfl
  have hbad : resultByte .badValue = [3#8] := rfl
  simp [setExhaustionOwner, hu, h, refuse, hbad]

/-- The credits of the station's entries become 0, and nothing else of any delivery changes. -/
@[simp] theorem State.restateExhaustion_deliveries (s : State) (n e : Nat) :
    (s.restateExhaustion n e).deliveries =
      s.deliveries.map fun d => if d.station = n then { d with credit := 0 } else d := by
  rw [State.restateExhaustion, State.judgeExhausted, State.judgeFlag_eq]
  rfl

/-- Restating E changes the baths, the deliveries, the event queue and the lost count alone. -/
theorem State.restateExhaustion_eq (s : State) (n e : Nat) :
    s.restateExhaustion n e = { s with
      baths := (s.restateExhaustion n e).baths, deliveries := (s.restateExhaustion n e).deliveries
      events := (s.restateExhaustion n e).events, lost := (s.restateExhaustion n e).lost } := by
  rw [State.restateExhaustion_deliveries]
  conv_lhs => rw [State.restateExhaustion, State.judgeExhausted, State.judgeFlag_eq]
  rfl

@[simp] theorem State.restateExhaustion_link (s : State) (n e : Nat) : (s.restateExhaustion n e).link = s.link := by
  rw [State.restateExhaustion_eq]

theorem State.bath_restateExhaustion_other (s : State) {m n : Nat} (e : Nat) (h : m ≠ n) :
    (s.restateExhaustion n e).bath m = s.bath m :=
  calc (s.restateExhaustion n e).bath m
      = (s.replaceExhaustion n e).bath m := State.bath_judgeFlag_other _ _ _ h
    _ = (s.setBath n { s.bath n with exhaustion := e }).bath m := State.bath_setBath_other _ _ h
    _ = s.bath m := State.bath_setBath_other _ _ h

theorem State.bath_replaceExhaustion_same (s : State) {n : Nat} (e : Nat) (h : 1 ≤ n) (hn : n ≤ s.baths.length) :
    (s.replaceExhaustion n e).bath n =
      { s.bath n with exhaustion := e, conds := (s.bath n).conds.set .exhUnknown false } := by
  have hset := State.bath_setBath_same s { s.bath n with exhaustion := e } h hn
  have hrel := State.bath_releaseFlag_same (s.setBath n { s.bath n with exhaustion := e }) h (by simpa using hn)
    .exhUnknown
  rw [hset] at hrel
  exact hrel

/-- The station's bath: E restated, EXH_UNKNOWN released, EXHAUSTED judged from the new E, the rest kept but for its
latches. -/
theorem State.bath_restateExhaustion_same (s : State) {n : Nat} (e : Nat) (h : 1 ≤ n) (hn : n ≤ s.baths.length) :
    ∃ l, (s.restateExhaustion n e).bath n =
      { s.bath n with
        exhaustion := e
        conds := ((s.bath n).conds.set .exhUnknown false).set .exhausted (decide ((s.stationCfg n).exhLimit ≤ e))
        latches := l } := by
  have hlen : n ≤ (s.replaceExhaustion n e).baths.length := by
    simpa [State.replaceExhaustion, State.zeroCredits, State.releaseFlag] using hn
  obtain ⟨l, hl⟩ := State.bath_judgeExhausted_same _ h hlen
  rw [s.bath_replaceExhaustion_same e h hn] at hl
  exact ⟨l, hl⟩

/-! ### The part as the owner of a request finds it -/

@[simp] theorem State.taken_cfg (s : State) (kind : Byte) (f : Frame) (inp : Inputs) :
    (s.taken kind f inp).cfg = s.cfg := by
  rw [State.taken, State.accept_eq]; rfl

@[simp] theorem State.taken_baths (s : State) (kind : Byte) (f : Frame) (inp : Inputs) :
    (s.taken kind f inp).baths = s.baths := by
  rw [State.taken, State.accept_eq]; rfl

@[simp] theorem State.taken_deliveries (s : State) (kind : Byte) (f : Frame) (inp : Inputs) :
    (s.taken kind f inp).deliveries = s.deliveries := by
  rw [State.taken, State.accept_eq]; rfl

@[simp] theorem State.taken_link_addr (s : State) (kind : Byte) (f : Frame) (inp : Inputs) :
    (s.taken kind f inp).link.addr = s.link.addr := by
  rw [State.taken, State.accept_eq]; rfl

@[simp] theorem State.taken_bath (s : State) (kind : Byte) (f : Frame) (inp : Inputs) (m : Nat) :
    (s.taken kind f inp).bath m = s.bath m := by
  simp [State.bath]

@[simp] theorem State.taken_stationCfg (s : State) (kind : Byte) (f : Frame) (inp : Inputs) (m : Nat) :
    (s.taken kind f inp).stationCfg m = s.stationCfg m := by
  simp [State.stationCfg]

@[simp] theorem State.taken_isBath (s : State) (kind : Byte) (f : Frame) (inp : Inputs) (m : Nat) :
    (s.taken kind f inp).isBath m = s.isBath m := by
  simp [State.isBath, State.role, State.configured]

/-- A request that has left the link as its acceptance did ends with the replying link and the outputs driven. -/
theorem State.drive_answer_eq {s u : State} {kind : Byte} {f : Frame} {inp : Inputs}
    (h : u.link = (s.taken kind f inp).link) (payload : List Byte) :
    (u.answer kind f payload).drive =
      { u with link := s.replying kind f inp payload, out := (u.answer kind f payload).drive.out } := by
  conv_lhs => rw [State.drive_eq]
  simp [State.answer, State.replying, replyKind, h]

/-- Driving the outputs leaves every bath as it is. -/
@[simp] theorem State.bath_drive (s : State) (m : Nat) : s.drive.bath m = s.bath m := by
  rw [State.drive_eq]; rfl

@[simp] theorem State.bath_answer (s : State) (kind : Byte) (f : Frame) (payload : List Byte) (m : Nat) :
    (s.answer kind f payload).bath m = s.bath m := rfl

/-! ### SET EXHAUSTION -/

/-- A SET EXHAUSTION that is heard reaches its owner. -/
theorem exec_setExhaustion_heard {s : State} {f : Frame} (inp : Inputs) {n hi lo : Byte} (h : s.hears 0x0A#8 f)
    (hp : f.payload = [n, hi, lo]) :
    exec (.setExhaustion f inp) s =
      .next ((setExhaustionOwner [n, hi, lo] (s.taken 0x0A#8 f inp)).1.answer 0x0A#8 f
        (setExhaustionOwner [n, hi, lo] (s.taken 0x0A#8 f inp)).2).drive := by
  have hlen : (catalogue 0x0A#8).1 f.payload = true := by rw [hp]; rfl
  have hheard := State.telegram_heard h rfl inp
  rw [if_pos hlen, hp] at hheard
  exact hheard

/-- Settles O38: the owner's two answers (R137), with what restating E does to the baths and the deliveries, and its
frame. -/
theorem setExhaustionRestatesE : Obligations.SetExhaustionRestatesE := by
  intro f inp s n hi lo hh hp hlen
  have hexec := exec_setExhaustion_heard inp hh hp
  refine ⟨fun hb hn => ?_, fun hb => ?_⟩
  · have h1 : 1 ≤ n.toNat := State.one_le_of_isBath hb
    rw [setExhaustionOwner_of_isBath (by simpa using hb)] at hexec
    generalize min (hi.toNat * 256 + lo.toNat) 1000 = e at hexec ⊢
    obtain ⟨l, hsame⟩ := State.bath_restateExhaustion_same (s.taken 0x0A#8 f inp) e h1 (by simp [hlen, hn])
    have hlink := State.restateExhaustion_link (s.taken 0x0A#8 f inp) n.toNat e
    refine ⟨_, hexec, ?_, ?_, ?_, fun m hm => ?_, ?_, ?_⟩
    · simp [hsame]
    · simp [State.cond, hsame, FlagSet.get_set_other]
    · simp [State.cond, hsame]
    · simp [State.bath_restateExhaustion_other _ _ hm]
    · rw [State.drive_answer_eq hlink]
      simp
    · rw [State.drive_answer_eq hlink]
      exact congrArg (fun v : State => { v with
          link := s.replying 0x0A#8 f inp (0#8 :: wordBytes e)
          out := (((s.taken 0x0A#8 f inp).restateExhaustion n.toNat e).answer 0x0A#8 f (0#8 :: wordBytes e)).drive.out })
        (State.restateExhaustion_eq _ _ _)
  · rw [setExhaustionOwner_of_not_isBath (by simpa using hb)] at hexec
    exact ⟨_, hexec, s.onlyAnswered_refuse _ _ _ _⟩

end Sys2Proof.Machine
end

section
/-! PROOFS. The requests of the Link Port itself (10.7, 10.8): how the fields of a reply are read back (R171, 12.11),
and IDENTIFY (R163), STATUS (R164) and CLEAR LINK (R159). -/

namespace Sys2Proof.Machine

/-! ### The bytes of a field -/

@[simp] theorem wordBytes_length (n : Nat) : (wordBytes n).length = 2 := by simp [wordBytes]
@[simp] theorem b1_length (n : Nat) : (b1 n).length = 1 := by simp [b1]
@[simp] theorem b2_length (n : Nat) : (b2 n).length = 2 := by simp [b2]
@[simp] theorem b4_length (n : Nat) : (b4 n).length = 4 := by simp [b4]
@[simp] theorem bBool_length (b : Bool) : (bBool b).length = 1 := by simp [bBool]

/-- The result byte of OK stands before the fields of the reply. -/
theorem replyOk_eq (fields : List Byte) : replyOk fields = b1 0 ++ fields := rfl

@[simp] theorem u8_b1 (n : Nat) : u8 (b1 n) 0 = min n 255 := by
  have hu : u8 (b1 n) 0 = min n 255 % 256 := rfl
  omega

@[simp] theorem u8_bBool (b : Bool) : u8 (bBool b) 0 = b.toNat := by
  cases b <;> rfl

/-- The two bytes of a word spell its low sixteen bits. -/
@[simp] theorem u16_wordBytes (n : Nat) : u16 (wordBytes n) 0 = n % 65536 := by
  have hu : u16 (wordBytes n) 0 = n / 256 % 256 * 256 + n % 256 := rfl
  omega

@[simp] theorem u16_b2 (n : Nat) : u16 (b2 n) 0 = min n 65535 := by
  rw [b2, u16_wordBytes]
  omega

@[simp] theorem u32_b4 (n : Nat) : u32 (b4 n) 0 = min n 4294967295 := by
  have hhigh : u16 (b4 n) 0 = min n 4294967295 / 65536 % 65536 := u16_wordBytes _
  have hlow : u16 (b4 n) 2 = min n 4294967295 % 65536 := u16_wordBytes _
  rw [u32, hhigh, hlow]
  omega

/-! ### A field among the others of a payload -/

section
variable (a p : List Byte) {i : Nat}

@[simp] theorem u8_append_left (h : i < a.length) : u8 (a ++ p) i = u8 a i := by
  rw [u8, List.getD_append _ _ _ _ h, ← u8]

@[simp] theorem u8_append_right (h : a.length ≤ i) : u8 (a ++ p) i = u8 p (i - a.length) := by
  rw [u8, List.getD_append_right _ _ _ _ h, ← u8]

@[simp] theorem u16_append_left (h : i + 1 < a.length) : u16 (a ++ p) i = u16 a i := by
  rw [u16, u8_append_left _ _ (by omega), u8_append_left _ _ h, ← u16]

@[simp] theorem u16_append_right (h : a.length ≤ i) : u16 (a ++ p) i = u16 p (i - a.length) := by
  rw [u16, u8_append_right _ _ h, u8_append_right _ _ (by omega), u16, Nat.sub_add_comm h]

@[simp] theorem u32_append_left (h : i + 3 < a.length) : u32 (a ++ p) i = u32 a i := by
  rw [u32, u16_append_left _ _ (by omega), u16_append_left _ _ h, ← u32]

@[simp] theorem u32_append_right (h : a.length ≤ i) : u32 (a ++ p) i = u32 p (i - a.length) := by
  rw [u32, u16_append_right _ _ h, u16_append_right _ _ (by omega), u32, Nat.sub_add_comm h]

end

/-! ### Bit sets -/

theorem bitsToNat_lt (bs : List Bool) : bitsToNat bs < 2 ^ bs.length := by
  induction bs with
  | nil => decide
  | cons b bs ih =>
    rw [bitsToNat, List.length_cons, pow_succ]
    cases b <;> simp <;> omega

/-- A bit of the number is the bit of the list in that place. -/
@[simp] theorem testBit_bitsToNat (bs : List Bool) (i : Nat) : (bitsToNat bs).testBit i = bs.getD i false := by
  induction bs generalizing i with
  | nil => exact Nat.zero_testBit i
  | cons b bs ih =>
    cases i with
    | zero => cases b <;> simp [bitsToNat]
    | succ i =>
      have hhalf : bitsToNat (b :: bs) / 2 = bitsToNat bs := by
        rw [bitsToNat]
        split <;> omega
      rw [Nat.testBit_succ, hhalf, ih, List.getD_cons_succ]

theorem stationBits_le (p : Nat → Bool) : stationBits p ≤ 65535 := by
  have hlt := bitsToNat_lt (allStations.map p)
  have hlen : (allStations.map p).length = 16 := by simp [allStations]
  rw [hlen, ← stationBits] at hlt
  omega

/-- Bit n − 1 of a set of stations stands for station n. -/
theorem testBit_stationBits (p : Nat → Bool) {n : Nat} (h : 1 ≤ n) (hn : n ≤ 16) :
    (stationBits p).testBit (n - 1) = p n := by
  have hlt : n - 1 < (allStations.map p).length := by simp [allStations]; omega
  have hat : 1 + (n - 1) = n := by omega
  rw [stationBits, testBit_bitsToNat, List.getD_eq_getElem _ _ hlt, List.getElem_map]
  simp [allStations, hat]

/-! ### The part as the owner of a request finds it -/

section
variable (s : State) (kind : Byte) (f : Frame) (inp : Inputs)

@[simp] theorem State.taken_clock : (s.taken kind f inp).clock = s.clock := by
  rw [State.taken, State.accept_eq]; rfl

@[simp] theorem State.taken_storeWrite : (s.taken kind f inp).storeWrite = s.storeWrite := by
  rw [State.taken, State.accept_eq]; rfl

@[simp] theorem State.taken_line : (s.taken kind f inp).line = s.line := by
  rw [State.taken, State.accept_eq]; rfl

@[simp] theorem State.taken_slots : (s.taken kind f inp).slots = s.slots := by
  rw [State.taken, State.accept_eq]; rfl

@[simp] theorem State.taken_completions : (s.taken kind f inp).completions = s.completions := by
  rw [State.taken, State.accept_eq]; rfl

@[simp] theorem State.taken_schedule : (s.taken kind f inp).schedule = s.schedule := by
  rw [State.taken, State.accept_eq]; rfl

@[simp] theorem State.taken_deferred : (s.taken kind f inp).deferred = s.deferred := by
  rw [State.taken, State.accept_eq]; rfl

@[simp] theorem State.taken_driver : (s.taken kind f inp).driver = s.driver := by
  rw [State.taken, State.accept_eq]; rfl

@[simp] theorem State.taken_manifold : (s.taken kind f inp).manifold = s.manifold := by
  rw [State.taken, State.accept_eq]; rfl

@[simp] theorem State.taken_pump : (s.taken kind f inp).pump = s.pump := by
  rw [State.taken, State.accept_eq]; rfl

@[simp] theorem State.taken_link_straps : (s.taken kind f inp).link.straps = s.link.straps := by
  rw [State.taken, State.accept_eq]; rfl

@[simp] theorem State.taken_link_discards : (s.taken kind f inp).link.discards = s.link.discards := by
  rw [State.taken, State.accept_eq]; rfl

@[simp] theorem State.taken_link_degraded : (s.taken kind f inp).link.degraded = s.link.degraded := by
  rw [State.taken, State.accept_eq]; rfl

/-- The acceptance of the frame has cleared LINK_LOST (R162). -/
@[simp] theorem State.taken_link_lost : (s.taken kind f inp).link.lost = false := by
  rw [State.taken, State.accept_eq]

@[simp] theorem State.taken_racks : (s.taken kind f inp).racks = s.racks := by
  simp [State.racks, State.rack]

@[simp] theorem State.taken_configured (n : Nat) : (s.taken kind f inp).configured n = s.configured n := by
  simp [State.configured]

@[simp] theorem State.taken_hostClosed (n : Nat) : (s.taken kind f inp).hostClosed n = s.hostClosed n := by
  simp [State.hostClosed]

@[simp] theorem State.taken_isOpen (n : Nat) : (s.taken kind f inp).isOpen n = s.isOpen n := by
  simp [State.isOpen, State.role]

end

/-- An event queue within its capacity stays so when an event is posted (R166). -/
theorem State.post_events_length_le {s : State} (h : s.events.length ≤ 64) (k : EventKind) (a b c d : Nat) :
    (s.post k a b c d).events.length ≤ 64 := by
  rcases s.post_cases k a b c d with ⟨hlt, heq⟩ | ⟨-, heq⟩
  · rw [heq, List.length_append]
    exact hlt
  · rwa [heq]

/-- The acceptance of a frame posts at most LINK_RESTORED, so the event queue keeps its capacity (R162, R166). -/
theorem State.taken_events_length_le {s : State} (h : s.events.length ≤ 64) (kind : Byte) (f : Frame) (inp : Inputs) :
    (s.taken kind f inp).events.length ≤ 64 := by
  simp only [State.taken, State.accept, State.touchWatchdog, State.restartWatchdog, State.postLine]
  split
  · apply State.post_events_length_le
    exact h
  · exact h

/-! ### Requests without a field -/

/-- A request whose kind allows an empty payload alone, heard with one, is answered by its owner (R160, R161). -/
theorem State.telegram_empty {s : State} {kind : Byte} {f : Frame} (h : s.hears kind f) (hp : f.payload = [])
    (hk : isRequestKind kind = true) (hlen : (catalogue kind).1 = fixedLength 0) (inp : Inputs) :
    event inp (fun t => t.telegram kind f) s =
      .next (((catalogue kind).2 [] (s.taken kind f inp)).1.answer kind f
        ((catalogue kind).2 [] (s.taken kind f inp)).2).drive := by
  rw [State.telegram_heard h hk, hlen, hp]
  rfl

/-! ### IDENTIFY -/

/-- The fields of IDENTIFY (R163, 12.11). -/
def State.identity (s : State) : List Byte := (identifyOwner [] s).2

theorem exec_identify_heard {s : State} {f : Frame} (inp : Inputs) (h : s.hears 0x01#8 f) (hp : f.payload = []) :
    exec (.identify f inp) s =
      .next ((s.taken 0x01#8 f inp).answer 0x01#8 f (s.taken 0x01#8 f inp).identity).drive :=
  State.telegram_empty h hp rfl rfl inp

/-- The capacities as IDENTIFY sends them (R163). -/
def capacityBytes : List Byte := [16#8, 24#8, 8#8, 12#8, 4#8, 4#8, 8#8, 192#8, 8#8, 24#8, 16#8, 64#8, 16#8, 8#8, 200#8]

@[simp] theorem capacityBytes_length : capacityBytes.length = 15 := by simp [capacityBytes]

theorem State.identity_eq (s : State) :
    s.identity = b1 0 ++ (b2 2416 ++ (b1 (65 + Config.revision.val) ++ (capacityBytes ++ (b1 s.link.addr ++
      (bBool (s.cfg.line.override != 0) ++ (b1 s.link.straps ++ b1 s.cfg.line.count)))))) := by
  have hcap : [16, 24, 8, 12, 4, 4, 8, 192, 8, 24, 16, 64, 16, 8, 200].flatMap b1 = capacityBytes := rfl
  simp only [State.identity, identifyOwner, replyOk_eq, hcap, List.append_assoc]

/-- Settles O29: each field of the reply (R163) read back from the payload, in a part that has only answered. -/
theorem identifyAnswers : Obligations.IdentifyAnswers := by
  intro f inp s hh hp hstraps hcount
  have haddr : s.link.addr ≤ 255 := by
    obtain ⟨-, -, -, -, ha⟩ := hh
    omega
  have hrev := Config.revision.isLt
  refine ⟨_, _, exec_identify_heard inp hh hp, s.onlyAnswered_refuse _ _ _ _, ?_⟩
  rw [State.identity_eq]
  exact ⟨by simp, by simp, by simp, by simp, by simp; omega, rfl, by simp [haddr], by simp,
    by simp; omega, by simp; omega⟩

/-! ### STATUS -/

/-- The fields of STATUS (R164, 12.11). -/
def State.statusFields (s : State) : List Byte := (statusOwner [] s).2

theorem exec_status_heard {s : State} {f : Frame} (inp : Inputs) (h : s.hears 0x02#8 f) (hp : f.payload = []) :
    exec (.status f inp) s =
      .next ((s.taken 0x02#8 f inp).answer 0x02#8 f (s.taken 0x02#8 f inp).statusFields).drive :=
  State.telegram_empty h hp rfl rfl inp

theorem State.statusFields_eq (s : State) :
    s.statusFields = b1 0 ++ (b1 s.line.state.code ++ (b4 s.clock ++ (b1 s.lineFlagBits ++ (b1 s.busyBits ++
      (b1 s.racks.length ++ (b1 (s.racks.filter fun e => e.2.recipe.isNone).length ++ (b1 s.schedule.length ++
      (b1 s.deferred.length ++ (b1 s.events.length ++ (b1 s.completions.length ++
      (b2 (stationBits fun n => s.configured n && s.hostClosed n) ++
      (b2 (stationBits fun n => s.isBath n && !s.isOpen n) ++ b2 s.link.discards)))))))))))) := by
  simp only [State.statusFields, statusOwner, replyOk_eq, List.append_assoc]

theorem LineState.code_le (st : LineState) : st.code ≤ 5 := by
  cases st <;> decide

theorem DriverState.moving_iff (d : DriverState) :
    d.moving = true ↔ d = .approaching ∨ d = .raise ∨ d = .drain ∨ d = .travel ∨ d = .lower := by
  cases d <;> decide

/-- The six line flags fit one byte (12.3). -/
theorem State.lineFlagBits_le (s : State) : s.lineFlagBits ≤ 255 := by
  have hlt : s.lineFlagBits < 64 := bitsToNat_lt _
  omega

/-- The five busy indications fit one byte (R164). -/
theorem State.busyBits_le (s : State) : s.busyBits ≤ 255 := by
  have hlt : s.busyBits < 32 := bitsToNat_lt _
  omega

/-- There are no more racks than slots (R52). -/
theorem State.racks_length_le (s : State) : s.racks.length ≤ 24 := by
  simpa [State.racks, allSlots] using List.length_filterMap_le (fun k => (s.rack k).map fun r => (k, r)) allSlots

theorem State.statusFields_lineFlags (s : State) : u8 s.statusFields 6 = s.lineFlagBits := by
  simp [State.statusFields_eq, s.lineFlagBits_le]

theorem State.statusFields_busy (s : State) : u8 s.statusFields 7 = s.busyBits := by
  simp [State.statusFields_eq, s.busyBits_le]

/-- Settles O30: each field of the reply (R164) read back from the payload, in a part that has only answered. The counts
fit their bytes by the bounds of the queues and the plans. -/
theorem statusAnswers : Obligations.StatusAnswers := by
  rintro f inp s hh hp ⟨hevents, -, hcompletions, -, hdiscards⟩ ⟨hschedule, -⟩ hdeferred hclock
  refine ⟨_, _, _, exec_status_heard inp hh hp, rfl, s.onlyAnswered_refuse _ _ _ _, ?_⟩
  have hposted := State.taken_events_length_le hevents 0x02#8 f inp
  have hcode := s.line.state.code_le
  have hracks := s.racks_length_le
  have horphans := List.length_filter_le (fun e => e.2.recipe.isNone) s.racks
  rw [State.statusFields_lineFlags, State.statusFields_busy, State.statusFields_eq]
  refine ⟨by simp, by simp, by simp; omega, by simp; omega, ?_, ?_, by simp; omega, by simp; omega, by simp; omega,
    by simp; omega, by simp; omega, by simp; omega, fun n h1 hn => ?_, fun n h1 hn => ?_, by simp; omega⟩
  · simp only [State.lineFlagBits, testBit_bitsToNat]
    simp
  · simp only [State.busyBits, testBit_bitsToNat]
    simp [DriverState.moving_iff, State.storeBusy]
  · simp [stationBits_le, testBit_stationBits _ h1 hn]
  · simp [stationBits_le, testBit_stationBits _ h1 hn]

/-! ### CLEAR LINK -/

theorem exec_clearLink_heard {s : State} {f : Frame} (inp : Inputs) (h : s.hears 0x14#8 f) (hp : f.payload = []) :
    exec (.clearLink f inp) s =
      .next ((clearLinkOwner [] (s.taken 0x14#8 f inp)).1.answer 0x14#8 f
        (clearLinkOwner [] (s.taken 0x14#8 f inp)).2).drive :=
  State.telegram_empty h hp rfl rfl inp

/-- Settles O47: the owner clears the counter and LINK_DEGRADED (R159), and driving changes the outputs alone. -/
theorem clearLinkClearsTheCounter : Obligations.ClearLinkClearsTheCounter := by
  intro f inp s hh hp
  refine ⟨_, exec_clearLink_heard inp hh hp, ?_, ?_, ?_, ?_⟩
  · simp [State.answer, clearLinkOwner]
  · simp [State.answer, clearLinkOwner]
  · simp [State.answer, clearLinkOwner]
  · conv_lhs => rw [State.drive_eq]
    simp [State.answer, clearLinkOwner, State.replying, replyKind, replyOk_eq, b1]

end Sys2Proof.Machine
end

section
/-! PROOFS. READ EVENTS (R167): how a record among records of one length is found in a payload, and the request's reply
and frame. -/

namespace Sys2Proof.Machine

/-! ### A record among records of one length -/

theorem length_flatMap_of_length_eq {α : Type} {g : α → List Byte} {k : Nat} (hg : ∀ e, (g e).length = k)
    (es : List α) : (es.flatMap g).length = k * es.length := by
  simp [List.length_flatMap, hg, Nat.mul_comm]

/-- The record of an entry stands behind as many records as entries stand before it. -/
theorem flatMap_eq_of_getElem? {α : Type} {g : α → List Byte} {k : Nat} (hg : ∀ e, (g e).length = k) {es : List α}
    {i : Nat} {e : α} (h : es[i]? = some e) :
    ∃ before after, es.flatMap g = before ++ (g e ++ after) ∧ before.length = k * i := by
  obtain ⟨hi, rfl⟩ := List.getElem?_eq_some_iff.mp h
  refine ⟨(es.take i).flatMap g, (es.drop (i + 1)).flatMap g, ?_, ?_⟩
  · rw [← List.flatMap_cons, ← List.flatMap_append, List.cons_getElem_drop_succ, List.take_append_drop]
  · rw [length_flatMap_of_length_eq hg, List.length_take_of_le hi.le]

/-! ### An event record (12.8) -/

theorem EventKind.code_le (k : EventKind) : k.code ≤ 26 := by
  cases k <;> decide

theorem Event.bytes_eq (e : Event) :
    e.bytes = b4 e.second ++ (b1 e.kind.code ++ (b1 e.station ++ (b1 e.slot ++ (b2 e.tag ++ b2 e.detail)))) := by
  simp only [Event.bytes, List.append_assoc]

@[simp] theorem Event.bytes_length (e : Event) : e.bytes.length = 11 := by simp [Event.bytes]

/-- The fields of an event record, read from the place in a payload where the record begins. -/
theorem Event.fields_of_bytes (before after : List Byte) (e : Event) {p : List Byte} {n : Nat}
    (hp : p = before ++ (e.bytes ++ after)) (hn : before.length = n) :
    u32 p n = min e.second 4294967295 ∧ u8 p (n + 4) = e.kind.code ∧ u8 p (n + 5) = min e.station 255 ∧
      u8 p (n + 6) = min e.slot 255 ∧ u16 p (n + 7) = min e.tag 65535 ∧ u16 p (n + 9) = min e.detail 65535 := by
  subst hp hn
  have hkind := e.kind.code_le
  simp only [Event.bytes_eq, List.append_assoc]
  refine ⟨by simp, ?_, by simp, by simp, by simp, by simp⟩
  simp
  omega

/-! ### READ EVENTS -/

/-- The part without its eight oldest event records, the lost count at 0 (R167). -/
def State.dropEvents (s : State) : State := { s with events := s.events.drop 8, lost := 0 }

/-- What stands before the records in the reply of READ EVENTS: the result, their number and the lost count (12.11). -/
def State.eventsLead (s : State) : List Byte := b1 0 ++ (b1 (min 8 s.events.length) ++ b1 s.lost)

@[simp] theorem State.eventsLead_length (s : State) : s.eventsLead.length = 3 := rfl

/-- The records in the reply of READ EVENTS (R167). -/
def State.eventRecords (s : State) : List Byte := (s.events.take 8).flatMap Event.bytes

@[simp] theorem State.eventRecords_length (s : State) : s.eventRecords.length = 11 * min 8 s.events.length := by
  rw [State.eventRecords, length_flatMap_of_length_eq Event.bytes_length, List.length_take]

/-- The reply of READ EVENTS (R167, 12.11). -/
def State.eventsReply (s : State) : List Byte :=
  s.eventsLead ++ (s.eventRecords ++ b1 s.dropEvents.events.length)

theorem readEventsOwner_eq (s : State) : readEventsOwner [] s = (s.dropEvents, s.eventsReply) := by
  simp [readEventsOwner, State.dropEvents, State.eventsReply, State.eventsLead, State.eventRecords, replyOk_eq]

theorem State.eventsReply_length (s : State) : s.eventsReply.length = 4 + 11 * min 8 s.events.length := by
  simp [State.eventsReply]
  omega

/-- The number of records left follows the records sent. -/
theorem State.eventsReply_left (s : State) (h : s.events.length ≤ 64) :
    u8 s.eventsReply (3 + 11 * min 8 s.events.length) = s.dropEvents.events.length := by
  have hleft : s.dropEvents.events.length ≤ 255 := by
    simp [State.dropEvents]
    omega
  have hhead : (s.eventsLead ++ s.eventRecords).length = 3 + 11 * min 8 s.events.length := by simp
  rw [State.eventsReply, ← List.append_assoc, u8_append_right _ _ hhead.le, hhead, Nat.sub_self, u8_b1,
    min_eq_left hleft]

/-- The record of the event at place `i` of the queue begins at byte 3 + 11 i of the reply. -/
theorem State.eventsReply_record (s : State) {i : Nat} {e : Event} (hi : i < 8) (he : s.events[i]? = some e) :
    ∃ before after, s.eventsReply = before ++ (e.bytes ++ after) ∧ before.length = 3 + 11 * i := by
  have htake : (s.events.take 8)[i]? = some e := by rwa [List.getElem?_take_of_lt hi]
  obtain ⟨before, after, heq, hlen⟩ := flatMap_eq_of_getElem? Event.bytes_length htake
  refine ⟨s.eventsLead ++ before, after ++ b1 s.dropEvents.events.length, ?_, ?_⟩
  · rw [State.eventsReply, State.eventRecords, heq]
    simp only [List.append_assoc]
  · rw [List.length_append, State.eventsLead_length, hlen]

theorem exec_readEvents_heard {s : State} {f : Frame} (inp : Inputs) (h : s.hears 0x19#8 f) (hp : f.payload = []) :
    exec (.readEvents f inp) s =
      .next ((s.taken 0x19#8 f inp).dropEvents.answer 0x19#8 f (s.taken 0x19#8 f inp).eventsReply).drive := by
  have hheard : exec (.readEvents f inp) s = .next ((readEventsOwner [] (s.taken 0x19#8 f inp)).1.answer 0x19#8 f
      (readEventsOwner [] (s.taken 0x19#8 f inp)).2).drive := State.telegram_empty h hp rfl rfl inp
  rw [hheard, readEventsOwner_eq]

/-- Settles O51: the owner takes the eight oldest records and clears the lost count (R167); the number left and each
record are read back from their places in the reply. -/
theorem readEventsTakesTheOldest : Obligations.ReadEventsTakesTheOldest := by
  rintro f inp s u hh hp rfl hevents hlost
  refine ⟨_, (s.taken 0x19#8 f inp).eventsReply, exec_readEvents_heard inp hh hp, ?_⟩
  rw [State.drive_answer_eq (u := (s.taken 0x19#8 f inp).dropEvents) (inp := inp) rfl]
  generalize s.taken 0x19#8 f inp = u at hevents hlost ⊢
  refine ⟨rfl, rfl, rfl, u.eventsReply_length, ?_, ?_, ?_, u.eventsReply_left hevents, fun i e hi he => ?_⟩
  · simp [State.eventsReply, State.eventsLead]
  · simp [State.eventsReply, State.eventsLead]
  · simp [State.eventsReply, State.eventsLead, hlost]
  · obtain ⟨before, after, heq, hlen⟩ := u.eventsReply_record hi he
    have hfields := Event.fields_of_bytes before after e heq hlen
    simpa only [Nat.add_right_comm 3] using hfields

end Sys2Proof.Machine
end

section
/-! PROOFS. Steps, power, RESET, the start-up load over a failing image, and the outputs after every command (1.3, 1.11,
9.7, 11.3, 11.4). -/

namespace Sys2Proof.Machine

/-! ### What a command is -/

/-- Settles O1: both sides unfold to the same command. -/
theorem stepRunsTheCommandInFront : Obligations.StepRunsTheCommandInFront := fun _ _ _ => ⟨rfl, rfl⟩

/-- What a command does to a part that takes it, between the latching of the pins and the driving of the outputs; the
four commands of power and RESET, which are taken in every part, apart. -/
def effect : Instr → State → State
  | .startupLoadDone _ => State.endLoad
  | .lineSecond order _ => fun t => t.lineSecond order
  | .intervalExpiry station index _ => fun t => t.examineAt station index
  | .overstay slot _ => fun t => t.examineOverstay slot
  | .warmupTimeout _ => State.timeoutWarmup
  | .moveStart _ => State.moveStart
  | .carriageArrival _ => State.carriageArrival
  | .hoistUpLimit _ => State.upLimit
  | .drainEnd _ => State.drainDue
  | .hoistDownLimit _ => State.downLimit
  | .hookFall _ => State.hookFall
  | .phaseTimeout _ => State.phaseTimeout
  | .dunkDue slot _ => fun t => t.dunkNow slot
  | .cradleUpLimit station _ => fun t => t.cradleUp station
  | .dunkOutEnd station _ => fun t => t.dunkOutEnd station
  | .cradleDownLimit station _ => fun t => t.cradleDown station
  | .cradleTimeout station _ => fun t => t.cradleTimeout station
  | .frameWrap _ => State.wrapDue
  | .burstOnTick station _ => fun t => t.burstOn station
  | .burstOffTick station _ => fun t => t.burstOff station
  | .gasPressureChange _ => State.readGas
  | .pumpStart _ => State.startPump
  | .pumpFlowFault _ => State.flowFault
  | .pumpRunComplete _ => State.completeRun
  | .storeWriteEnd good _ => fun t => t.storeWriteEnd good
  | .linkWatchdogExpiry _ => State.watchdogExpiry
  | .frameGap _ => State.breakFrame
  | .byteDropped _ => State.breakFrame
  | .frameLengthDiscard length _ => fun t => t.lengthByte length
  | .frameCheckFailed kind f _ => fun t => t.checkFailed kind f
  | .framePassedOver kind f _ => fun t => t.passOver kind f
  | .unknownRequestKind kind f _ => fun t => t.unknownKind kind f
  | .replySent inp => fun t => t.replySent inp
  | .manifoldTick _ => State.tickDue
  | .leadByteReceived b _ => fun t => t.receiveByte b
  | c => fun t => match requestOf c with
    | some (kind, _, f, _) => t.telegram kind f
    | none => t

/-- Every command but the four of power and RESET is an event: latched pins, an effect, driven outputs. -/
theorem exec_shape (c : Instr) (s : State) :
    exec c s = event (Laws.Pins.pinsOf c) (effect c) s ∨ (∃ wrote inp, c = .powerOn wrote inp) ∨
    (∃ wrote inp, c = .resetAsserted wrote inp) ∨ (∃ inp, c = .resetReleased inp) ∨
    ∃ wrote inp, c = .powerLoss wrote inp := by
  cases c
  case powerOn wrote inp => exact .inr (.inl ⟨wrote, inp, rfl⟩)
  case resetAsserted wrote inp => exact .inr (.inr (.inl ⟨wrote, inp, rfl⟩))
  case resetReleased inp => exact .inr (.inr (.inr (.inl ⟨inp, rfl⟩)))
  case powerLoss wrote inp => exact .inr (.inr (.inr (.inr ⟨wrote, inp, rfl⟩)))
  all_goals exact .inl rfl

/-- In a part that is off or held an event does nothing; otherwise it ends with its outputs driven. -/
theorem event_cases {inp : Inputs} {f : State → State} {s t : State} (h : event inp f s = .next t) :
    t = s ∨ t = (f (s.latch inp)).drive := by
  unfold event at h
  split at h <;> cases h
  · exact .inr rfl
  · exact .inl rfl

/-! ### Power and RESET (R5, R16, R19) -/

/-- What an interrupted store write leaves of the image (R19). -/
theorem State.interruptStore_eq (s : State) (wrote : Bool) :
    s.interruptStore wrote = { s with nv := (s.interruptStore wrote).nv, storeWrite := none } := by
  unfold State.interruptStore
  split
  · rfl
  · next h => rw [← h]

theorem State.interruptStore_nv_none {s : State} (h : s.storeWrite = none) (wrote : Bool) :
    (s.interruptStore wrote).nv = s.nv := by simp [State.interruptStore, h]

theorem State.interruptStore_nv_some {s : State} {c : Settings} (h : s.storeWrite = some c) (wrote : Bool) :
    (s.interruptStore wrote).nv = if wrote = true then .image c (crc16 c.bytes) else .damaged := by
  simp [State.interruptStore, h]

/-- A full reset leaves every block in its full-reset state. -/
theorem State.fullReset_freshlyReset (s : State) (run : RunState) (inp : Inputs) :
    (s.fullReset run inp).freshlyReset inp := by
  have hstraps : strapAddress inp.straps = if 1 ≤ inp.straps ∧ inp.straps ≤ 30 then inp.straps else 1 := by
    simp [strapAddress, within]
  refine ⟨rfl, rfl, rfl, rfl, rfl, ⟨rfl, rfl, rfl, ?_, rfl, rfl, rfl⟩, ⟨?_, rfl, rfl, rfl⟩, ⟨rfl, ?_, rfl, rfl⟩,
    ⟨rfl, rfl, rfl, rfl, rfl, rfl, rfl⟩, ⟨rfl, rfl, rfl, rfl, ?_, rfl⟩, ?_, ⟨rfl, rfl⟩,
    ⟨rfl, rfl, rfl, rfl, rfl, rfl, hstraps⟩⟩
  · exact fun c hc => List.eq_of_mem_replicate hc
  · exact fun r hr => List.eq_of_mem_replicate hr
  · exact fun l hl => List.eq_of_mem_replicate hl
  · exact fun v hv => List.eq_of_mem_replicate hv
  · intro b hb
    obtain rfl : b = {} := List.eq_of_mem_replicate hb
    exact ⟨rfl, rfl, rfl, rfl, rfl, rfl, rfl, rfl, rfl⟩

/-- Settles O3: the three causes of a full reset lead to `State.fullReset`. -/
theorem fullResetLeavesTheResetState : Obligations.FullResetLeavesTheResetState := by
  intro s wrote inp
  refine ⟨⟨_, rfl, State.fullReset_freshlyReset _ _ _, ?_, rfl, fun h => State.interruptStore_nv_none h wrote,
    fun c h => State.interruptStore_nv_some h wrote⟩, fun h => ?_, fun hr hreply hrestart => ?_⟩
  · have hpending : (s.interruptStore wrote).pending = s.pending := by rw [State.interruptStore_eq]
    exact hpending
  · refine ⟨s.fullReset (.loading .pin) inp, ?_, State.fullReset_freshlyReset _ _ _, rfl, rfl, rfl⟩
    simp [exec, execResetReleased, State.resetReleased, h]
  · refine ⟨s.fullReset (.loading .restart) inp, ?_, State.fullReset_freshlyReset _ _ _, rfl, rfl, rfl⟩
    have hsome : s.link.reply.isSome = true := Option.isSome_iff_ne_none.mpr hreply
    have hexec : exec (.replySent inp) s = event inp (fun t => t.replySent inp) s := rfl
    rw [hexec, event_running hr]
    simp [State.replySent, hsome, hrestart, State.fullReset, State.drive, State.reset]

/-- A part that halts releases its outputs, closes its path and ends a store write; the rest stays (R5, R19). -/
theorem State.halt_frame (s : State) (run : RunState) (wrote : Bool) (inp : Inputs) :
    s.halt run wrote inp =
      { s with run := run, pins := inp, out := .released, storeWrite := none, nv := (s.interruptStore wrote).nv,
               link := { s.link with path := .closed, rx := [], reply := none } } := by
  unfold State.halt
  rw [State.interruptStore_eq]

/-- Settles O4: both commands halt a part, or leave it as it is. -/
theorem powerLossAndResetHalt : Obligations.PowerLossAndResetHalt := by
  intro s wrote inp
  have halted (run : RunState) :
      (s.halt run wrote inp).run = run ∧ (s.halt run wrote inp).out = .released ∧
      (s.halt run wrote inp).link.path = .closed ∧ (s.halt run wrote inp).link.reply = none ∧
      (s.halt run wrote inp).storeWrite = none ∧ (s.storeWrite = none → (s.halt run wrote inp).nv = s.nv) ∧
      (∀ c, s.storeWrite = some c →
        (s.halt run wrote inp).nv = if wrote = true then .image c (crc16 c.bytes) else .damaged) ∧
      s.halt run wrote inp =
        { s with run := (s.halt run wrote inp).run, pins := inp, out := (s.halt run wrote inp).out,
                 storeWrite := (s.halt run wrote inp).storeWrite, nv := (s.halt run wrote inp).nv,
                 link := { s.link with path := .closed, rx := [], reply := none } } := by
    rw [State.halt_frame]
    exact ⟨rfl, rfl, rfl, rfl, rfl, fun h => State.interruptStore_nv_none h wrote,
      fun c h => State.interruptStore_nv_some h wrote, rfl⟩
  refine ⟨fun h => ⟨s.halt .off wrote inp, ?_, halted .off⟩, fun h => ?_,
    fun h => ⟨s.halt .held wrote inp, ?_, halted .held⟩, fun h => ?_⟩
  · simp [exec, execPowerLoss, State.powerLoss, h]
  · simp [exec, execPowerLoss, State.powerLoss, h]
  · rcases h with h | ⟨cause, h⟩ <;> simp [exec, execResetAsserted, State.resetAsserted, h, RunState.live]
  · rcases h with h | h <;> simp [exec, execResetAsserted, State.resetAsserted, h, RunState.live]

/-! ### The outputs (R168, R169) -/

/-- The outputs of a state never contradict each other (R3, R4). -/
theorem State.outputs_exclusive (s : State) : s.outputs.exclusive := by
  refine ⟨?_, ?_, ?_⟩
  · simp only [State.outputs, beq_iff_eq]
    rintro ⟨hraise, hlower⟩
    rw [hraise] at hlower
    cases hlower
  · cases hp : s.pump with
    | none => simp [State.outputs, hp]
    | some p =>
      have hnodup : allStations.Nodup := List.nodup_range'
      have hle := List.nodup_iff_count_le_one.mp hnodup p.station
      have heq : (id ∘ fun n => p.station == n) = fun n => n == p.station := by
        funext n; simp [Bool.beq_comm]
      simp only [State.outputs, hp, List.filter_map, List.length_map, heq]
      rwa [← List.countP_eq_length_filter]
  · intro hp v hv
    have hnone : s.pump = none := by simpa [State.outputs] using hp
    simp only [State.outputs, hnone, List.mem_map] at hv
    obtain ⟨-, -, rfl⟩ := hv
    rfl

theorem Outputs.released_exclusive : Outputs.released.exclusive := by
  refine ⟨by simp [Outputs.released], by simp [Outputs.released], ?_⟩
  exact fun _ v hv => List.eq_of_mem_replicate hv

theorem LineState.tempering_temper (st : LineState) : st.tempering.1 = true ↔ st ≠ .dormant := by
  cases st <;> decide

theorem LineState.tempering_setback (st : LineState) : st.tempering.2.1 = true ↔ st = .standby := by
  cases st <;> decide

theorem LineState.tempering_circulate (st : LineState) : st.tempering.2.2 = true ↔ st ≠ .dormant := by
  cases st <;> decide

/-- The configured stations are those of the rail up to the station count. -/
theorem State.mem_stations {s : State} {n : Nat} : n ∈ s.stations ↔ 1 ≤ n ∧ n ≤ 16 ∧ s.configured n = true := by
  simp [State.stations, allStations, and_assoc, Nat.lt_succ_iff]

theorem State.configured_of_role {s : State} {n : Nat} (h : s.role n ≠ .unused) : s.configured n = true := by
  by_contra hc
  exact h (by simp [State.role, hc])

theorem State.role_ne_unused_of_isBath {s : State} {n : Nat} (h : s.isBath n = true) : s.role n ≠ .unused := by
  intro hu
  simp [State.isBath, hu, Role.holdsBath] at h

theorem State.alertDue_iff (s : State) :
    s.alertDue = true ↔ s.events ≠ [] ∨ s.completions ≠ [] ∨
      ∃ k r, k < 24 ∧ s.rack k = some r ∧ r.phase = .awaitingReport := by
  simp [State.alertDue, State.mem_racks, or_assoc, and_assoc]

/-- A route's source as it is computed is the source as its rule says (R169). -/
theorem State.sourceTrue_iff {s : State} (h : s.out.alert = s.alertDue) (r : Route) :
    s.sourceTrue s.alertDue r = true ↔ s.sourceHolds r := by
  obtain ⟨source, arg, inverted⟩ := r
  cases source
  case anyLatch =>
    simp only [State.sourceTrue, State.sourceHolds, List.any_eq_true, State.mem_stations, Bool.and_eq_true]
    constructor
    · rintro ⟨n, ⟨h1, hn, -⟩, hb, hl⟩
      exact ⟨n, h1, hn, hb, hl⟩
    · rintro ⟨n, h1, hn, hb, hl⟩
      exact ⟨n, ⟨h1, hn, State.configured_of_role (State.role_ne_unused_of_isBath hb)⟩, hb, hl⟩
  case unloadWaiting =>
    simp only [State.sourceTrue, State.sourceHolds, List.any_eq_true, State.unloads, List.mem_filter,
      State.mem_stations, beq_iff_eq]
    constructor
    · rintro ⟨n, ⟨⟨h1, hn, -⟩, hr⟩, hp⟩
      exact ⟨n, h1, hn, hr, hp⟩
    · rintro ⟨n, h1, hn, hr, hp⟩
      exact ⟨n, ⟨⟨h1, hn, State.configured_of_role (by rw [hr]; decide)⟩, hr⟩, hp⟩
  all_goals simp [State.sourceTrue, State.sourceHolds, h, State.configured, and_assoc]

/-- The outputs as driven follow the state (R3, R4, R113, R139, R143, R153, R168, R169). -/
theorem State.outputsFollow_of_out_eq {s : State} (h : s.out = s.outputs) : s.outputsFollow := by
  intro _
  have halert : s.out.alert = s.alertDue := by rw [h]; rfl
  rw [h]
  refine ⟨by simp [State.outputs], by simp [State.outputs], by simp [State.outputs, Option.isSome_iff_exists], rfl, ?_,
    LineState.tempering_temper _, LineState.tempering_setback _, LineState.tempering_circulate _, s.alertDue_iff,
    ⟨by simp [State.outputs, allStations], fun n h1 hn => ?_⟩, ⟨by simp [State.outputs], fun j r hr => ?_⟩,
    by simp [State.outputs, Option.isSome_iff_ne_none]⟩
  · refine List.map_congr_left fun c _ => ?_
    cases c.state <;> rfl
  · have hget : s.outputs.selectors.getD (n - 1) false = match s.pump with | some p => p.station == n | none => false := by
      have hlt : n - 1 < 16 := by omega
      have hat : 1 + (n - 1) = n := by omega
      simp [State.outputs, allStations, List.getD_eq_getElem?_getD, hlt, hat] <;> rfl
    rw [hget]
    cases s.pump <;> simp
  · have hsource := State.sourceTrue_iff halert r
    simp only [State.outputs, List.getElem?_map, hr, Option.map_some, Option.some.injEq, State.indicatorLevel]
    cases hi : r.inverted <;> simp [← hsource]

theorem State.drive_outputsFollow (s : State) : s.drive.outputsFollow := by
  intro hr
  have hrun : s.run = .running := by simpa using hr
  refine State.outputsFollow_of_out_eq ?_ hr
  rw [State.drive_running hrun]
  rfl

theorem State.drive_exclusive (s : State) : s.drive.out.exclusive := by
  unfold State.drive
  split
  · exact s.outputs_exclusive
  all_goals exact Outputs.released_exclusive

/-- Every command leaves outputs that follow the state and exclude each other. -/
theorem exec_outputs {c : Instr} {s t : State} (h : exec c s = .next t) :
    t = s ∨ (t.outputsFollow ∧ t.out.exclusive) := by
  have reset (u : State) (cause : ResetCause) (inp : Inputs) :
      (u.fullReset (.loading cause) inp).outputsFollow ∧ (u.fullReset (.loading cause) inp).out.exclusive :=
    ⟨fun hr => (RunState.noConfusion hr), Outputs.released_exclusive⟩
  rcases exec_shape c s with hf | ⟨wrote, inp, rfl⟩ | ⟨wrote, inp, rfl⟩ | ⟨inp, rfl⟩ | ⟨wrote, inp, rfl⟩
  · rw [hf] at h
    rcases event_cases h with rfl | rfl
    · exact .inl rfl
    · exact .inr ⟨State.drive_outputsFollow _, State.drive_exclusive _⟩
  · cases h
    refine .inr ⟨fun hr => ?_, Outputs.released_exclusive⟩
    simp only [State.powerOn, State.fullReset] at hr
    split at hr <;> cases hr
  · obtain rfl : s.resetAsserted wrote inp = t := by simpa [exec, execResetAsserted] using h
    unfold State.resetAsserted
    split
    · exact .inr ⟨fun hr => RunState.noConfusion hr, Outputs.released_exclusive⟩
    · exact .inl rfl
  · obtain rfl : s.resetReleased inp = t := by simpa [exec, execResetReleased] using h
    unfold State.resetReleased
    split
    · exact .inr (reset s .pin inp)
    · exact .inl rfl
  · obtain rfl : s.powerLoss wrote inp = t := by simpa [exec, execPowerLoss] using h
    unfold State.powerLoss
    split
    · exact .inl rfl
    · exact .inr ⟨fun hr => RunState.noConfusion hr, Outputs.released_exclusive⟩

/-- Settles O57: every command ends by driving the outputs, or leaves them released, or does nothing. -/
theorem stepsKeepTheOutputs : Obligations.StepsKeepTheOutputs := by
  intro s t hs he hstep
  unfold step at hstep
  split at hstep
  · cases hstep
    exact ⟨hs, he⟩
  · next c rest _ =>
    rcases exec_outputs hstep with rfl | h
    · exact ⟨hs, he⟩
    · exact h

/-- Settles O58: each property at the reset state, by evaluation or for want of anything it speaks of. -/
theorem resetMeetsTheInvariants : Obligations.ResetMeetsTheInvariants := by
  have hbursts (n : Nat) : burstOf (List.replicate 16 Burst.factory) n = .factory := by
    rcases n with _ | n
    · rfl
    · simp only [burstOf, atStation, List.getD_eq_getElem?_getD, List.getElem?_replicate]
      split <;> rfl
  have hempty : ∀ l ∈ State.reset.timelines, l = [] := fun l hl => List.eq_of_mem_replicate hl
  refine ⟨⟨by decide, by decide, by decide, by decide, by decide⟩, ⟨by decide, ?_⟩, ⟨.nil, ?_⟩, ⟨?_, by simp [State.reset], by simp [State.reset]⟩, ?_,
    fun h => RunState.noConfusion h, Outputs.released_exclusive, ⟨⟨⟨rfl, rfl, rfl, rfl, rfl, rfl, rfl⟩, by simp [State.reset],
      by simp [State.reset]⟩, by decide, by decide, by decide, by decide, by decide, by decide, by decide⟩, rfl,
    ⟨.nil, by simp [State.reset], by simp [State.reset]⟩, ?_, ⟨by simp [State.reset], by simp [State.reset]⟩, .nil,
    ⟨by decide, by simp [State.reset], by simp [State.reset]⟩⟩
  · intro l hl; simp [hempty l hl]
  · intro l hl; simp [hempty l hl]
  · intro i j _ _ _ hi
    have hlive : State.reset.cfg.live = List.replicate 16 .factory := rfl
    rw [hlive, hbursts] at hi
    cases hi
  · intro b hb
    obtain rfl : b = {} := List.eq_of_mem_replicate hb
    exact Nat.zero_le _
  · intro l hl; simp [hempty l hl]

end Sys2Proof.Machine
end

section
/-! PROOFS. What a command can do, once for all: the small acts that every operation of the blocks is made of. A statement
about every command is proved for each act, and then for the operations by their composition. -/

namespace Sys2Proof.Machine

/-! ### What a record keeps -/

/-- A rack record as the blocks change it in second `now`: it keeps its tag and recipe, becomes an orphan only without a
recipe, comes onto the carriage with station 0, and takes a new current station only by a lowering of this second (R53 to
R56). -/
structure Rack.Follows (now : Nat) (r q : Rack) : Prop where
  tag : q.tag = r.tag
  recipe : q.recipe = r.recipe
  orphan : q.phase = .orphan → r.phase = .orphan ∨ r.recipe = none
  carried : q.phase = .onCarriage → q.station = 0 ∨ (r.phase = .onCarriage ∧ q.station = r.station)
  place : q.station = 0 ∨ (q.station = r.station ∧ q.immersion = r.immersion ∧ q.unload = r.unload) ∨
    q.immersion = some now ∨ q.unload = some now

theorem Rack.Follows.refl (now : Nat) (r : Rack) : r.Follows now r :=
  ⟨rfl, rfl, .inl, fun h => .inr ⟨h, rfl⟩, .inr (.inl ⟨rfl, rfl, rfl⟩)⟩

theorem Rack.Follows.trans {now : Nat} {r q p : Rack} (h : r.Follows now q) (h' : q.Follows now p) : r.Follows now p where
  tag := h'.tag.trans h.tag
  recipe := h'.recipe.trans h.recipe
  orphan hp := by
    rcases h'.orphan hp with hq | hq
    · exact h.orphan hq
    · exact .inr (h.recipe ▸ hq)
  carried hp := by
    rcases h'.carried hp with h0 | ⟨hq, hst⟩
    · exact .inl h0
    · rw [hst]; exact h.carried hq
  place := by
    rcases h'.place with h0 | ⟨hst, himm, hun⟩ | hnow
    · exact .inl h0
    · rw [hst, himm, hun]; exact h.place
    · exact .inr (.inr hnow)

/-- A change that leaves tag, recipe, phase, station and the two seconds of a lowering alone. -/
theorem Rack.Follows.of_eq {now : Nat} {r q : Rack}
    (h : (q.tag, q.recipe, q.phase, q.station, q.immersion, q.unload) =
      (r.tag, r.recipe, r.phase, r.station, r.immersion, r.unload)) : r.Follows now q := by
  simp only [Prod.mk.injEq] at h
  obtain ⟨htag, hrec, hph, hst, himm, hun⟩ := h
  exact ⟨htag, hrec, fun hp => .inl (hph ▸ hp), fun hp => .inr ⟨hph ▸ hp, hst⟩, .inr (.inl ⟨hst, himm, hun⟩)⟩

/-- An act that touches nothing the whole-part statements speak of but within its bounds: the clock, the settings, the
image, the plans and the completion queue stay, every slot keeps its rack, and the queues and tables keep their sizes or
their capacities. -/
structure State.Quiet (s t : State) : Prop where
  run : t.run = s.run
  clock : t.clock = s.clock
  pins : t.pins = s.pins
  cfg : t.cfg = s.cfg
  nv : t.nv = s.nv
  storeWrite : t.storeWrite = s.storeWrite
  completions : t.completions = s.completions
  schedule : t.schedule = s.schedule
  timelines : t.timelines = s.timelines
  pending : t.pending = s.pending
  lineState : t.line.state = s.line.state
  running : t.manifold.running = s.manifold.running
  staged : t.manifold.staged = s.manifold.staged
  cradles : t.cradles.length = s.cradles.length
  baths : t.baths.length = s.baths.length
  valves : t.manifold.valves.length = s.manifold.valves.length ∨ t.manifold.valves.length = 16
  settle : t.line.settle.length = s.line.settle.length ∨ t.line.settle.length = 16
  slots : t.slots.length = s.slots.length
  racks : ∀ k, Option.Rel (Rack.Follows s.clock) (s.rack k) (t.rack k)
  events : t.events.length ≤ max s.events.length 64
  lost : t.lost ≤ max s.lost 255
  deliveries : t.deliveries.length ≤ max s.deliveries.length 16
  discards : t.link.discards ≤ max s.link.discards 65535
  path : t.link.path = s.link.path
  wire : (t.link.lost, t.link.addr, t.link.baud, t.link.watchdog) =
    (s.link.lost, s.link.addr, s.link.baud, s.link.watchdog)
  posts : s.events <+: t.events
  exhaustion : s.exhaustionBounded → t.exhaustionBounded
  accrual : s.accrualDue = [] → t.accrualDue = []

/-- The same slots, the same racks. -/
theorem racks_rel_refl (now : Nat) (s : State) (k : Nat) : Option.Rel (Rack.Follows now) (s.rack k) (s.rack k) := by
  cases s.rack k
  · exact .none
  · exact .some (Rack.Follows.refl _ _)

theorem State.Quiet.refl (s : State) : s.Quiet s where
  run := rfl
  clock := rfl
  pins := rfl
  cfg := rfl
  nv := rfl
  storeWrite := rfl
  completions := rfl
  schedule := rfl
  timelines := rfl
  pending := rfl
  lineState := rfl
  running := rfl
  staged := rfl
  cradles := rfl
  baths := rfl
  valves := .inl rfl
  settle := .inl rfl
  slots := rfl
  racks := racks_rel_refl _ s
  events := le_max_left _ _
  lost := le_max_left _ _
  deliveries := le_max_left _ _
  discards := le_max_left _ _
  path := rfl
  wire := rfl
  posts := List.prefix_rfl
  exhaustion := id
  accrual := id

/-- The work of the Link Port around a request: nothing but the link and the event queue changes, within bounds. -/
structure State.Relinked (s t : State) : Prop where
  eq : t = { s with link := t.link, events := t.events, lost := t.lost }
  events : t.events.length ≤ max s.events.length 64
  lost : t.lost ≤ max s.lost 255
  discards : t.link.discards ≤ max s.link.discards 65535
  posts : s.events <+: t.events

theorem State.Relinked.refl (s : State) : s.Relinked s :=
  ⟨rfl, le_max_left _ _, le_max_left _ _, le_max_left _ _, List.prefix_rfl⟩

theorem State.Relinked.trans {s t u : State} (h : s.Relinked t) (h' : t.Relinked u) : s.Relinked u where
  eq := by rw [h'.eq, h.eq]
  events := by have := h.events; have := h'.events; omega
  lost := by have := h.lost; have := h'.lost; omega
  discards := by have := h.discards; have := h'.discards; omega
  posts := h.posts.trans h'.posts

/-! ### The acts -/

/-- What a command may do beyond the quiet acts: change the plans, begin a move, give a slot to an orphan or to a new rack,
change settings, pass the line state out of DORMANT and STANDBY, apply the staged burst map while the manifold runs, work on the
link, take events away. -/
structure Scope where
  plans : Bool := false
  starts : Bool := false
  orphans : Bool := false
  admits : Bool := false
  settings : Bool := false
  modes : Bool := false
  applies : Bool := false
  links : Bool := false
  reads : Bool := false

/-- An interval as it was, or with its end made OPEN. -/
def Interval.Eased (a b : Interval) : Prop := a = b ∨ a = { b with stop := none }

/-- The chain `c` is what a walk answers for the rack of `slot` from its stay number `first` on, over these plans. -/
def State.Walked (s : State) (slot first : Nat) (c : Cursor) : Prop :=
  ∃ (v : State) (w : Trip) (cur : Cursor) (e : Nat), v.schedule = s.schedule ∧ v.timelines = s.timelines ∧ v.cfg.line = s.cfg.line ∧ w.slot = slot ∧
    w.first = first ∧ cur.step = first ∧ cur.entries = [] ∧ cur.stays = [] ∧ e ≤ Config.maxSecond ∧ v.walk w cur e = .ok c

/-- The plans with a chain booked (R89): the part of `State.bookChain` that concerns schedule and timelines. -/
def State.bookPlans (s : State) (slot first : Nat) (c : Cursor) : State :=
  c.stays.foldl (fun u e => u.addInterval e.1 e.2)
    ({ s with schedule := c.entries.foldl (fun l m => insertEntry m l) (dropBooked slot s.schedule) }.removeStaysFrom
      slot first)

theorem State.foldl_addInterval_eq (l : List (Nat × Interval)) (u : State) :
    l.foldl (fun u e => u.addInterval e.1 e.2) u =
      { u with timelines := (l.foldl (fun u e => u.addInterval e.1 e.2) u).timelines } := by
  induction l generalizing u with
  | nil => rfl
  | cons e l ih => rw [List.foldl_cons, ih]; rfl

/-- A booking changes the schedule and the timelines alone. -/
theorem State.bookPlans_eq (s : State) (slot first : Nat) (c : Cursor) :
    s.bookPlans slot first c =
      { s with
        schedule := c.entries.foldl (fun l m => insertEntry m l) (dropBooked slot s.schedule)
        timelines := (s.bookPlans slot first c).timelines } := by
  conv_lhs => rw [State.bookPlans, State.foldl_addInterval_eq]
  rfl

/-- The beginning of a move changes the schedule alone. -/
theorem State.markExecuting_eq (s : State) : s.markExecuting = { s with schedule := s.markExecuting.schedule } := by
  unfold State.markExecuting
  split <;> rfl

/-- The plans with a firm entry slid to `p` (R101): the part of `State.slideTo` that concerns schedule and timelines. -/
def State.slidePlans (s : State) (e : Entry) (p : Nat) : State :=
  let t := { s with schedule := s.schedule.map (slideEntry e p) }
  let t := t.setTimeline e.src
    (moveStays (·.isStay e.slot e.index) (moveSourceStay s.cfg.line.tl e.drain p) (t.timeline e.src))
  t.setTimeline e.dst
    (moveStays (·.isStay e.slot (e.index + 1)) (moveDestStay s.cfg.line.hold e.duration p) (t.timeline e.dst))

/-- The shifted entries of the rack of a firm entry (R102). -/
def State.rebookMoved (s : State) (e : Entry) (p : Nat) : List Entry :=
  (s.schedule.filter (Entry.bookedFor e.slot)).map (shiftEntry s.cfg.line.guard e p)

/-- The schedule a re-booking would make (R102). -/
def State.rebookPlan (s : State) (e : Entry) (p : Nat) : List Entry :=
  (s.rebookMoved e p).foldl (fun l m => insertEntry m l) (dropBooked e.slot s.schedule)

/-- The timelines a re-booking would make (R102). -/
def State.rebookLines (s : State) (e : Entry) (p : Nat) : List (List Interval) :=
  s.timelines.map fun l => sortIntervals (l.map (shiftStay s.cfg.line.tl e p))

/-- Every check of a re-booking passes (R102). -/
def State.rebookPasses (s : State) (e : Entry) (p : Nat) : Prop :=
  (∀ m ∈ s.rebookMoved e p, fits s.cfg.line.tp s.clock s.carriageAt ((s.rebookPlan e p).erase m) m = true) ∧
  ∀ l ∈ s.rebookLines e p, shiftedFits e l = true

/-- One act of a command within its scope. -/
inductive State.Act (sc : Scope) : State → State → Prop
  | quiet {s t} (h : s.Quiet t) : Act sc s t
  | relink {s t} (h : sc.links = true) (hr : s.Relinked t) : Act sc s t
  | file {s k r} (h : s.rack k = some r) (hroom : s.completions.length < 16) :
      Act sc s ({ s with completions := s.completions ++ [r.completion] }.freeSlot k)
  | free {s k r} (h : s.rack k = some r) (ho : r.recipe = none ∨ r.phase = .orphan) : Act sc s (s.freeSlot k)
  | take {s k r} (h : s.rack k = none)
      (hr : (sc.orphans = true ∧ r.phase = .orphan ∧ r.recipe = none) ∨ sc.admits = true) : Act sc s (s.setRack k r)
  | trim {s} {schedule : List Entry} {timelines : List (List Interval)} (h : sc.plans = true)
      (hs : schedule.Sublist s.schedule)
      (ht : List.Forall₂ (List.SublistForall₂ Interval.Eased) timelines s.timelines) :
      Act sc s { s with schedule := schedule, timelines := timelines }
  | book {s slot first c} (h : sc.plans = true) (hw : s.Walked slot first c) : Act sc s (s.bookPlans slot first c)
  | slide {s e p} (h : sc.plans = true) (hf : s.slideFits e p = true) : Act sc s (s.slidePlans e p)
  | rebook {s e p} (h : sc.plans = true) (hp : s.rebookPasses e p) (hmax : p ≤ Config.maxSecond) :
      Act sc s { s with schedule := s.rebookPlan e p, timelines := s.rebookLines e p }
  | start {s} (h : sc.starts = true) : Act sc s s.markExecuting
  | enter {s} (st : LineState) (h : sc.modes = true ∨ (s.line.state ≠ .dormant ∧ s.line.state ≠ .standby)) :
      Act sc s { s with line := { s.line with state := st } }
  | spin {s} (h : s.line.state.runsManifold = true) :
      Act sc s { s with manifold := { s.manifold with running := true } }
  | rest {s} : Act sc s { s with manifold := { s.manifold with running := false } }
  | live {s} (h : clash s.manifold.staged = none)
      (ha : sc.applies = true ∨ (s.manifold.running = false ∧ s.line.state.runsManifold = false)) :
      Act sc s { s with cfg := { s.cfg with live := s.manifold.staged } }
  | stage {s} (m : List Burst) (h : sc.settings = true) (hm : m.length = s.manifold.staged.length) :
      Act sc s { s with manifold := { s.manifold with staged := m } }
  | set {s} (c : Settings) (h : sc.settings = true) (hl : c.live = s.cfg.live)
      (hc : c.line = s.cfg.line)
      (hshape : (c.stations.length, c.closures.length, c.curves.length, c.recipes.length, c.patterns.length,
          c.routes.length) = (s.cfg.stations.length, s.cfg.closures.length, s.cfg.curves.length, s.cfg.recipes.length,
          s.cfg.patterns.length, s.cfg.routes.length)) : Act sc s { s with cfg := c }
  | tune {s} (c : LineCfg) (h : sc.settings = true) (hc : c.inRange = true) :
      Act sc s { s with cfg := { s.cfg with line := c } }.restartWatchdog
  | read {s} (h : sc.reads = true) : Act sc s { s with events := s.events.drop 8, lost := 0 }
  | store {s} (h : sc.settings = true) : Act sc s { s with storeWrite := some s.cfg }
  | written {s nv} (h : nv = .damaged ∨ ∃ c check, s.storeWrite = some c ∧ nv = .image c check) :
      Act sc s { s with storeWrite := none, nv := nv }

/-- A run of acts. -/
def State.Acts (sc : Scope) (s t : State) : Prop := Relation.ReflTransGen (State.Act sc) s t

section
variable {sc : Scope} {s t u : State}

theorem State.Acts.refl (s : State) : s.Acts sc s := Relation.ReflTransGen.refl

theorem State.Acts.trans (h : s.Acts sc t) (h' : t.Acts sc u) : s.Acts sc u := Relation.ReflTransGen.trans h h'

theorem State.Act.acts (h : s.Act sc t) : s.Acts sc t := Relation.ReflTransGen.single h

theorem State.Quiet.acts (h : s.Quiet t) : s.Acts sc t := (State.Act.quiet h).acts

/-- What every act keeps, a run of acts keeps. -/
theorem State.Acts.keeps {P : State → Prop} (h : s.Acts sc t) (hact : ∀ {a b}, State.Act sc a b → P a → P b) (hs : P s) :
    P t := by
  induction h with
  | refl => exact hs
  | tail _ hab ih => exact hact hab ih

theorem State.Acts.ite {c : Prop} [Decidable c] (h : s.Acts sc t) (h' : s.Acts sc u) :
    s.Acts sc (if c then t else u) := by
  split
  · exact h
  · exact h'

/-- A list of operations, each a run of acts, is a run of acts. -/
theorem State.acts_foldl {α : Type} {f : State → α → State} (hf : ∀ (u : State) (a : α), u.Acts sc (f u a)) (l : List α) (s : State) :
    s.Acts sc (l.foldl f s) := by
  induction l generalizing s with
  | nil => exact .refl s
  | cons a l ih => exact (hf s a).trans (ih _)

end

/-! ### Quiet operations: events -/

section
variable (s : State)

theorem State.quiet_post (k : EventKind) (a b c d : Nat) : s.Quiet (s.post k a b c d) := by
  rcases s.post_cases k a b c d with ⟨hlt, heq⟩ | ⟨-, heq⟩ <;> rw [heq]
  · refine { State.Quiet.refl s with events := ?_, posts := List.prefix_append _ _ }
    simp only [List.length_append, List.length_singleton]
    omega
  · refine { State.Quiet.refl s with lost := ?_ }
    simp only
    omega

theorem State.quiet_postLine (k : EventKind) (a b : Nat) : s.Quiet (s.postLine k a b) := s.quiet_post _ _ _ _ _

theorem State.quiet_postRack (k : EventKind) (a b c : Nat) : s.Quiet (s.postRack k a b c) := s.quiet_post _ _ _ _ _

/-- Nothing but the outputs changes. -/
theorem State.quiet_drive : s.Quiet s.drive := by
  rw [State.drive_eq]
  exact { State.Quiet.refl s with }

/-! ### Quiet operations: baths and flags -/

theorem mem_setStation {α : Type} {l : List α} {n : Nat} {v x : α} (h : x ∈ setStation l n v) : x = v ∨ x ∈ l := by
  rcases n with _ | n
  · exact .inr h
  · exact (List.mem_or_eq_of_mem_set h).symm

/-- An element read from a table is one of the table, or the one read outside it. -/
theorem atStation_mem_or {α : Type} (l : List α) (d : α) (n : Nat) : atStation l d n ∈ l ∨ atStation l d n = d := by
  rcases n with _ | n
  · exact .inr rfl
  · by_cases h : n < l.length
    · left; simp [atStation, List.getD_eq_getElem?_getD, h]
    · right; simp [atStation, List.getD_eq_getElem?_getD, h]

variable {s}

theorem State.exhaustion_le (h : s.exhaustionBounded) (n : Nat) : (s.bath n).exhaustion ≤ 1000 := by
  rcases atStation_mem_or s.baths {} n with hm | hd
  · exact h _ hm
  · rw [State.bath, hd]; exact Nat.zero_le _

/-- A bath changed with its exhaustion index in range, where it was. -/
theorem State.quiet_setBath {n : Nat} {b : Bath} (h : (s.bath n).exhaustion ≤ 1000 → b.exhaustion ≤ 1000) :
    s.Quiet (s.setBath n b) :=
  { State.Quiet.refl s with
    baths := by simp
    exhaustion := fun hs x hx => by
      rcases mem_setStation hx with rfl | hx
      · exact h (State.exhaustion_le hs n)
      · exact hs x hx }

theorem State.quiet_setCradle (n : Nat) (c : Cradle) : s.Quiet (s.setCradle n c) :=
  { State.Quiet.refl s with cradles := by simp }

theorem State.quiet_setValve (n : Nat) (b : Bool) : s.Quiet (s.setValve n b) :=
  { State.Quiet.refl s with valves := .inl (by simp [State.setValve]) }

end

/-! ### The same as runs of acts -/

section
variable {sc : Scope} (s : State)

theorem State.acts_post (k : EventKind) (a b c d : Nat) : s.Acts sc (s.post k a b c d) := (s.quiet_post k a b c d).acts

theorem State.acts_postLine (k : EventKind) (a b : Nat) : s.Acts sc (s.postLine k a b) := s.acts_post _ _ _ _ _

theorem State.acts_postRack (k : EventKind) (a b c : Nat) : s.Acts sc (s.postRack k a b c) := s.acts_post _ _ _ _ _

/-- A bath changed but for its exhaustion index. -/
theorem State.acts_setBath (n : Nat) (b : Bath) (h : b.exhaustion = (s.bath n).exhaustion) : s.Acts sc (s.setBath n b) :=
  (State.quiet_setBath fun hb => h ▸ hb).acts

theorem State.acts_setCradle (n : Nat) (c : Cradle) : s.Acts sc (s.setCradle n c) := (State.quiet_setCradle n c).acts

theorem State.acts_setValve (n : Nat) (b : Bool) : s.Acts sc (s.setValve n b) := (State.quiet_setValve n b).acts

end

end Sys2Proof.Machine
end

section
/-! PROOFS. Every operation of the blocks is a run of acts: agitation, baths, pump, line states, plans, slides. -/

namespace Sys2Proof.Machine

variable {sc : Scope} (s : State)

/-! ### Racks -/

theorem State.rack_congr {s t : State} (h : t.slots = s.slots) (k : Nat) : t.rack k = s.rack k := by
  rw [State.rack, h, State.rack]

theorem State.quiet_setRack {s : State} {k : Nat} {r q : Rack} (h : s.rack k = some r) (hf : r.Follows s.clock q) :
    s.Quiet (s.setRack k q) :=
  { State.Quiet.refl s with
    slots := by simp
    racks := fun j => by
      by_cases hj : j = k
      · subst hj
        rw [State.rack_setRack_same _ _ (State.rack_lt h), h]
        exact .some hf
      · rw [State.rack_setRack_other _ _ hj]
        exact racks_rel_refl _ s j }

theorem State.acts_setRack {k : Nat} {r : Rack} (h : s.rack k = some r) (q : Rack) (hf : r.Follows s.clock q) :
    s.Acts sc (s.setRack k q) := (State.quiet_setRack h hf).acts

theorem State.acts_modifyRack {k : Nat} {f : Rack → Rack} (hf : ∀ r, s.rack k = some r → r.Follows s.clock (f r)) :
    s.Acts sc (s.modifyRack k f) := by
  unfold State.modifyRack
  split
  · next r h => exact (State.quiet_setRack h (hf r h)).acts
  · exact .refl s

theorem State.acts_noteStart (k : Nat) : s.Acts sc (s.noteStart k) :=
  s.acts_modifyRack fun _ _ => Rack.Follows.of_eq rfl

/-- The rack found at a station is the one its slot holds. -/
theorem State.rack_of_rackAt {s : State} {n k : Nat} {r : Rack} (h : s.rackAt n = some (k, r)) :
    k < 24 ∧ s.rack k = some r ∧ r.station = n ∧ n ≠ 0 := by
  unfold State.rackAt at h
  split at h
  · cases h
  · next hn =>
    have hmem := State.mem_racks.mp (List.mem_of_find?_eq_some h)
    exact ⟨hmem.1, hmem.2, by simpa using List.find?_some h, hn⟩

/-- The rack found ON_CARRIAGE is the one its slot holds. -/
theorem State.rack_of_carried {s : State} {k : Nat} {r : Rack} (h : s.carried = some (k, r)) :
    k < 24 ∧ s.rack k = some r ∧ r.phase = .onCarriage := by
  have hmem := State.mem_racks.mp (List.mem_of_find?_eq_some h)
  exact ⟨hmem.1, hmem.2, by simpa using List.find?_some h⟩

/-! ### Flags (R130) -/

theorem State.acts_assertFlag (n : Nat) (f : Flag) : s.Acts sc (s.assertFlag n f) := by
  unfold State.assertFlag
  split
  · exact .refl s
  split
  · exact State.acts_setBath _ _ _ rfl
  · refine .trans ?_ (State.acts_post _ _ _ _ _ _)
    exact State.acts_setBath _ _ _ rfl

theorem State.acts_releaseFlag (n : Nat) (f : Flag) : s.Acts sc (s.releaseFlag n f) := State.acts_setBath _ _ _ rfl

theorem State.acts_judgeFlag (n : Nat) (f : Flag) (p : Bool) : s.Acts sc (s.judgeFlag n f p) := by
  cases p
  · exact s.acts_releaseFlag n f
  · exact s.acts_assertFlag n f

/-! ### Agitation (R113 to R125) -/

theorem State.acts_cradleFault (n : Nat) : s.Acts sc (s.cradleFault n) :=
  .trans (State.acts_setCradle _ _ _) (State.acts_assertFlag _ _ _)

theorem State.acts_beginDunk (n out : Nat) : s.Acts sc (s.beginDunk n out) :=
  .trans (State.acts_setValve _ _ _) (State.acts_setCradle _ _ _)

theorem State.acts_mapPlans (f : DunkPlan → DunkPlan) : s.Acts sc (s.mapPlans f) :=
  State.Quiet.acts { State.Quiet.refl s with }

theorem State.acts_createPlan (k : Nat) : s.Acts sc (s.createPlan k) := by
  unfold State.createPlan
  split
  · split
    · exact State.Quiet.acts { State.Quiet.refl s with }
    · exact .refl s
  · exact .refl s

theorem State.acts_dropPlan (k : Nat) : s.Acts sc (s.dropPlan k) := State.Quiet.acts { State.Quiet.refl s with }

theorem State.acts_dunkDue (p : DunkPlan) (d : Dunk) : s.Acts sc (s.dunkDue p d) := by
  refine .trans ?_ (State.acts_mapPlans _ _)
  split
  · exact s.acts_beginDunk _ _
  · exact .refl s

theorem State.acts_dunkNow (k : Nat) : s.Acts sc (s.dunkNow k) := by
  unfold State.dunkNow
  split
  · split
    · split
      · exact s.acts_dunkDue _ _
      · exact .refl s
    · exact .refl s
  · exact .refl s

theorem State.acts_closeValves : s.Acts sc s.closeValves :=
  State.Quiet.acts { State.Quiet.refl s with valves := .inl (by simp [State.closeValves]) }

/-- An apply, where the manifold does not turn in a running line state, or at a frame wrap (R120, R121). -/
theorem State.acts_applyBursts
    (h : sc.applies = true ∨ (s.manifold.running = false ∧ s.line.state.runsManifold = false)) :
    s.Acts sc s.applyBursts := by
  have hpending : s.Acts sc { s with manifold := { s.manifold with applyPending := false } } :=
    State.Quiet.acts { State.Quiet.refl s with }
  refine hpending.trans ?_
  unfold State.applyBursts
  simp only
  split
  · exact State.acts_postLine _ _ _ _
  · next hclash =>
    refine .trans ?_ (State.acts_postLine _ _ _ _)
    refine .trans (State.Act.acts (.live hclash h)) ?_
    split
    · exact State.acts_postLine _ _ _ _
    · exact .refl _

theorem State.acts_stopManifold (h : s.line.state.runsManifold = false) : s.Acts sc s.stopManifold := by
  have hstop : s.Acts sc { s.closeValves with manifold := { s.closeValves.manifold with running := false, tick := 0 } } :=
    s.acts_closeValves.trans (State.Act.rest.acts.trans (State.Quiet.acts { State.Quiet.refl _ with }))
  refine hstop.trans ?_
  unfold State.stopManifold
  simp only
  split
  · exact State.acts_applyBursts _ (.inr ⟨rfl, h⟩)
  · exact .refl _

theorem State.acts_startManifold (h : s.line.state.runsManifold = true) : s.Acts sc s.startManifold :=
  (State.Act.spin h).acts.trans (State.Quiet.acts { State.Quiet.refl _ with })

theorem State.acts_followLineState : s.Acts sc (s.followLineState s.line.state) := by
  unfold State.followLineState
  split
  · next h =>
    split
    · exact .refl s
    · exact s.acts_startManifold h
  · next h =>
    split
    · exact s.acts_stopManifold (by simpa using h)
    · exact .refl s

theorem State.acts_readGas : s.Acts sc s.readGas := by
  unfold State.readGas
  split
  · exact State.Quiet.acts { State.Quiet.refl s with }
  · refine s.acts_closeValves.trans ?_
    simp only
    split
    · exact .refl _
    · refine .trans ?_ (State.acts_postLine _ _ _ _)
      exact State.Quiet.acts { State.Quiet.refl s.closeValves with }

/-- The frame wrap before the valves are judged: the next frame number, and a pending apply performed (R118, R121). -/
def State.nextFrame (s : State) : State :=
  let t := { s with manifold := { s.manifold with tick := 0, frame := (s.manifold.frame + 1) % 65536 } }
  if t.manifold.applyPending then t.applyBursts else t

theorem State.wrapFrame_eq : s.wrapFrame = { s.nextFrame with manifold := { s.nextFrame.manifold with
    valves := allStations.map fun n => s.nextFrame.valve n && keepsTail s.cfg.live s.nextFrame.cfg.live n } } := rfl

theorem State.acts_nextFrame (h : sc.applies = true) : s.Acts sc s.nextFrame := by
  have hcount : s.Acts sc
      { s with manifold := { s.manifold with tick := 0, frame := (s.manifold.frame + 1) % 65536 } } :=
    State.Quiet.acts { State.Quiet.refl s with }
  refine hcount.trans ?_
  unfold State.nextFrame
  simp only
  split
  · exact State.acts_applyBursts _ (.inl h)
  · exact .refl _

theorem State.acts_wrapFrame (h : sc.applies = true) : s.Acts sc s.wrapFrame := by
  rw [State.wrapFrame_eq]
  refine (s.acts_nextFrame h).trans (State.Quiet.acts { State.Quiet.refl _ with valves := .inr ?_ })
  simp [allStations]

theorem State.acts_tick (h : sc.applies = true) : s.Acts sc s.tick := by
  refine .trans ?_ (State.acts_readGas _)
  split
  · exact State.Quiet.acts { State.Quiet.refl s with }
  · exact s.acts_wrapFrame h

theorem State.acts_burstOn (n : Nat) : s.Acts sc (s.burstOn n) := by
  unfold State.burstOn
  simp only
  split
  · exact State.acts_setValve _ _ _
  · exact .refl s

theorem State.acts_burstOff (n : Nat) : s.Acts sc (s.burstOff n) := by
  unfold State.burstOff
  split
  · exact State.acts_setValve _ _ _
  · exact .refl s

/-! ### Baths (R127 to R134) -/

theorem State.acts_sampleTemp (n : Nat) : s.Acts sc (s.sampleTemp n) := by
  unfold State.sampleTemp
  simp only
  split
  · split
    · refine .trans ?_ (State.acts_releaseFlag _ _ _)
      exact State.acts_setBath _ _ _ rfl
    · exact State.acts_setBath _ _ _ rfl
  · refine .trans (State.acts_setBath _ n { s.bath n with
      raw := (s.pin n).temp, rawValid := decide ((s.pin n).temp ≤ 600), invalid := min ((s.bath n).invalid + 1) 30 } rfl) ?_
    split
    · exact State.acts_assertFlag _ _ _
    · exact .refl _

theorem State.acts_judgeTemps (n : Nat) : s.Acts sc (s.judgeTemps n) :=
  .trans (State.acts_judgeFlag _ _ _ _) (State.acts_judgeFlag _ _ _ _)

theorem State.acts_judgeLevels (n : Nat) : s.Acts sc (s.judgeLevels n) := by
  refine .trans (State.acts_setBath _ n { s.bath n with
    levelLow := (s.pin n).levelLow, levelHigh := (s.pin n).levelHigh } rfl) ?_
  refine .trans (State.acts_judgeFlag _ n .levelLow (s.pin n).levelLow) ?_
  refine .trans (State.acts_judgeFlag _ n .levelHigh (s.pin n).levelHigh) ?_
  unfold State.judgeLevels
  simp only
  split
  · exact State.acts_setValve _ _ _
  · exact .refl _

theorem State.acts_watchStation (n : Nat) : s.Acts sc (s.watchStation n) :=
  ((s.acts_sampleTemp n).trans (State.acts_judgeTemps _ n)).trans
    ((State.acts_judgeLevels _ n).trans (State.acts_judgeFlag _ _ _ _))

theorem State.acts_watchBaths : s.Acts sc s.watchBaths :=
  (State.acts_foldl (fun u n => u.acts_watchStation n) _ _).trans
    (State.acts_foldl (fun u n => u.acts_judgeFlag n _ _) _ _)

/-! ### The replenish queue and the pump (R136 to R141) -/

theorem State.acts_setExhaustionIndex {n e : Nat} (h : (s.bath n).exhaustion ≤ 1000 → e ≤ 1000) :
    s.Acts sc (s.setExhaustionIndex n e) :=
  (State.quiet_setBath h).acts.trans (State.acts_judgeFlag _ _ _ _)

theorem modifyLast_length {α : Type} {p : α → Bool} {f : α → α} {l l' : List α} (h : modifyLast p f l = some l') :
    l'.length = l.length := by
  induction l generalizing l' with
  | nil => cases h
  | cons x xs ih =>
    unfold modifyLast at h
    split at h
    · next ys hys =>
      cases h
      simp [ih hys]
    · split at h <;> cases h
      simp

theorem modifyFirst_length {α : Type} {p : α → Bool} {f : α → α} {l : List α} {e : α × List α}
    (h : modifyFirst p f l = some e) : e.2.length = l.length := by
  induction l generalizing e with
  | nil => cases h
  | cons x xs ih =>
    unfold modifyFirst at h
    split at h
    · cases h
      simp
    · obtain ⟨e', he', rfl⟩ := Option.map_eq_some_iff.mp h
      simp [ih he']

theorem State.acts_enqueue (k n v c : Nat) : s.Acts sc (s.enqueue k n v c) := by
  unfold State.enqueue
  split
  · next h =>
    refine State.Quiet.acts { State.Quiet.refl s with deliveries := ?_ }
    simp only [Config.replenishCapacity] at h
    simp only [List.length_append, List.length_singleton]
    omega
  · split
    · next h => exact State.Quiet.acts { State.Quiet.refl s with deliveries := by simp [modifyLast_length h] }
    · exact State.acts_postRack _ _ _ _ _

/-- The exhaustion index a lift of a rack of the given load leaves at a station (R136). -/
def State.risenIndex (s : State) (n load : Nat) : Nat :=
  if s.role n = .develop then min ((s.bath n).exhaustion + load * (s.stationCfg n).exhPerLoad) 1000
  else (s.bath n).exhaustion

/-- The part with the exhaustion index risen by a lift (R136). -/
def State.raiseIndex (s : State) (n load : Nat) : State :=
  if s.role n = .develop then s.setExhaustionIndex n (s.risenIndex n load) else s

theorem State.liftReplenish_of_isBath {n : Nat} (h : s.isBath n = true) (k load : Nat) :
    s.liftReplenish k n load =
      if load * (s.stationCfg n).mlPerLoad = 0 then s.raiseIndex n load
      else (s.raiseIndex n load).enqueue k n (load * (s.stationCfg n).mlPerLoad)
        (s.risenIndex n load - (s.bath n).exhaustion) := by
  rw [State.liftReplenish, if_pos h]
  rfl

theorem State.acts_raiseIndex (n load : Nat) : s.Acts sc (s.raiseIndex n load) := by
  unfold State.raiseIndex
  split
  · next h => exact s.acts_setExhaustionIndex fun _ => by rw [State.risenIndex, if_pos h]; exact min_le_right _ _
  · exact .refl s

theorem State.acts_liftReplenish (k n load : Nat) : s.Acts sc (s.liftReplenish k n load) := by
  by_cases h : s.isBath n = true
  · rw [s.liftReplenish_of_isBath h]
    refine (s.acts_raiseIndex n load).trans ?_
    split
    · exact .refl _
    · exact State.acts_enqueue _ _ _ _ _
  · rw [State.liftReplenish, if_neg h]
    exact .refl s

theorem State.acts_startPump : s.Acts sc s.startPump := by
  unfold State.startPump
  split
  · exact .refl s
  · split
    · next h => exact State.Quiet.acts { State.Quiet.refl s with deliveries := by simp [modifyFirst_length h] }
    · exact .refl s

theorem State.acts_stopPump : s.Acts sc s.stopPump :=
  State.Quiet.acts { State.Quiet.refl s with deliveries := by simp [State.stopPump] }

theorem State.acts_readFlow : s.Acts sc s.readFlow := by
  unfold State.readFlow
  split
  · exact State.Quiet.acts { State.Quiet.refl s with }
  · exact .refl s

theorem State.acts_flowFault : s.Acts sc s.flowFault := by
  unfold State.flowFault
  split
  · split
    · refine s.acts_stopPump.trans (.trans ?_ (State.acts_postLine _ _ _ _))
      exact State.Quiet.acts { State.Quiet.refl s.stopPump with }
    · exact .refl s
  · exact .refl s

theorem State.acts_completeRun : s.Acts sc s.completeRun := by
  unfold State.completeRun
  split
  · next p _ =>
    split
    · have hdrop : s.Acts sc { s with pump := none, deliveries := s.deliveries.filter fun d => !d.running } :=
        State.Quiet.acts { State.Quiet.refl s with
          deliveries := (List.length_filter_le _ _).trans (le_max_left _ _) }
      refine hdrop.trans (State.acts_setExhaustionIndex _ fun h => ?_)
      exact (Nat.sub_le _ _).trans h
    · exact .refl s
  · exact .refl s

theorem State.acts_dropDeliveries (n : Nat) : s.Acts sc (s.dropDeliveries n) :=
  State.Quiet.acts { State.Quiet.refl s with deliveries := (List.length_filter_le _ _).trans (le_max_left _ _) }

/-! ### Line states (R143 to R149) -/

/-- The part as it enters a line state, before the event, the manifold and the pump follow (R143, R146). -/
def State.entered (s : State) (st : LineState) : State :=
  { s with
    line := { s.line with
      state := st
      warmStart := if st = LineState.warmup then some s.clock else none
      settle := if st = LineState.warmup then settleZero else s.line.settle }
    driver := { s.driver with faultCleared := if st = LineState.faulted then false else s.driver.faultCleared } }

/-- The part after the event of a passage, and with its manifold after the new state (R118, R144). -/
def State.announced (s : State) (st : LineState) (cause : LineCause) : State :=
  ((s.entered st).postLine .lineState 0 (st.code * 256 + cause.code)).followLineState st

theorem State.enterLine_eq (st : LineState) (cause : LineCause) :
    s.enterLine st cause = if st = .dormant then (s.announced st cause).stopPump else s.announced st cause := rfl

/-- What follows the entry into a line state in its event: a quiet rest, and the manifold after the state. -/
theorem State.acts_enterLine_rest (st : LineState) (cause : LineCause) :
    ({ s with line := { s.line with state := st } }).Acts sc (s.enterLine st cause) := by
  have hquiet : ({ s with line := { s.line with state := st } }).Acts sc (s.entered st) := by
    refine State.Quiet.acts { State.Quiet.refl _ with settle := ?_ }
    by_cases h : st = .warmup <;> simp [h, State.entered, settleZero]
  have hfollow : ((s.entered st).postLine .lineState 0 (st.code * 256 + cause.code)).Acts sc (s.announced st cause) := by
    have h := State.acts_followLineState (sc := sc)
      ((s.entered st).postLine .lineState 0 (st.code * 256 + cause.code))
    have hst : ((s.entered st).postLine .lineState 0 (st.code * 256 + cause.code)).line.state = st := by
      rw [State.postLine, State.post_line]; rfl
    rwa [hst] at h
  refine hquiet.trans ((State.acts_postLine _ _ _ _).trans (hfollow.trans ?_))
  rw [State.enterLine_eq]
  split
  · exact State.acts_stopPump _
  · exact .refl _

/-- A passage out of a state other than DORMANT and STANDBY, or in a command that may pass out of those too. -/
theorem State.acts_enterLine (h : sc.modes = true ∨ (s.line.state ≠ .dormant ∧ s.line.state ≠ .standby))
    (st : LineState) (cause : LineCause) : s.Acts sc (s.enterLine st cause) :=
  (State.Act.enter st h).acts.trans (s.acts_enterLine_rest st cause)

theorem State.acts_setDrainTarget (t : Option LineState) : s.Acts sc (s.setDrainTarget t) :=
  State.Quiet.acts { State.Quiet.refl s with }

theorem State.acts_beginDrain (h : sc.modes = true ∨ (s.line.state ≠ .dormant ∧ s.line.state ≠ .standby))
    (target : LineState) (cause : LineCause) : s.Acts sc (s.beginDrain target cause) := by
  unfold State.beginDrain
  split
  · exact (s.acts_setDrainTarget _).trans (State.acts_enterLine (s.setDrainTarget (some target)) h _ _)
  · exact (s.acts_setDrainTarget _).trans (State.acts_enterLine (s.setDrainTarget none) h _ _)

theorem State.acts_judgeDrain : s.Acts sc s.judgeDrain := by
  unfold State.judgeDrain
  split
  · next h =>
    refine (s.acts_setDrainTarget none).trans (State.acts_enterLine _ (.inr ?_) _ _)
    rw [State.setDrainTarget_line, h.1]
    exact ⟨nofun, nofun⟩
  · exact .refl s

theorem State.acts_judgeRecovery : s.Acts sc s.judgeRecovery := by
  unfold State.judgeRecovery
  split
  · next h =>
    have hf : s.line.state = .faulted := by simp [State.recoverable] at h; exact h.1.1
    exact s.acts_enterLine (.inr (by rw [hf]; exact ⟨nofun, nofun⟩)) _ _
  · exact .refl s

theorem State.acts_judgeWarmup : s.Acts sc s.judgeWarmup := by
  unfold State.judgeWarmup
  split
  · next h =>
    have hupdate : s.Acts sc s.updateSettle :=
      State.Quiet.acts { State.Quiet.refl s with settle := .inr (by simp [State.updateSettle, allStations]) }
    have hstate : s.updateSettle.line.state = .warmup := h
    refine hupdate.trans ?_
    simp only
    split
    · exact State.acts_enterLine _ (.inr (by rw [hstate]; exact ⟨nofun, nofun⟩)) _ _
    · exact .refl _
  · exact .refl s

theorem State.acts_timeoutWarmup : s.Acts sc s.timeoutWarmup := by
  unfold State.timeoutWarmup
  split
  · split
    · next h =>
      split
      · exact s.acts_enterLine (.inr (by rw [h.1]; exact ⟨nofun, nofun⟩)) _ _
      · refine (State.acts_postLine _ _ _ _).trans (State.acts_enterLine _ (.inr ?_) _ _)
        rw [State.postLine, State.post_line, h.1]
        exact ⟨nofun, nofun⟩
    · exact .refl s
  · exact .refl s

end Sys2Proof.Machine
end

section
/-! PROOFS. Every operation of the blocks is a run of acts: plans, slides, the end of a rack, the carriage, the second. -/

namespace Sys2Proof.Machine

variable {sc : Scope} (s : State)

/-! ### Plans that are trimmed (R67, R79, R81, R105) -/

theorem Interval.Eased.refl (a : Interval) : a.Eased a := .inl rfl

/-- A timeline trimmed: some intervals gone, the end of others made OPEN. -/
theorem trimmed_refl (l : List Interval) : List.SublistForall₂ Interval.Eased l l :=
  List.sublistForall₂_iff.mpr ⟨l, List.forall₂_same.mpr fun a _ => Interval.Eased.refl a, List.Sublist.refl l⟩

theorem trimmed_of_sublist {l l' : List Interval} (h : l'.Sublist l) : List.SublistForall₂ Interval.Eased l' l :=
  List.sublistForall₂_iff.mpr ⟨l', List.forall₂_same.mpr fun a _ => Interval.Eased.refl a, h⟩

theorem trimmed_map (f : Interval → Interval) (hf : ∀ iv, (f iv).Eased iv) (l : List Interval) :
    List.SublistForall₂ Interval.Eased (l.map f) l :=
  List.sublistForall₂_iff.mpr ⟨l, List.forall₂_map_left_iff.mpr (List.forall₂_same.mpr fun a _ => hf a),
    List.Sublist.refl l⟩

theorem trimmed_filterMap (f : Interval → Option Interval) (hf : ∀ iv iv', f iv = some iv' → iv'.Eased iv)
    (l : List Interval) : List.SublistForall₂ Interval.Eased (l.filterMap f) l := by
  induction l with
  | nil => exact .nil
  | cons a l ih =>
    cases h : f a with
    | none => rw [List.filterMap_cons_none h]; exact .cons_right ih
    | some b => rw [List.filterMap_cons_some h]; exact .cons (hf a b h) ih

theorem forall₂_setStation {α : Type} {R : α → α → Prop} (hR : ∀ a, R a a) {l : List α} {n : Nat} {v d : α}
    (h : R v (atStation l d n)) : List.Forall₂ R (setStation l n v) l := by
  rcases n with _ | n
  · exact List.forall₂_same.mpr fun a _ => hR a
  · rw [List.forall₂_iff_get]
    refine ⟨by simp [setStation], fun i hi hi' => ?_⟩
    simp only [setStation, List.get_eq_getElem, List.getElem_set]
    split
    · next hn =>
      subst hn
      simpa [atStation, List.getD_eq_getElem?_getD, hi'] using h
    · exact hR _

section
variable (h : sc.plans = true)
include h

theorem State.acts_trimSchedule {l : List Entry} (hl : l.Sublist s.schedule) : s.Acts sc { s with schedule := l } :=
  State.Act.acts (.trim h hl (List.forall₂_same.mpr fun a _ => trimmed_refl a))

theorem State.acts_setTimeline {n : Nat} {l : List Interval}
    (hl : List.SublistForall₂ Interval.Eased l (s.timeline n)) : s.Acts sc (s.setTimeline n l) :=
  State.Act.acts (.trim h (List.Sublist.refl _) (forall₂_setStation trimmed_refl hl))

theorem State.acts_mapTimelines {f : List Interval → List Interval}
    (hf : ∀ l, List.SublistForall₂ Interval.Eased (f l) l) : s.Acts sc (s.mapTimelines f) :=
  State.Act.acts (.trim h (List.Sublist.refl _)
    (List.forall₂_map_left_iff.mpr (List.forall₂_same.mpr fun a _ => hf a)))

theorem State.acts_removeBooked (k : Nat) : s.Acts sc (s.removeBooked k) :=
  (s.acts_trimSchedule h List.filter_sublist).trans (State.Quiet.acts { State.Quiet.refl _ with })

theorem State.acts_removeIntervals (k : Nat) : s.Acts sc (s.removeIntervals k) :=
  s.acts_mapTimelines h fun _ => trimmed_of_sublist List.filter_sublist

theorem State.acts_removeLaterIntervals (k step : Nat) : s.Acts sc (s.removeLaterIntervals k step) :=
  s.acts_mapTimelines h fun _ => trimmed_of_sublist List.filter_sublist

theorem State.acts_keepStay (k n step : Nat) : s.Acts sc (s.keepStay k n step) := by
  refine State.Act.acts (.trim h (List.Sublist.refl _) ?_)
  have htrim (l : List Interval) :
      List.SublistForall₂ Interval.Eased (l.filter (·.slot != k)) l := trimmed_of_sublist List.filter_sublist
  show List.Forall₂ _ (setStation (s.timelines.map fun l => l.filter (·.slot != k)) n
    ((s.timeline n).filter fun iv => !(iv.slot == k && decide (step < iv.step)))) s.timelines
  rcases n with _ | n
  · exact List.forall₂_map_left_iff.mpr (List.forall₂_same.mpr fun a _ => htrim a)
  · rw [List.forall₂_iff_get]
    refine ⟨by simp [setStation], fun i hi hi' => ?_⟩
    simp only [setStation, List.get_eq_getElem, List.getElem_set, List.getElem_map]
    split
    · next hn =>
      subst hn
      have hat : s.timeline (n + 1) = s.timelines[n] := by
        simp [State.timeline, atStation, List.getD_eq_getElem?_getD, hi']
      rw [hat]
      exact trimmed_of_sublist List.filter_sublist
    · exact htrim _

theorem State.acts_openStay (k step : Nat) : s.Acts sc (s.openStay k step) :=
  s.acts_mapTimelines h fun l => trimmed_map _ (fun iv => by split <;> simp [Interval.Eased]) l

omit h in
/-- What the examination of an interval leaves of it (R81). -/
theorem State.examine_eased {n : Nat} {iv iv' : Interval} (he : s.examine n iv = some iv') : iv'.Eased iv := by
  unfold State.examine at he
  split at he
  · split at he
    · split at he <;> cases he
      exact .inr rfl
    · cases he; exact .inl rfl
  · split at he <;> cases he
    exact .inl rfl

theorem State.acts_examineAll : s.Acts sc s.examineAll :=
  State.acts_foldl (fun u _ => u.acts_setTimeline h
    (trimmed_filterMap _ (fun _ _ he => u.examine_eased he) _)) _ _

theorem State.acts_examineAt (n i : Nat) : s.Acts sc (s.examineAt n i) := by
  unfold State.examineAt
  split
  · next iv hiv =>
    split
    · next iv' he =>
      refine s.acts_setTimeline h (List.sublistForall₂_iff.mpr ⟨_, ?_, List.Sublist.refl _⟩)
      rw [List.forall₂_iff_get]
      refine ⟨by simp, fun j hj hj' => ?_⟩
      simp only [List.get_eq_getElem, List.getElem_set]
      split
      · next hji =>
        subst hji
        rw [List.getElem?_eq_getElem hj', Option.some.injEq] at hiv
        rw [hiv]
        exact s.examine_eased he
      · exact .inl rfl
    · exact s.acts_setTimeline h (trimmed_of_sublist (List.eraseIdx_sublist _ _))
  · exact .refl s

/-! ### Chains that are booked (R89) -/

theorem State.acts_bookChain {k first : Nat} {c : Cursor} (hw : s.Walked k first c) :
    s.Acts sc (s.bookChain k first c) := by
  have hdeferred : s.Acts sc { s with deferred := s.deferred.filter (·.slot != k) } :=
    State.Quiet.acts { State.Quiet.refl s with }
  refine hdeferred.trans (.trans (State.Act.acts (.book h (slot := k) (first := first) (c := c) ?_))
    (State.acts_noteStart _ k))
  exact hw

omit h in
/-- The state a walk of a rack on the line leads to books its chain (R89). -/
theorem State.placeRack_some {s t : State} {k : Nat} {evac : Bool} (hp : s.placeRack k evac = some t) :
    ∃ r c, s.rack k = some r ∧ s.Walked k r.step c ∧ t = s.bookChain k r.step c := by
  unfold State.placeRack at hp
  split at hp
  · next r hr =>
    split at hp
    · next c hc =>
      cases hp
      refine ⟨r, c, hr, ⟨s, _, _, _, rfl, rfl, rfl, ?_, ?_, rfl, rfl, rfl, min_le_right _ _, hc⟩, rfl⟩
      · cases evac <;> rfl
      · cases evac <;> rfl
    · cases hp
  · cases hp

theorem State.acts_placeRack {t : State} {k : Nat} {evac : Bool} (hp : s.placeRack k evac = some t) : s.Acts sc t := by
  obtain ⟨r, c, -, hw, rfl⟩ := State.placeRack_some hp
  exact s.acts_bookChain h hw

omit h in
theorem State.acts_joinDeferred (k : Nat) (kind : MoveKind) : s.Acts sc (s.joinDeferred k kind) :=
  State.Quiet.acts { State.Quiet.refl s with }

theorem State.acts_placeEvacuation (k : Nat) : s.Acts sc (s.placeEvacuation k).1 := by
  unfold State.placeEvacuation
  split
  · next t ht => exact s.acts_placeRack h ht
  · exact s.acts_joinDeferred k _

theorem State.acts_retry (d : Deferred) : s.Acts sc (s.retry d) := by
  unfold State.retry
  split
  · split
    · exact .refl s
    · cases hp : s.placeRack d.slot (d.kind == .evacuate) with
      | none => exact .refl s
      | some t => exact s.acts_placeRack h hp
  · exact .refl s

theorem State.acts_retryAll : s.Acts sc s.retryAll := State.acts_foldl (fun u d => u.acts_retry h d) _ _

theorem State.acts_deferMove (e : Entry) (cause : Nat) : s.Acts sc (s.deferMove e cause) := by
  unfold State.deferMove
  split
  · refine .trans ?_ (State.acts_postRack _ _ _ _ _)
    refine .trans ?_ (State.acts_noteStart _ _)
    refine .trans ?_ (State.acts_joinDeferred _ _ _)
    refine .trans ?_ (State.acts_openStay _ h _ _)
    refine .trans ?_ (State.acts_removeLaterIntervals _ h _ _)
    exact s.acts_removeBooked h _
  · exact s.acts_removeBooked h _

theorem State.acts_clearPlanner : s.Acts sc s.clearPlanner := by
  have htrim : s.Acts sc { s with schedule := [], timelines := s.timelines.map fun _ => [] } :=
    State.Act.acts (.trim h (List.nil_sublist _)
      (List.forall₂_map_left_iff.mpr (List.forall₂_same.mpr fun _ _ => .nil)))
  refine htrim.trans (State.Quiet.acts { State.Quiet.refl _ with slots := by simp [State.clearPlanner], racks := fun k => ?_ })
  have hrack : s.clearPlanner.rack k = (s.rack k).map fun r => { r with nextStart := none } := by
    simp only [State.rack, State.clearPlanner, List.getD_eq_getElem?_getD, List.getElem?_map]
    cases s.slots[k]? <;> rfl
  rw [hrack]
  show Option.Rel _ (s.rack k) _
  cases s.rack k
  · exact .none
  · exact .some (Rack.Follows.of_eq rfl)

/-! ### Slides (R101 to R103) -/

theorem State.acts_slideTo {e : Entry} {p : Nat} (hf : s.slideFits e p = true) : s.Acts sc (s.slideTo e p) :=
  (State.Act.acts (.slide h hf)).trans (State.acts_noteStart (s.slidePlans e p) e.slot)

omit h in
theorem State.rebook_some {s t : State} {e : Entry} {p : Nat} (hp : s.rebook e p = some t) :
    s.rebookPasses e p ∧
      t = ({ s with schedule := s.rebookPlan e p, timelines := s.rebookLines e p }).noteStart e.slot := by
  unfold State.rebook at hp
  simp only at hp
  split at hp
  · next hc =>
    cases hp
    simp only [Bool.and_eq_true, List.all_eq_true] at hc
    exact ⟨hc, rfl⟩
  · cases hp

theorem State.acts_rebook {t : State} {e : Entry} {p : Nat} (hmax : p ≤ Config.maxSecond) (hp : s.rebook e p = some t) :
    s.Acts sc t := by
  obtain ⟨hpass, rfl⟩ := State.rebook_some hp
  exact (State.Act.acts (.rebook h hpass hmax)).trans (State.acts_noteStart _ e.slot)

omit h in
/-- The nearest value fits, or is the planned start (R103). -/
theorem State.nearestFit_fits (e : Entry) (n p : Nat) :
    s.nearestFit e n p = e.start ∨ s.slideFits e (s.nearestFit e n p) = true := by
  induction n generalizing p with
  | zero => exact .inl rfl
  | succ n ih =>
    unfold State.nearestFit
    split
    · next hf => exact .inr hf
    · exact ih _

theorem State.acts_refuseSlide (e : Entry) (p : Nat) : s.Acts sc (s.refuseSlide e p) := by
  have hnear : s.Acts sc (if s.nearestFit e (intoRange e p - e.start + (e.start - intoRange e p)) (intoRange e p) = e.start
      then s else s.slideTo e (s.nearestFit e (intoRange e p - e.start + (e.start - intoRange e p)) (intoRange e p))) := by
    split
    · exact .refl s
    · next hne => exact s.acts_slideTo h ((s.nearestFit_fits e _ _).resolve_left hne)
  refine hnear.trans ?_
  unfold State.refuseSlide
  simp only
  generalize (if s.nearestFit e (intoRange e p - e.start + (e.start - intoRange e p)) (intoRange e p) = e.start
      then s else s.slideTo e (s.nearestFit e (intoRange e p - e.start + (e.start - intoRange e p)) (intoRange e p))) = t
  split
  · next r hr =>
    have hset : t.Acts sc (t.setRack e.slot { r with flags := { r.flags with slideRefused := true }, slideMark := e.index }) :=
      State.acts_setRack t hr _ (Rack.Follows.of_eq rfl)
    refine hset.trans ?_
    split
    · exact .refl _
    · exact State.acts_postRack _ _ _ _ _
  · exact .refl t

theorem State.acts_takeOffer (e : Entry) {p : Nat} (hmax : p ≤ Config.maxSecond) : s.Acts sc (s.takeOffer e p) := by
  unfold State.takeOffer
  split
  · exact .refl s
  · split
    · next hf => exact s.acts_slideTo h (by simp at hf; exact hf.2)
    · cases hb : s.rebook e p with
      | none => exact s.acts_refuseSlide h e p
      | some t => exact s.acts_rebook h hmax hb

theorem State.acts_offer (k : Nat) : s.Acts sc (s.offer k) := by
  unfold State.offer
  split
  · split
    · exact s.acts_takeOffer h _ (min_le_right _ _)
    · exact .refl s
  · exact .refl s

end

end Sys2Proof.Machine
end

section
/-! PROOFS. Every operation of the blocks is a run of acts: the end of a rack, the carriage, the line second. -/

namespace Sys2Proof.Machine

variable {sc : Scope} (s : State)

/-! ### Orphans and completion records (R64, R65, R70) -/

theorem State.rack_lowestFree {s : State} {k : Nat} (h : s.lowestFree = some k) : s.rack k = none := by
  simpa using List.find?_some h

theorem State.acts_findOrphan (h : sc.orphans = true) (n : Nat) : s.Acts sc (s.findOrphan n) := by
  unfold State.findOrphan
  split
  · next k hk =>
    refine .trans ?_ (State.acts_post _ _ _ _ _ _)
    exact State.Act.acts (.take (State.rack_lowestFree hk) (.inl ⟨h, rfl, rfl⟩))
  · exact .refl s

theorem State.acts_firstPresence (n : Nat) : s.Acts sc (s.firstPresence n) := s.acts_setBath _ _ rfl

theorem State.acts_createOrphans (h : sc.orphans = true) : s.Acts sc s.createOrphans :=
  .trans (State.acts_foldl (fun u n => u.acts_firstPresence n) _ s)
    (State.acts_foldl (fun u n => u.acts_findOrphan h n) _ _)

/-- The record of a rack enters the queue, or the rack awaits report (R59). -/
theorem State.acts_fileRack {k : Nat} {r : Rack} (h : s.rack k = some r) : s.Acts sc (s.fileRack k r) := by
  unfold State.fileRack
  split
  · next hroom => exact State.Act.acts (.file h hroom)
  · exact s.acts_setRack h _ ⟨rfl, rfl, nofun, nofun, .inr (.inl ⟨rfl, rfl, rfl⟩)⟩

theorem State.acts_fileWaiting (k : Nat) : s.Acts sc (s.fileWaiting k) := by
  unfold State.fileWaiting
  split
  · next r h =>
    split
    · exact s.acts_fileRack h
    · exact .refl s
  · exact .refl s

theorem State.acts_fillCompletions : s.Acts sc s.fillCompletions :=
  State.acts_foldl (fun u k => u.acts_fileWaiting k) _ _

theorem State.acts_leaveEvacuation (k : Nat) : s.Acts sc (s.leaveEvacuation k) := by
  unfold State.leaveEvacuation
  have hleave : s.Acts sc { s with evacOrder := s.evacOrder.filter (· != k) } :=
    State.Quiet.acts { State.Quiet.refl s with }
  split
  · refine hleave.trans ?_
    simp only
    split
    · exact State.acts_postLine _ _ _ _
    · exact .refl _
  · exact .refl s

theorem State.acts_settleLine (k : Nat) : s.Acts sc (s.settleLine k) :=
  (s.acts_leaveEvacuation k).trans ((State.acts_judgeRecovery _).trans (State.acts_judgeDrain _))

/-! ### The end of a rack (R59 to R63, R72) -/

section
variable (hp : sc.plans = true)
include hp

omit hp in
theorem State.forgetRack_slots (k : Nat) (r : Rack) : (s.forgetRack k r).slots = s.slots := by
  simp [State.forgetRack, State.dropPlan, State.removeIntervals, State.mapTimelines, State.removeBooked]

theorem State.acts_forgetRack (k : Nat) (r : Rack) : s.Acts sc (s.forgetRack k r) := by
  have hplans : s.Acts sc ((((s.setValve r.station false).removeBooked k).removeIntervals k).dropPlan k) := by
    refine .trans ?_ (State.acts_dropPlan _ k)
    refine .trans ?_ (State.acts_removeIntervals _ hp k)
    refine .trans ?_ (State.acts_removeBooked _ hp k)
    exact s.acts_setValve _ _
  exact hplans.trans (State.Quiet.acts { State.Quiet.refl _ with })

omit hp in
theorem Rack.endedWith_follows (now : Nat) (r : Rack) (outcome : RackOutcome) (t : Nat) :
    r.Follows now (r.endedWith outcome t) :=
  ⟨rfl, rfl, .inl, fun _ => .inl rfl, .inl rfl⟩

omit hp in
/-- The rack of a slot ended, its record filed, and what that brings about for the line (R59). -/
theorem State.acts_concludeRack {k : Nat} {r : Rack} (h : s.rack k = some r) (n now : Nat) (outcome : RackOutcome) :
    s.Acts sc ((((s.setRack k (r.endedWith outcome now)).post .rackRemoved n k r.tag outcome.code).fileRack k
      (r.endedWith outcome now)).settleLine k) := by
  refine .trans ?_ (State.acts_settleLine _ k)
  refine (s.acts_setRack h _ (Rack.endedWith_follows _ r outcome now)).trans ?_
  refine (State.acts_post _ .rackRemoved n k r.tag outcome.code).trans ?_
  refine State.acts_fileRack _ ?_
  rw [State.rack, State.post_slots]
  exact State.rack_setRack_same s _ (State.rack_lt h)

theorem State.acts_endRack (k n : Nat) (outcome : RackOutcome) : s.Acts sc (s.endRack k n outcome) := by
  unfold State.endRack
  split
  · next r h =>
    have hforget : (s.forgetRack k r).rack k = some r := (State.rack_congr (s.forgetRack_slots k r) k).trans h
    exact (s.acts_forgetRack hp k r).trans (State.acts_concludeRack _ hforget n s.clock outcome)
  · exact .refl s

theorem State.acts_endOrphan (k n : Nat) (ho : ∀ r, s.rack k = some r → r.recipe = none ∨ r.phase = .orphan) :
    s.Acts sc (s.endOrphan k n) := by
  unfold State.endOrphan
  split
  · next r h =>
    have hforget : (s.forgetRack k r).rack k = some r := (State.rack_congr (s.forgetRack_slots k r) k).trans h
    have hfree : (s.forgetRack k r).Acts sc ((s.forgetRack k r).freeSlot k) := State.Act.acts (.free hforget (ho r h))
    refine .trans ?_ (State.acts_settleLine _ k)
    refine .trans ?_ (State.acts_post _ _ _ _ _ _)
    exact (s.acts_forgetRack hp k r).trans hfree
  · exact .refl s

theorem State.acts_loseCarried {k : Nat} {r : Rack} (h : s.rack k = some r) : s.Acts sc (s.loseCarried k r) := by
  unfold State.loseCarried
  split
  · next hr => exact s.acts_endOrphan hp k 0 fun q hq => .inl (by rw [h] at hq; cases hq; simpa using hr)
  · exact s.acts_endRack hp k 0 _

theorem State.acts_presenceFall (n : Nat) : s.Acts sc (s.presenceFall n) := by
  unfold State.presenceFall
  split
  · exact .refl s
  · split
    · next k r hat =>
      obtain ⟨-, hr, -, -⟩ := State.rack_of_rackAt hat
      split
      · exact s.acts_endRack hp k n _
      · exact s.acts_endRack hp k n _
      · exact s.acts_endRack hp k n _
      · next hph => exact s.acts_endOrphan hp k n fun q hq => .inr (by rw [hr] at hq; cases hq; exact hph)
      · exact .refl s
      · exact .refl s
    · exact .refl s

theorem State.acts_samplePresence (n : Nat) : s.Acts sc (s.samplePresence n) := by
  have hset : s.Acts sc (s.setBath n { s.bath n with presence := (s.pin n).presence }) := s.acts_setBath _ _ rfl
  refine hset.trans ?_
  unfold State.samplePresence
  simp only
  split
  · exact State.acts_presenceFall _ hp n
  · exact .refl _

theorem State.acts_samplePresences : s.Acts sc s.samplePresences :=
  State.acts_foldl (fun u n => u.acts_samplePresence hp n) _ _

/-! ### ABANDON of a standing rack (R67) -/

theorem State.acts_clearStanding (k : Nat) (r : Rack) : s.Acts sc (s.clearStanding k r) := by
  have hstay : s.Acts sc (((s.removeBooked k).keepStay k r.station r.step).openStay k r.step) := by
    refine .trans ?_ (State.acts_openStay _ hp k r.step)
    refine .trans ?_ (State.acts_keepStay _ hp k r.station r.step)
    exact s.acts_removeBooked hp k
  refine .trans ?_ (State.acts_noteStart _ k)
  exact hstay.trans (State.Quiet.acts { State.Quiet.refl _ with })

theorem State.acts_abandonStanding (k : Nat) : s.Acts sc (s.abandonStanding k).1 := by
  unfold State.abandonStanding
  split
  · next r h =>
    have hset : s.Acts sc (s.setRack k r.abandoned) := s.acts_setRack h _ (Rack.Follows.of_eq rfl)
    refine hset.trans ?_
    simp only
    split
    · refine .trans ?_ (State.acts_placeEvacuation _ hp k)
      exact State.acts_clearStanding _ hp k r
    · exact .refl _
  · exact .refl s

/-! ### Carriage faults (R69, R108, R109) -/

theorem State.acts_interruptRack (k : Nat) : s.Acts sc (s.interruptRack k) := by
  unfold State.interruptRack
  split
  · next r h =>
    have hset : s.Acts sc (s.setRack k r.interrupt) := s.acts_setRack h _ (Rack.Follows.of_eq rfl)
    split
    · exact hset
    · exact hset
    · split
      · exact hset
      · exact .refl s
    · exact s.acts_endRack hp k _ _
    · exact .refl s
    · exact .refl s
  · exact .refl s

theorem State.acts_faultNotice : s.Acts sc s.faultNotice := by
  have hfault (hst : s.line.state ≠ .dormant ∧ s.line.state ≠ .standby) :
      s.Acts sc (allSlots.foldl State.interruptRack
        (((s.setDrainTarget none).enterLine .faulted .fault).clearPlanner)) := by
    refine .trans ?_ (State.acts_foldl (fun u k => u.acts_interruptRack hp k) _ _)
    refine .trans ?_ (State.acts_clearPlanner _ hp)
    exact (s.acts_setDrainTarget none).trans (State.acts_enterLine (s.setDrainTarget none) (.inr hst) _ _)
  unfold State.faultNotice
  split
  · next h => exact hfault (by rw [h]; exact ⟨nofun, nofun⟩)
  · next h => exact hfault (by rw [h]; exact ⟨nofun, nofun⟩)
  · next h => exact hfault (by rw [h]; exact ⟨nofun, nofun⟩)
  · refine .trans ?_ (State.acts_clearPlanner _ hp)
    exact State.Quiet.acts { State.Quiet.refl s with }
  · exact .refl s
  · exact .refl s

theorem State.acts_carriageFault (code : FaultCode) (n : Nat) : s.Acts sc (s.carriageFault code n) := by
  have hstop : s.Acts sc { s with driver := s.driver.rest .stopped, line := { s.line with carriageFault := true } } :=
    State.Quiet.acts { State.Quiet.refl s with }
  exact hstop.trans ((State.acts_post _ _ _ _ _ _).trans (State.acts_faultNotice _ hp))

end

/-! ### The Driver between moves (R95) -/

/-- A Driver in another state, with the rest of the part as it was. -/
theorem State.acts_driver (d : Driver) : s.Acts sc { s with driver := d } := State.Quiet.acts { State.Quiet.refl s with }

/-- Turning to the first entry changes the Driver alone. -/
theorem State.turn_eq : s.turn = { s with driver := s.turn.driver } := by
  have happ (key : Nat × Nat) (n f : Nat) : s.approach key n f = { s with driver := (s.approach key n f).driver } := by
    unfold State.approach
    simp only
    split
    · rfl
    · split <;> rfl
  unfold State.turn
  simp only
  split
  · split
    · rfl
    · split
      · rfl
      · exact happ _ _ _
  · split
    · rfl
    · split
      · rfl
      · exact happ _ _ _
  · split
    · rfl
    · split
      · rfl
      · exact happ _ _ _
  all_goals rfl

theorem State.acts_turn : s.Acts sc s.turn := by
  rw [State.turn_eq]
  exact s.acts_driver _

/-- The end of an approach changes the Driver alone. -/
theorem State.endApproach_eq : s.endApproach = { s with driver := s.endApproach.driver } := by
  unfold State.endApproach
  simp only
  split <;> rfl

theorem State.acts_endApproach : s.Acts sc s.endApproach := by
  rw [State.endApproach_eq]
  exact s.acts_driver _

theorem State.acts_beginPhase (st : DriverState) (expected : Nat) : s.Acts sc (s.beginPhase st expected) :=
  s.acts_driver _

/-! ### The end of a move (R100) -/

theorem State.acts_postDeviation (k n : Nat) (r : Rack) (st : Option Step) : s.Acts sc (s.postDeviation k n r st) := by
  unfold State.postDeviation
  split
  · split
    · exact State.acts_post _ _ _ _ _ _
    · exact .refl s
  · exact .refl s

/-- The end of a development leaves the place of the rack alone. -/
theorem Rack.finish_place (r : Rack) (st : Option Step) :
    ((r.finish st).tag, (r.finish st).recipe, (r.finish st).phase, (r.finish st).station, (r.finish st).immersion,
      (r.finish st).unload) = (r.tag, r.recipe, r.phase, r.station, r.immersion, r.unload) := by
  unfold Rack.finish
  split
  · simp only
    split <;> rfl
  · rfl

theorem Rack.enterBath_follows (r : Rack) (n now : Nat) (entry : Bool) : r.Follows now (r.enterBath n now entry) :=
  ⟨rfl, rfl, nofun, nofun, .inr (.inr (.inl rfl))⟩

theorem Rack.reachUnload_follows (r : Rack) (n now steps : Nat) : r.Follows now (r.reachUnload n now steps) := by
  unfold Rack.reachUnload
  split
  · next h => exact ⟨rfl, rfl, fun _ => .inr (by simpa using h), nofun, .inr (.inr (.inr rfl))⟩
  · exact ⟨rfl, rfl, nofun, nofun, .inr (.inr (.inr rfl))⟩

section
variable (hp : sc.plans = true)
include hp

theorem State.acts_beginDevelopment (k : Nat) : s.Acts sc (s.beginDevelopment k) := by
  unfold State.beginDevelopment
  split
  · next r h =>
    split
    · refine .trans ?_ (State.acts_offer _ hp k)
      exact s.acts_setRack h _ (Rack.Follows.of_eq rfl)
    · exact .refl s
  · exact .refl s

theorem State.acts_enterBath {e : Entry} {r : Rack} (h : s.rack e.slot = some r) : s.Acts sc (s.enterBath e r) := by
  have hset : s.Acts sc (((s.setRack e.slot ((r.finish (s.endingStep r)).enterBath e.dst s.clock
      (e.kind == .entry))).noteStart e.slot)) := by
    refine .trans (s.acts_setRack h _ ?_) (State.acts_noteStart _ _)
    exact (Rack.Follows.of_eq (r.finish_place _)).trans (Rack.enterBath_follows _ _ _ _)
  refine hset.trans ?_
  unfold State.enterBath
  refine .trans ?_ (State.acts_createPlan _ _)
  refine .trans ?_ (State.acts_beginDevelopment _ hp _)
  have hposts (u : State) : u.Acts sc ((if (e.kind == .entry) = true then u.post .rackEntered e.dst e.slot r.tag 0
      else u).postDeviation e.slot e.dst r (s.endingStep r)) := by
    refine .trans ?_ (State.acts_postDeviation _ _ _ _ _)
    split
    · exact State.acts_post _ _ _ _ _ _
    · exact .refl u
  exact (hposts _).trans (.ite (State.acts_abandonStanding _ hp _) (.refl _))

omit hp in
theorem State.acts_reachUnload {e : Entry} {r : Rack} (h : s.rack e.slot = some r) : s.Acts sc (s.reachUnload e r) := by
  unfold State.reachUnload
  refine .trans ?_ (State.acts_postDeviation _ _ _ _ _)
  refine .trans ?_ (State.acts_post _ _ _ _ _ _)
  refine .trans ?_ (State.acts_noteStart _ _)
  exact s.acts_setRack h _ ((Rack.Follows.of_eq (r.finish_place _)).trans (Rack.reachUnload_follows _ _ _ _))

omit hp in
theorem State.acts_settleAccrual (k : Nat) : s.Acts sc (s.settleAccrual k) := by
  unfold State.settleAccrual
  split
  · have hdue : s.Acts sc { s with accrualDue := s.accrualDue.filter (· != k) } :=
      State.Quiet.acts { State.Quiet.refl s with accrual := fun h => by simp [h] }
    refine hdue.trans (State.acts_modifyRack _ fun r _ => ?_)
    split <;> exact Rack.Follows.of_eq rfl
  · exact .refl s

theorem State.acts_dropExecuting : s.Acts sc s.dropExecuting := s.acts_trimSchedule hp List.filter_sublist

theorem State.acts_endMove (e : Entry) : s.Acts sc (s.endMove e) := by
  have hstart : s.Acts sc ({ s with driver := s.driver.rest .idle }.dropExecuting.settleAccrual e.slot) := by
    refine .trans ?_ (State.acts_settleAccrual _ _)
    exact (s.acts_driver _).trans (State.acts_dropExecuting _ hp)
  refine hstart.trans ?_
  unfold State.endMove
  generalize { s with driver := s.driver.rest .idle }.dropExecuting.settleAccrual e.slot = t
  have hnotice : t.Acts sc (match t.rack e.slot with
      | some r => if t.isBath e.dst then t.enterBath e r else t.reachUnload e r
      | none => t) := by
    split
    · next r h =>
      split
      · exact t.acts_enterBath hp h
      · exact t.acts_reachUnload h
    · exact .refl t
  have hevac (u : State) : u.Acts sc (if e.kind = .evacuate then u.leaveEvacuation e.slot else u) := by
    split
    · exact u.acts_leaveEvacuation _
    · exact .refl u
  refine .trans ?_ (State.acts_turn _)
  refine .trans ?_ (State.acts_judgeDrain _)
  refine .trans ?_ (State.acts_judgeRecovery _)
  exact hnotice.trans (hevac _)

/-! ### The phases of a move (R96 to R100) -/

theorem State.acts_endLower (e : Entry) : s.Acts sc (s.endLower e) := by
  unfold State.endLower
  split
  · exact s.acts_carriageFault hp _ _
  · split
    · exact s.acts_carriageFault hp _ _
    · exact s.acts_endMove hp e

theorem State.acts_endTravel (e : Entry) : s.Acts sc (s.endTravel e) := by
  have hphase : s.Acts sc ({ s with driver := { s.driver with position := e.dst } }.beginPhase .lower s.cfg.line.tw) :=
    (s.acts_driver _).trans (State.acts_beginPhase _ _ _)
  refine hphase.trans ?_
  unfold State.endTravel
  simp only
  split
  · exact State.acts_endLower _ hp e
  · exact .refl _

theorem State.acts_endDrain (e : Entry) : s.Acts sc (s.endDrain e) := by
  unfold State.endDrain
  split
  · exact s.acts_carriageFault hp _ _
  · have hphase : s.Acts sc ({ s with driver := { s.driver with goTo := e.dst } }.beginPhase .travel
        (travelTime s.cfg.line.tp e.src e.dst)) := (s.acts_driver _).trans (State.acts_beginPhase _ _ _)
    refine hphase.trans ?_
    simp only
    split
    · exact State.acts_endTravel _ hp e
    · exact .refl _

theorem State.acts_endRaise (e : Entry) : s.Acts sc (s.endRaise e) := by
  unfold State.endRaise
  split
  · exact s.acts_carriageFault hp _ _
  · split
    · exact s.acts_carriageFault hp _ _
    · have hphase : s.Acts sc ({ s with driver := { s.driver with upSecond := some s.clock } }.beginPhase .drain
          e.drain) := (s.acts_driver _).trans (State.acts_beginPhase _ _ _)
      refine hphase.trans ?_
      simp only
      split
      · exact State.acts_endDrain _ hp e
      · exact .refl _

theorem State.acts_beginRaise (e : Entry) : s.Acts sc (s.beginRaise e) := by
  have hphase : s.Acts sc ({ s with driver := { s.driver with entry := some (e.slot, e.index), upSecond := none
      } }.beginPhase .raise s.cfg.line.tl) := (s.acts_driver _).trans (State.acts_beginPhase _ _ _)
  refine hphase.trans ?_
  unfold State.beginRaise
  simp only
  split
  · exact State.acts_endRaise _ hp e
  · exact .refl _

omit hp in
theorem State.liftedRack_follows (e : Entry) (r : Rack) (now : Nat) : r.Follows now (s.liftedRack e r) := by
  unfold State.liftedRack
  simp only
  split <;> exact ⟨rfl, rfl, nofun, fun _ => .inl rfl, .inl rfl⟩

omit hp in
theorem State.acts_startNotices (e : Entry) : s.Acts sc (s.startNotices e) := by
  unfold State.startNotices
  split
  · next r h =>
    have hset : s.Acts sc ((s.setRack e.slot (s.liftedRack e r)).noteStart e.slot) :=
      (s.acts_setRack h _ (s.liftedRack_follows e r _)).trans (State.acts_noteStart _ _)
    refine hset.trans ?_
    refine .trans ?_ (State.acts_setValve _ _ _)
    refine .trans ?_ (State.acts_dropPlan _ _)
    split
    · exact State.acts_liftReplenish _ _ _ _
    · exact .refl _
  · exact .refl s

section
variable (hst : sc.starts = true)
include hst

theorem State.acts_beginMove (e : Entry) : s.Acts sc (s.beginMove e) :=
  (State.Act.acts (.start hst)).trans ((State.acts_startNotices _ e).trans (State.acts_beginRaise _ hp e))

theorem State.acts_startOrDefer (e : Entry) : s.Acts sc (s.startOrDefer e) := by
  unfold State.startOrDefer
  split
  · exact (s.acts_deferMove hp e 0).trans (State.acts_turn _)
  · split
    · exact (s.acts_deferMove hp e 1).trans (State.acts_turn _)
    · exact s.acts_beginMove hp hst e

theorem State.acts_moveStart : s.Acts sc s.moveStart := by
  unfold State.moveStart
  split
  · split
    · exact s.acts_startOrDefer hp hst _
    · exact .refl s
  · exact .refl s

end

/-! ### Carriage events -/

theorem State.acts_carriageArrival : s.Acts sc s.carriageArrival := by
  unfold State.carriageArrival
  simp only
  split
  · split
    · exact s.acts_endApproach.trans (State.acts_turn _)
    · split
      · exact .refl s
      · exact s.acts_carriageFault hp _ _
  · split
    · split
      · exact s.acts_endTravel hp _
      · split
        · exact .refl s
        · exact s.acts_carriageFault hp _ _
    · exact .refl s
  · split
    · exact .refl s
    · exact (s.acts_driver _).trans (State.acts_turn _)
  · split
    · exact .refl s
    · exact (s.acts_driver _).trans (State.acts_turn _)
  all_goals exact .refl s

theorem State.acts_upLimit : s.Acts sc s.upLimit := by
  unfold State.upLimit
  split
  · split
    · exact s.acts_endRaise hp _
    · exact .refl s
  · exact s.acts_turn
  · exact s.acts_turn
  · exact s.acts_turn
  · exact .refl s

theorem State.acts_drainDue : s.Acts sc s.drainDue := by
  unfold State.drainDue
  split
  · split
    · exact s.acts_endDrain hp _
    · exact .refl s
  · exact .refl s

theorem State.acts_downLimit : s.Acts sc s.downLimit := by
  unfold State.downLimit
  split
  · split
    · exact s.acts_endLower hp _
    · exact .refl s
  · exact s.acts_turn
  · exact s.acts_turn
  · exact s.acts_turn
  · exact .refl s

theorem State.acts_hookFall : s.Acts sc s.hookFall := by
  unfold State.hookFall
  split
  · exact .refl s
  · split
    · exact s.acts_carriageFault hp _ _
    · exact s.acts_carriageFault hp _ _
    · exact .refl s
    · exact .refl s
    · split
      · exact s.acts_carriageFault hp _ _
      · exact .refl s

theorem State.acts_phaseTimeout : s.Acts sc s.phaseTimeout := by
  refine State.Acts.ite ?_ (.refl s)
  split
  · exact s.acts_carriageFault hp _ _
  · exact s.acts_carriageFault hp _ _
  · exact s.acts_carriageFault hp _ _
  · exact s.acts_carriageFault hp _ _
  · exact .refl s

/-- The step of the carriage in a line second; it may start a move where a command of its scope may (R95 to R100). -/
theorem State.acts_carriageStep (hst : sc.starts = true) : s.Acts sc s.carriageStep := by
  unfold State.carriageStep
  split
  · exact s.acts_moveStart hp hst
  · exact s.acts_upLimit hp
  · exact s.acts_drainDue hp
  · exact s.acts_downLimit hp
  · split
    · exact s.acts_endTravel hp _
    · exact .refl s
  · split
    · exact s.acts_endApproach.trans (State.acts_turn _)
    · exact .refl s
  · exact .refl s

/-! ### The line second (R6) -/

theorem State.acts_developRack (k : Nat) : s.Acts sc (s.developRack k) := by
  unfold State.developRack
  split
  · next r h =>
    split
    · split
      · refine .trans ?_ (State.acts_offer _ hp k)
        exact s.acts_setRack h _ (Rack.Follows.of_eq rfl)
      · exact s.acts_setRack h _ (Rack.Follows.of_eq rfl)
    · exact .refl s
  · exact .refl s

theorem State.acts_developAll : s.Acts sc s.developAll :=
  (State.acts_foldl (fun u k => u.acts_developRack hp k) _ _).trans
    (State.Quiet.acts { State.Quiet.refl _ with accrual := fun _ => rfl })

omit hp in
theorem State.acts_readPumpAndGas : s.Acts sc s.readPumpAndGas := by
  unfold State.readPumpAndGas
  split
  · exact s.acts_readFlow
  · exact s.acts_readFlow.trans (State.acts_readGas _)

theorem State.acts_doTask {task : SecondTask} (h : task = .carriage → sc.starts = true) :
    s.Acts sc (s.doTask task) := by
  cases task with
  | presence => exact s.acts_samplePresences hp
  | bath => exact s.acts_watchBaths
  | develop => exact s.acts_developAll hp
  | retry => exact (s.acts_developAll hp).trans (State.acts_retryAll _ hp)
  | warmup => exact s.acts_judgeWarmup
  | pump => exact s.acts_readPumpAndGas
  | expiry => exact s.acts_examineAll hp
  | carriage => exact s.acts_carriageStep hp (h rfl)

theorem State.acts_doTurn {task : SecondTask} (h : task = .carriage → sc.starts = true) :
    s.Acts sc (s.doTurn task) := (s.acts_doTask hp h).trans (State.acts_turn _)

theorem State.acts_doTurns {tasks : List SecondTask} (h : .carriage ∈ tasks → sc.starts = true) :
    s.Acts sc (tasks.foldl State.doTurn s) := by
  induction tasks generalizing s with
  | nil => exact .refl s
  | cons a l ih =>
    refine (s.acts_doTurn hp fun ha => h (ha ▸ List.mem_cons_self)).trans ?_
    exact ih _ fun hl => h (List.mem_cons_of_mem a hl)

omit hp in
theorem State.acts_examineStay (k : Nat) (l : Lift) : s.Acts sc (s.examineStay k l) := by
  unfold State.examineStay
  split
  · next r h =>
    split
    · have hset : s.Acts sc (s.setRack k { r with flags := { r.flags with overstay := true }, overMark := l.step }) :=
        s.acts_setRack h _ (Rack.Follows.of_eq rfl)
      refine hset.trans ?_
      simp only
      split
      · exact .refl _
      · exact State.acts_post _ _ _ _ _ _
    · exact .refl s
  · exact .refl s

omit hp in
theorem State.acts_examineOverstay (k : Nat) : s.Acts sc (s.examineOverstay k) := by
  unfold State.examineOverstay
  split
  · exact State.acts_foldl (fun u l => u.acts_examineStay k l) _ _
  · exact .refl s

end

end Sys2Proof.Machine
end

section
/-! PROOFS. The course of a telegram: the Link Port around it, and its owner as a run of acts. -/

namespace Sys2Proof.Machine

/-! ### The Link Port (R155 to R162) -/

section
variable (s : State)

/-- A change of the link within its bound. -/
theorem State.relinked_link (l : Link) (h : l.discards ≤ max s.link.discards 65535) : s.Relinked { s with link := l } :=
  ⟨rfl, le_max_left _ _, le_max_left _ _, h, List.prefix_rfl⟩

theorem State.relinked_post (k : EventKind) (a b c d : Nat) : s.Relinked (s.post k a b c d) where
  eq := by rw [State.post_link]; exact s.post_eq k a b c d
  events := (s.quiet_post k a b c d).events
  lost := (s.quiet_post k a b c d).lost
  discards := (s.quiet_post k a b c d).discards
  posts := (s.quiet_post k a b c d).posts

theorem State.relinked_hunt : s.Relinked s.hunt := s.relinked_link _ (le_max_left _ _)

theorem State.relinked_collect (rx : List Byte) : s.Relinked (s.collect rx) := s.relinked_link _ (le_max_left _ _)

theorem State.relinked_discard : s.Relinked s.discard := by
  unfold State.discard
  simp only
  have hcount (degraded : Bool) : s.Relinked { s with link := { s.link with
      path := .hunting, rx := [], discards := min (s.link.discards + 1) 65535, degraded := degraded } } :=
    s.relinked_link _ ((min_le_right _ _).trans (le_max_right _ _))
  split
  · exact (hcount true).trans (State.relinked_post _ _ _ _ _ _)
  · exact hcount s.link.degraded

theorem State.relinked_answer (kind : Byte) (f : Frame) (payload : List Byte) : s.Relinked (s.answer kind f payload) :=
  s.relinked_link _ (le_max_left _ _)

theorem State.relinked_restartWatchdog : s.Relinked s.restartWatchdog := s.relinked_link _ (le_max_left _ _)

theorem State.relinked_accept (kind : Byte) (f : Frame) : s.Relinked (s.accept kind f) := by
  have hclose : s.Relinked { s with link := { s.link with
      path := .closed, rx := frameBytes f.addr f.tag kind f.payload f.check } } := s.relinked_link _ (le_max_left _ _)
  refine hclose.trans ?_
  unfold State.accept State.touchWatchdog
  generalize { s with link := { s.link with
      path := .closed, rx := frameBytes f.addr f.tag kind f.payload f.check } } = t
  refine .trans ?_ (State.relinked_restartWatchdog _)
  split
  · have hfound : t.Relinked { t with link := { t.link with lost := false } } := t.relinked_link _ (le_max_left _ _)
    exact hfound.trans (State.relinked_post _ _ _ _ _ _)
  · exact .refl t

end

/-! ### A frame as it ends -/

/-- The part as a request has been served: its owner found `u`, and the Link Port did the rest. -/
def State.served (s t : State) (kind : Byte) : Prop :=
  ∃ p u, s.Relinked u ∧ u.link.path = .closed ∧ (((catalogue kind).2 p u).1.Relinked t) ∧
    t.link.path = ((catalogue kind).2 p u).1.link.path

theorem State.accept_path (s : State) (kind : Byte) (f : Frame) : (s.accept kind f).link.path = .closed := by
  rw [State.accept_eq]

/-- A frame as it ends touches nothing but the link, or is served, on the path it closes. -/
theorem State.judgeFrame_cases (s : State) (kind : Byte) (f : Frame) :
    s.Relinked (s.judgeFrame kind f) ∨ s.served (s.judgeFrame kind f) kind := by
  unfold State.judgeFrame State.endFrame
  split
  · exact .inl s.relinked_discard
  · split
    · unfold State.serve
      simp only
      split
      · exact .inr ⟨f.payload, s.accept kind f, s.relinked_accept kind f, s.accept_path kind f,
          State.relinked_answer _ _ _ _, rfl⟩
      · exact .inl ((s.relinked_accept kind f).trans (State.relinked_answer _ _ _ _))
    · exact .inl s.relinked_hunt

theorem State.receiveByte_closed {s : State} (h : s.link.path = .closed) (b : Byte) : s.receiveByte b = s := by
  simp [State.receiveByte, h]

theorem State.receiveBytes_closed {s : State} (h : s.link.path = .closed) (bytes : List Byte) :
    bytes.foldl State.receiveByte s = s := by
  induction bytes with
  | nil => rfl
  | cons b bs ih => rw [List.foldl_cons, State.receiveByte_closed h, ih]

/-- A byte touches nothing but the link, or ends a frame that is served. -/
theorem State.receiveByte_cases (s : State) (b : Byte) :
    s.Relinked (s.receiveByte b) ∨ (s.link.path = .receiving ∧ ∃ kind, s.served (s.receiveByte b) kind) := by
  unfold State.receiveByte
  split
  · split
    · exact .inl (s.relinked_collect _)
    · exact .inl (.refl s)
  · next hpath =>
    simp only
    split
    · exact .inl (s.relinked_collect _)
    · split
      · exact .inl s.relinked_discard
      · split
        · exact .inl (s.relinked_collect _)
        · rcases s.judgeFrame_cases (frameOf (s.link.rx ++ [b])).1 (frameOf (s.link.rx ++ [b])).2 with h | h
          · exact .inl h
          · exact .inr ⟨hpath, _, h⟩
  · exact .inl (.refl s)

theorem State.served.of_relinked {s t u : State} {kind : Byte} (h : s.Relinked t) (h' : t.served u kind) :
    s.served u kind := by
  obtain ⟨p, v, hv, hclosed, htail, hpath⟩ := h'
  exact ⟨p, v, h.trans hv, hclosed, htail, hpath⟩

end Sys2Proof.Machine
end

section
/-! PROOFS. The owner of every request is a run of acts, within a scope that follows its kind. -/

namespace Sys2Proof.Machine

variable {sc : Scope} (s : State)

/-! ### Settings (R8 to R14, R22 to R29, R120, R170) -/

section
variable (h : sc.settings = true)
include h

theorem State.acts_setClosure (n : Nat) (b : Bool) : s.Acts sc (s.setClosure n b) :=
  State.Act.acts (.set _ h rfl rfl (by simp))

theorem State.acts_setStationCfg (n : Nat) (c : StationCfg) : s.Acts sc (s.setStationCfg n c) :=
  State.Act.acts (.set _ h rfl rfl (by simp))

omit h in
theorem State.acts_clearBath (n : Nat) : s.Acts sc (s.clearBath n) :=
  State.Quiet.acts (State.quiet_setBath fun _ => Nat.zero_le _)

omit h in
theorem State.acts_leaveBath (n : Nat) : s.Acts sc (s.leaveBath n) := by
  refine .trans ?_ (State.acts_setValve _ _ _)
  refine .trans ?_ (State.acts_setCradle _ _ _)
  exact (s.acts_clearBath n).trans (State.acts_dropDeliveries _ n)

theorem State.acts_retireStation (n : Nat) : s.Acts sc (s.retireStation n) := by
  refine .trans ?_ (State.acts_setStationCfg _ h _ _)
  refine .trans ?_ (State.acts_setClosure _ h _ _)
  exact .ite (s.acts_leaveBath n) (.refl s)

theorem State.acts_applyLine (c : LineCfg) (hc : c.inRange = true) : s.Acts sc (s.applyLine c) := by
  have hretire := State.acts_foldl (sc := sc) (fun u n => u.acts_retireStation h n)
    (allStations.filter fun n => decide (c.count < n)) s
  refine hretire.trans ?_
  unfold State.applyLine
  generalize (allStations.filter fun n => decide (c.count < n)).foldl State.retireStation s = t
  exact State.Act.acts (.tune c h hc)

theorem setLineOwner_acts (p : List Byte) : s.Acts sc (setLineOwner p s).1 := by
  unfold setLineOwner
  split
  · exact .refl s
  split
  · exact .refl s
  split
  · exact .refl s
  split
  · split
    · next hc => exact s.acts_applyLine h _ hc
    · exact .refl s
  · exact .refl s

omit h in
theorem State.acts_beginFalling (n start : Nat) : s.Acts sc (s.beginFalling n start) := s.acts_setCradle _ _

omit h in
theorem State.acts_keepBath (n : Nat) (old new : StationCfg) : s.Acts sc (s.keepBath n old new) := by
  refine .trans ?_ (State.acts_setBath _ n _ rfl)
  refine .ite (.refl s) ?_
  refine .trans ?_ (State.acts_releaseFlag _ _ _)
  refine .trans ?_ (State.acts_releaseFlag _ _ _)
  refine .trans ?_ (State.acts_releaseFlag _ _ _)
  exact s.acts_setBath _ _ rfl

omit h in
theorem State.acts_passBath (n : Nat) : s.Acts sc (s.passBath n) := by
  refine .trans ?_ (State.acts_beginFalling _ n s.clock)
  exact s.acts_setBath _ _ rfl

omit h in
theorem State.acts_enterBathRole (n : Nat) : s.Acts sc (s.enterBathRole n) :=
  .trans (s.acts_clearBath n) (State.acts_beginFalling _ n s.clock)

theorem State.acts_changeRole (n : Nat) (old : StationCfg) : s.Acts sc (s.changeRole n old) := by
  have hbath : s.Acts sc (if old.role.holdsBath then
      if (s.stationCfg n).role = old.role then s.keepBath n old (s.stationCfg n)
      else if (s.stationCfg n).role.holdsBath then s.passBath n else s.leaveBath n
    else if (s.stationCfg n).role.holdsBath then s.enterBathRole n else s) :=
    .ite (.ite (s.acts_keepBath _ _ _) (.ite (s.acts_passBath n) (s.acts_leaveBath n)))
      (.ite (s.acts_enterBathRole n) (.refl s))
  have hassert (u : State) : u.Acts sc (if (s.stationCfg n).role = .develop ∧ old.role ≠ .develop then
      u.assertFlag n .exhUnknown else u) := .ite (u.acts_assertFlag _ _) (.refl u)
  have hrelease (u : State) : u.Acts sc (if (s.stationCfg n).role = .bath ∧ old.role = .develop then
      u.releaseFlag n .exhUnknown else u) := .ite (u.acts_releaseFlag _ _) (.refl u)
  have hclosure (u : State) : u.Acts sc (if old.role ≠ (s.stationCfg n).role ∧
      ¬ (old.role.holdsBath ∧ (s.stationCfg n).role.holdsBath) then u.setClosure n false else u) :=
    .ite (u.acts_setClosure h _ _) (.refl u)
  exact hbath.trans ((hassert _).trans ((hrelease _).trans (hclosure _)))

omit h in
theorem State.acts_judgeDefaulted : s.Acts sc s.judgeDefaulted :=
  .ite (State.Quiet.acts { State.Quiet.refl s with }) (.refl s)

theorem setStationOwner_acts (p : List Byte) : s.Acts sc (setStationOwner p s).1 := by
  unfold setStationOwner
  simp only
  split
  · exact .refl s
  split
  · exact .refl s
  split
  · exact .refl s
  split
  · exact .refl s
  split
  · split
    · exact .refl s
    · refine .trans ?_ (State.acts_judgeDefaulted _)
      exact (s.acts_setStationCfg h _ _).trans (State.acts_changeRole _ h _ _)
  · exact .refl s

theorem stationServiceOwner_acts (p : List Byte) : s.Acts sc (stationServiceOwner p s).1 := by
  unfold stationServiceOwner
  simp only
  split
  · exact .refl s
  split
  · exact .refl s
  split
  · exact s.acts_setClosure h _ _
  · exact .refl s

theorem setCurveOwner_acts (p : List Byte) : s.Acts sc (setCurveOwner p s).1 := by
  have hput (c : Option Curve) : s.Acts sc (s.putCurve (u8 p 0) c) :=
    State.Act.acts (.set _ h rfl rfl (by simp))
  unfold setCurveOwner
  simp only
  split
  · exact .refl s
  split
  · exact .refl s
  split
  · exact .refl s
  split
  · exact .refl s
  split
  · split
    · exact .refl s
    · exact hput _
  split
  · exact .refl s
  · exact hput none

theorem setRecipeOwner_acts (p : List Byte) : s.Acts sc (setRecipeOwner p s).1 := by
  unfold setRecipeOwner
  simp only
  split
  · exact .refl s
  split
  · exact .refl s
  split
  · exact .refl s
  split
  · exact .refl s
  · exact State.Act.acts (.set _ h rfl rfl (by simp))

theorem setPatternOwner_acts (p : List Byte) : s.Acts sc (setPatternOwner p s).1 := by
  unfold setPatternOwner
  simp only
  split
  · exact .refl s
  split
  · exact .refl s
  split
  · split
    · refine .trans ?_ (State.acts_mapPlans _ _)
      exact State.Act.acts (.set _ h rfl rfl (by simp))
    · exact .refl s
  · exact .refl s

theorem setRouteOwner_acts (p : List Byte) : s.Acts sc (setRouteOwner p s).1 := by
  unfold setRouteOwner
  simp only
  split
  · exact .refl s
  split
  · exact .refl s
  split
  · split
    · exact State.Act.acts (.set _ h rfl rfl (by simp))
    · exact .refl s
  · exact .refl s

omit h in
theorem putBursts_length (m : List Burst) (es : List (Nat × Burst)) : (putBursts m es).length = m.length := by
  unfold putBursts
  induction es generalizing m with
  | nil => rfl
  | cons e es ih => rw [List.foldl_cons, ih, setStation_length]

theorem setBurstsOwner_acts (ha : sc.applies = true) (p : List Byte) : s.Acts sc (setBurstsOwner p s).1 := by
  unfold setBurstsOwner
  split
  · exact .refl s
  split
  · next es apply _ _ =>
    split
    · exact .refl s
    · have hstage : s.Acts sc { s with manifold := { s.manifold with staged := putBursts s.manifold.staged es } } :=
        State.Act.acts (.stage _ h (putBursts_length _ _))
      refine hstage.trans ?_
      simp only
      split
      · unfold State.requestApply
        split
        · exact State.Quiet.acts { State.Quiet.refl _ with }
        · exact State.acts_applyBursts _ (.inl ha)
      · exact .refl _
  · exact .refl s

theorem storeOwner_acts (p : List Byte) : s.Acts sc (storeOwner p s).1 := by
  unfold storeOwner
  split
  · exact .refl s
  split
  · exact State.Act.acts (.store h)
  · exact .refl s

end

theorem restartOwner_acts (p : List Byte) : s.Acts sc (restartOwner p s).1 := by
  unfold restartOwner
  split
  · exact .refl s
  split
  · exact .refl s
  · exact State.Quiet.acts { State.Quiet.refl s with }

/-! ### Operation (R57, R66, R110, R111, R135, R137, R145, R159) -/

theorem State.acts_enterWarmup (hm : sc.modes = true) (hp : sc.plans = true) : s.Acts sc s.enterWarmup :=
  (s.acts_enterLine (.inl hm) _ _).trans (.ite (State.acts_faultNotice _ hp) (.refl _))

theorem State.acts_dropFaultCleared : s.Acts sc s.dropFaultCleared := .ite (s.acts_driver _) (.refl s)

theorem State.acts_applyMode (hm : sc.modes = true) (hp : sc.plans = true) (m : Mode) : s.Acts sc (s.applyMode m) := by
  unfold State.applyMode
  split
  · exact s.acts_enterLine (.inl hm) _ _
  · split
    · exact .refl s
    · exact (s.acts_setDrainTarget none).trans (State.acts_enterLine (s.setDrainTarget none) (.inl hm) _ _)
    · exact s.acts_enterWarmup hm hp
  · exact s.acts_beginDrain (.inl hm) _ _
  · exact s.acts_dropFaultCleared.trans (State.acts_enterLine s.dropFaultCleared (.inl hm) _ _)

theorem modeOwner_acts (hm : sc.modes = true) (hp : sc.plans = true) (p : List Byte) : s.Acts sc (modeOwner p s).1 := by
  unfold modeOwner
  split
  · exact .refl s
  split
  · exact .refl s
  split
  · exact .refl s
  split
  · exact .refl s
  · exact s.acts_applyMode hm hp _

section
variable (hp : sc.plans = true)
include hp

/-- A rack that takes its slot does so once, and the rest is plans (R58, R89). -/
theorem State.acts_takeAdmission_rest {slot : Nat} {a : Admission} {c : Cursor}
    {t : State} (hw : s.Walked slot 0 c)
    (ht : t = s.setRack slot (.fresh a.tag (some a.recipe) a.scale a.load a.loadStation .waitingEntry a.loadStation
      none s.clock)) : t.Acts sc (s.takeAdmission slot a c) := by
  subst ht
  refine .trans ?_ (State.acts_turn _)
  exact State.acts_bookChain _ hp hw

theorem State.acts_takeAdmission (ha : sc.admits = true) {slot : Nat} {a : Admission} {c : Cursor}
    (hfree : s.rack slot = none) (hw : s.Walked slot 0 c) : s.Acts sc (s.takeAdmission slot a c) :=
  (State.Act.acts (.take hfree (.inr ha))).trans (s.acts_takeAdmission_rest hp hw rfl)

omit hp in
/-- A four-byte field holds a line second. -/
theorem u32_le (p : List Byte) (i : Nat) : u32 p i ≤ Config.maxSecond := by
  have hu8 (j : Nat) : u8 p j < 256 := (p.getD j 0).isLt
  have h0 := hu8 i
  have h1 := hu8 (i + 1)
  have h2 := hu8 (i + 2)
  have h3 := hu8 (i + 2 + 1)
  simp only [u32, u16, Config.maxSecond]
  omega

omit hp in
/-- What ADMIT does: nothing, or a new rack takes the lowest free slot with the chain its walk found (R57, R58). -/
theorem admitOwner_cases (p : List Byte) :
    (admitOwner p s).1 = s ∨ ∃ slot a c, s.line.state = .ready ∧ s.orphanInBath = false ∧ s.lowestFree = some slot ∧
      s.rackAt a.loadStation = none ∧ s.Walked slot 0 c ∧ (admitOwner p s).1 = s.takeAdmission slot a c := by
  unfold admitOwner
  simp only
  split
  · exact .inl rfl
  next hready =>
  split
  · exact .inl rfl
  next horphan =>
  split
  · exact .inl rfl
  split
  · exact .inl rfl
  split
  · exact .inl rfl
  split
  · exact .inl rfl
  next slot hslot =>
  split
  · exact .inl rfl
  split
  · exact .inl rfl
  next hat =>
  split
  · exact .inl rfl
  split
  · exact .inl rfl
  next c hc =>
  refine .inr ⟨slot, Admission.parse p, c, by simpa using hready, by simpa using horphan, hslot,
    Option.not_isSome_iff_eq_none.mp hat, ⟨s, _, _, _, rfl, rfl, rfl, rfl, rfl, rfl, rfl, rfl,
      max_le (min_le_right _ _) (u32_le _ _), hc⟩, rfl⟩

theorem admitOwner_acts (ha : sc.admits = true) (p : List Byte) : s.Acts sc (admitOwner p s).1 := by
  rcases admitOwner_cases s p with h | ⟨slot, a, c, -, -, hslot, -, hw, h⟩
  · rw [h]; exact .refl s
  · rw [h]; exact s.acts_takeAdmission hp ha (State.rack_lowestFree hslot) hw

theorem abandonOwner_acts (p : List Byte) : s.Acts sc (abandonOwner p s).1 := by
  unfold abandonOwner
  split
  · exact .refl s
  split
  · exact .refl s
  split
  · exact .refl s
  next k r hsel =>
  split
  · exact .refl s
  have hrack : s.rack k = some r := by
    unfold State.selected at hsel
    split at hsel
    · exact (State.mem_racks.mp (List.mem_of_find?_eq_some hsel)).2
    · obtain ⟨q, hq, heq⟩ := Option.map_eq_some_iff.mp hsel
      cases heq
      exact hq
    · cases hsel
  unfold State.abandonRack
  split
  · exact .refl s
  split
  · exact (s.acts_endRack hp _ _ _).trans (State.acts_turn _)
  · exact s.acts_setRack hrack _ (Rack.Follows.of_eq rfl)
  all_goals exact (s.acts_abandonStanding hp k).trans (State.acts_turn _)

theorem evacuateOne_acts (q : State × Nat) (k : Nat) : q.1.Acts sc (evacuateOne q k).1 := by
  unfold evacuateOne
  split
  · exact q.1.acts_joinDeferred k _
  · exact q.1.acts_placeEvacuation hp k

theorem evacuateAll_acts (ks : List Nat) (q : State × Nat) : q.1.Acts sc (ks.foldl evacuateOne q).1 := by
  induction ks generalizing q with
  | nil => exact .refl _
  | cons k ks ih => exact (evacuateOne_acts hp q k).trans (ih _)

theorem evacuateOwner_acts (p : List Byte) : s.Acts sc (evacuateOwner p s).1 := by
  unfold evacuateOwner
  split
  · refine .trans ?_ (State.acts_turn _)
    refine .trans ?_ (State.acts_judgeRecovery _)
    have horder : s.Acts sc { s with evacOrder := s.evacOrder ++ s.evacuees } :=
      State.Quiet.acts { State.Quiet.refl s with }
    exact horder.trans (evacuateAll_acts hp s.evacuees ({ s with evacOrder := s.evacOrder ++ s.evacuees }, 0))
  · exact .refl s

theorem State.acts_decideCarried : s.Acts sc s.decideCarried := by
  unfold State.decideCarried
  split
  · next k r hc =>
    obtain ⟨-, hr, -⟩ := State.rack_of_carried hc
    split
    · exact s.acts_setRack hr _ (Rack.Follows.of_eq rfl)
    · exact s.acts_loseCarried hp hr
  · exact .refl s

theorem carriageClearOwner_acts (p : List Byte) : s.Acts sc (carriageClearOwner p s).1 := by
  unfold carriageClearOwner
  split
  · exact .refl s
  · refine .trans ?_ (State.acts_turn _)
    have hclear (u : State) : u.Acts sc u.clearFault := State.Quiet.acts { State.Quiet.refl u with }
    have hfinish (u : State) : u.Acts sc u.finishClear :=
      .ite ((u.acts_postLine _ _ _).trans (State.acts_judgeRecovery _)) (.refl u)
    exact (s.acts_decideCarried hp).trans ((hclear _).trans (hfinish _))

end

theorem setExhaustionOwner_acts (p : List Byte) : s.Acts sc (setExhaustionOwner p s).1 := by
  unfold setExhaustionOwner
  simp only
  split
  · have hset : s.Acts sc (s.setBath (u8 p 0) { s.bath (u8 p 0) with exhaustion := min (u16 p 1) 1000 }) :=
      State.Quiet.acts (State.quiet_setBath fun _ => min_le_right _ _)
    have hzero (u : State) (n : Nat) : u.Acts sc (u.zeroCredits n) :=
      State.Quiet.acts { State.Quiet.refl u with deliveries := by simp [State.zeroCredits] }
    refine .trans ?_ (State.acts_judgeFlag _ _ _ _)
    exact (hset.trans (State.acts_releaseFlag _ _ _)).trans (hzero _ _)
  · exact .refl s

theorem clearFlagsOwner_acts (p : List Byte) : s.Acts sc (clearFlagsOwner p s).1 := by
  unfold clearFlagsOwner
  simp only
  split
  · exact State.Quiet.acts { State.Quiet.refl s with }
  split
  · refine .trans ?_ (State.acts_setBath _ _ _ rfl)
    exact .ite ((s.acts_releaseFlag _ _).trans (State.acts_setCradle _ _ _)) (.refl s)
  · exact .refl s

theorem clearLinkOwner_acts (p : List Byte) : s.Acts sc (clearLinkOwner p s).1 :=
  State.Quiet.acts { State.Quiet.refl s with discards := Nat.zero_le _ }

/-! ### Reads -/

theorem readSettingOwner_fst (p : List Byte) : (readSettingOwner p s).1 = s := by
  unfold readSettingOwner
  split <;> rfl

theorem readRackOwner_fst (p : List Byte) : (readRackOwner p s).1 = s := by
  unfold readRackOwner
  split
  · rfl
  · split <;> rfl

theorem readScheduleOwner_fst (p : List Byte) : (readScheduleOwner p s).1 = s := by
  unfold readScheduleOwner
  split <;> rfl

theorem readTimelineOwner_fst (p : List Byte) : (readTimelineOwner p s).1 = s := by
  unfold readTimelineOwner
  simp only
  split <;> rfl

theorem readStationOwner_acts (p : List Byte) : s.Acts sc (readStationOwner p s).1 := by
  unfold readStationOwner
  simp only
  split
  · exact State.acts_setBath _ _ _ rfl
  · exact .refl s

theorem readEventsOwner_acts (h : sc.reads = true) (p : List Byte) : s.Acts sc (readEventsOwner p s).1 :=
  State.Act.acts (.read h)

/-! ### The catalogue (12.2) -/

/-- What the request of a kind may do beyond the quiet acts. -/
def scopeOf (kind : Byte) : Scope :=
  match kind.toNat with
  | 0x03 | 0x04 | 0x05 | 0x06 | 0x07 | 0x08 | 0x0C | 0x1B => { settings := true }
  | 0x09 => { settings := true, applies := true }
  | 0x0E => { plans := true, modes := true }
  | 0x0F => { plans := true, admits := true }
  | 0x10 | 0x11 | 0x12 => { plans := true }
  | 0x19 => { reads := true }
  | _ => {}

/-- READ COMPLETIONS with the two oldest records gone, before waiting racks move up (R65). -/
def State.dropCompletions (s : State) : State := { s with completions := s.completions.drop 2 }

/-- The owner of every request is a run of acts within the scope of its kind; READ COMPLETIONS drops its records first. -/
theorem owner_acts (kind : Byte) (p : List Byte) :
    s.Acts (scopeOf kind) ((catalogue kind).2 p s).1 ∨
      (kind.toNat = 0x1A ∧ s.dropCompletions.Acts (scopeOf kind) ((catalogue kind).2 p s).1) := by
  unfold catalogue
  split
  case h_26 h => exact .inr ⟨h, State.acts_fillCompletions _⟩
  all_goals refine .inl ?_
  case h_3 h => exact setLineOwner_acts s (by simp [scopeOf, h]) p
  case h_4 h => exact setStationOwner_acts s (by simp [scopeOf, h]) p
  case h_5 h => exact stationServiceOwner_acts s (by simp [scopeOf, h]) p
  case h_6 h => exact setCurveOwner_acts s (by simp [scopeOf, h]) p
  case h_7 h => exact setRecipeOwner_acts s (by simp [scopeOf, h]) p
  case h_8 h => exact setPatternOwner_acts s (by simp [scopeOf, h]) p
  case h_9 h => exact setBurstsOwner_acts s (by simp [scopeOf, h]) (by simp [scopeOf, h]) p
  case h_10 => exact setExhaustionOwner_acts s p
  case h_11 => rw [readSettingOwner_fst]; exact .refl s
  case h_12 h => exact storeOwner_acts s (by simp [scopeOf, h]) p
  case h_13 => exact restartOwner_acts s p
  case h_14 h => exact modeOwner_acts s (by simp [scopeOf, h]) (by simp [scopeOf, h]) p
  case h_15 h => exact admitOwner_acts s (by simp [scopeOf, h]) (by simp [scopeOf, h]) p
  case h_16 h => exact abandonOwner_acts s (by simp [scopeOf, h]) p
  case h_17 h => exact evacuateOwner_acts s (by simp [scopeOf, h]) p
  case h_18 h => exact carriageClearOwner_acts s (by simp [scopeOf, h]) p
  case h_19 => exact clearFlagsOwner_acts s p
  case h_20 => exact clearLinkOwner_acts s p
  case h_21 => rw [readRackOwner_fst]; exact .refl s
  case h_22 => exact readStationOwner_acts s p
  case h_23 => rw [readScheduleOwner_fst]; exact .refl s
  case h_24 => rw [readTimelineOwner_fst]; exact .refl s
  case h_25 h => exact readEventsOwner_acts s (by simp [scopeOf, h]) p
  case h_27 h => exact setRouteOwner_acts s (by simp [scopeOf, h]) p
  all_goals exact .refl s

end Sys2Proof.Machine
end

section
/-! PROOFS. The course of every command: an act of power or RESET, the start-up load, a line second, a request that is
served, or a run of acts. -/

namespace Sys2Proof.Machine

/-! ### Telegrams -/

section
variable (s : State)

/-- Bytes that come into a frame in progress touch nothing but the link, or end one frame that is served. -/
theorem State.receiveBytes_cases (bytes : List Byte) :
    s.Relinked (bytes.foldl State.receiveByte s) ∨ ∃ kind, s.served (bytes.foldl State.receiveByte s) kind := by
  induction bytes generalizing s with
  | nil => exact .inl (.refl s)
  | cons b bs ih =>
    rw [List.foldl_cons]
    rcases s.receiveByte_cases b with h | ⟨-, kind, h⟩
    · rcases ih (s.receiveByte b) with h' | ⟨kind, h'⟩
      · exact .inl (h.trans h')
      · exact .inr ⟨kind, h'.of_relinked h⟩
    · have hclosed : (s.receiveByte b).link.path = .closed := by
        obtain ⟨p, u, -, hu, -, hpath⟩ := h
        rw [hpath]
        have hkeeps {a b : State} (hact : State.Act (scopeOf kind) a b) (ha : a.link.path = .closed) :
            b.link.path = .closed := by
          have hlinks : (scopeOf kind).links = false := by unfold scopeOf; split <;> rfl
          cases hact with
          | quiet hq => rw [hq.path, ha]
          | relink hl _ => rw [hlinks] at hl; cases hl
          | book => rw [State.bookPlans_eq]; exact ha
          | start => rw [State.markExecuting_eq]; exact ha
          | _ => exact ha
        rcases owner_acts u kind p with hacts | ⟨-, hacts⟩
        · exact hacts.keeps (P := fun v => v.link.path = .closed) hkeeps hu
        · exact hacts.keeps (P := fun v => v.link.path = .closed) hkeeps hu
      rw [State.receiveBytes_closed hclosed]
      exact .inr ⟨kind, h⟩

/-- A path that does not await the bytes of a frame, and is not closed, is in the middle of another. -/
theorem State.receiving_of_not_awaits {s : State} {bytes : List Byte} (hc : s.link.path ≠ .closed)
    (ha : s.awaits bytes = false) : s.link.path = .receiving := by
  cases hp : s.link.path with
  | hunting => simp [State.awaits, hp] at ha
  | receiving => rfl
  | closed => exact absurd hp hc

/-- A whole frame: what it stands for, or, in the middle of another frame, its bytes (R156). -/
theorem State.takeFrame_cases (kind : Byte) (f : Frame) (whole : State → State) :
    s.takeFrame kind f whole = s ∨ s.takeFrame kind f whole = whole s ∨
      (s.link.path = .receiving ∧
        (s.Relinked (s.takeFrame kind f whole) ∨ ∃ k, s.served (s.takeFrame kind f whole) k)) := by
  unfold State.takeFrame
  simp only
  split
  · exact .inl rfl
  · next hc =>
    split
    · exact .inr (.inl rfl)
    · next ha => exact .inr (.inr ⟨State.receiving_of_not_awaits hc (by simpa using ha), s.receiveBytes_cases _⟩)

/-- A telegram touches nothing but the link, or is served as what it is, or, in the middle of another frame, ends one. -/
theorem State.telegram_cases (kind : Byte) (f : Frame) :
    s.Relinked (s.telegram kind f) ∨ s.served (s.telegram kind f) kind ∨
      (s.link.path = .receiving ∧ ∃ k, s.served (s.telegram kind f) k) := by
  rcases s.takeFrame_cases kind f fun t => t.judgeFrame kind f with h | h | ⟨hp, h | h⟩
  · exact .inl (by rw [State.telegram, h]; exact .refl s)
  · rw [State.telegram, h]
    rcases s.judgeFrame_cases kind f with h | h
    · exact .inl h
    · exact .inr (.inl h)
  · exact .inl h
  · exact .inr (.inr ⟨hp, h⟩)

/-- A frame that stands for work on the link alone does no more, but in the middle of another frame. -/
theorem State.takeFrame_relinked_cases {kind : Byte} {f : Frame} {whole : State → State} (h : s.Relinked (whole s)) :
    s.Relinked (s.takeFrame kind f whole) ∨ (s.link.path = .receiving ∧ ∃ k, s.served (s.takeFrame kind f whole) k) := by
  rcases s.takeFrame_cases kind f whole with heq | heq | ⟨hp, hr | hs⟩
  · rw [heq]; exact .inl (.refl s)
  · rw [heq]; exact .inl h
  · exact .inl hr
  · exact .inr ⟨hp, hs⟩

end

/-- The request of a kind may come about by the command: it is its own, or the command ends a frame in progress, or the
kind is none of the catalogue. -/
def State.brings (s : State) (c : Instr) (kind : Byte) : Prop :=
  (∃ x, requestOf c = some x ∧ x.1 = kind) ∨ s.midFrame c ∨ isKnownKind kind = false

/-- The commands of the serial line but the end of a reply and the watchdog. -/
def onLine : Instr → Bool
  | .frameGap _ | .byteDropped _ | .frameLengthDiscard _ _ | .frameCheckFailed _ _ _ | .framePassedOver _ _ _
  | .unknownRequestKind _ _ _ | .leadByteReceived _ _ => true
  | c => (requestOf c).isSome

/-- A command of the serial line touches nothing but the link, or brings one request that is served. -/
theorem effect_onLine {c : Instr} (h : onLine c = true) (s : State) :
    s.Relinked (effect c s) ∨ ∃ kind, s.served (effect c s) kind ∧ s.brings c kind := by
  have request (kind : Byte) (f : Frame) (hk : ∃ x, requestOf c = some x ∧ x.1 = kind) :
      s.Relinked (s.telegram kind f) ∨ ∃ k, s.served (s.telegram kind f) k ∧ s.brings c k := by
    rcases s.telegram_cases kind f with h | h | ⟨hp, k, h⟩
    · exact .inl h
    · exact .inr ⟨kind, h, .inl hk⟩
    · obtain ⟨x, hx, -⟩ := hk
      exact .inr ⟨k, h, .inr (.inl ⟨hp, .inl (by rw [hx]; rfl)⟩)⟩
  have hbreak : s.Relinked s.breakFrame := by
    unfold State.breakFrame
    split
    · exact s.relinked_discard
    · exact .refl s
  cases c
  case frameGap => exact .inl hbreak
  case byteDropped => exact .inl hbreak
  case leadByteReceived b inp =>
    rcases s.receiveByte_cases b with h | ⟨hp, k, h⟩
    · exact .inl h
    · exact .inr ⟨k, h, .inr (.inl ⟨hp, .inr (.inl ⟨b, inp, .inl rfl⟩)⟩)⟩
  case frameLengthDiscard b inp =>
    simp only [effect, State.lengthByte]
    split
    · exact .inl (.refl s)
    split
    · rcases s.receiveByte_cases b with h | ⟨hp, k, h⟩
      · exact .inl h
      · exact .inr ⟨k, h, .inr (.inl ⟨hp, .inr (.inl ⟨b, inp, .inr rfl⟩)⟩)⟩
    · exact .inl s.relinked_discard
  case frameCheckFailed kind f inp =>
    simp only [effect, State.checkFailed]
    split
    · exact .inl (.refl s)
    · rcases s.takeFrame_relinked_cases (kind := kind) (f := f) s.relinked_discard with h | ⟨hp, k, h⟩
      · exact .inl h
      · exact .inr ⟨k, h, .inr (.inl ⟨hp, .inr (.inr ⟨kind, f, inp, .inl rfl⟩)⟩)⟩
  case framePassedOver kind f inp =>
    simp only [effect, State.passOver]
    split
    · rcases s.takeFrame_relinked_cases (kind := kind) (f := f) s.relinked_hunt with h | ⟨hp, k, h⟩
      · exact .inl h
      · exact .inr ⟨k, h, .inr (.inl ⟨hp, .inr (.inr ⟨kind, f, inp, .inr (.inl rfl)⟩)⟩)⟩
    · exact .inl (.refl s)
  case unknownRequestKind kind f inp =>
    simp only [effect, State.unknownKind]
    split
    · next hk =>
      rcases s.telegram_cases kind f with h | h | ⟨hp, k, h⟩
      · exact .inl h
      · exact .inr ⟨kind, h, .inr (.inr hk.2)⟩
      · exact .inr ⟨k, h, .inr (.inl ⟨hp, .inr (.inr ⟨kind, f, inp, .inr (.inr rfl)⟩)⟩)⟩
    · exact .inl (.refl s)
  all_goals first | exact request _ _ ⟨_, rfl, rfl⟩ | cases h

/-! ### The line second -/

theorem mem_firstPlaces {x : SecondTask} {l : List SecondTask} : x ∈ firstPlaces l ↔ x ∈ l := by
  induction l with
  | nil => rfl
  | cons a l ih =>
    by_cases h : x = a
    · simp [firstPlaces, h]
    · simp [firstPlaces, h, ih]

theorem firstPlaces_nodup (l : List SecondTask) : (firstPlaces l).Nodup := by
  induction l with
  | nil => exact .nil
  | cons a l ih =>
    rw [firstPlaces, List.nodup_cons]
    exact ⟨by simp, ih.filter _⟩

/-- Every piece of work a line second holds is done in it, whatever its order. -/
theorem mem_taskOrder_of_mandatory {x : SecondTask} (h : x ∈ mandatoryTasks) (order : List SecondTask) :
    x ∈ taskOrder order := mem_firstPlaces.mpr (List.mem_append_right _ h)

/-- The carriage moves in a line second exactly where its order names it. -/
theorem carriage_mem_taskOrder {order : List SecondTask} : .carriage ∈ taskOrder order ↔ .carriage ∈ order := by
  rw [taskOrder, mem_firstPlaces, List.mem_append]
  exact or_iff_left (by decide)

/-- The part as a line second begins: the clock advanced, the Integrator's work still to do for every slot (R6). -/
def State.tock (s : State) : State := { s with clock := addSec s.clock 1, accrualDue := allSlots }

theorem State.lineSecond_eq (s : State) (order : List SecondTask) :
    s.lineSecond order = (taskOrder order).foldl State.doTurn s.tock := rfl

theorem State.developAll_accrualDue (s : State) : s.developAll.accrualDue = [] := rfl

/-- What every act keeps that is empty stays empty: the racks the Integrator has still to reach. -/
theorem State.Acts.accrualDue {sc : Scope} {s t : State} (h : s.Acts sc t) (hs : s.accrualDue = []) :
    t.accrualDue = [] := by
  refine h.keeps (P := fun u => u.accrualDue = []) (fun {a b} hact ha => ?_) hs
  cases hact with
  | quiet hq => exact hq.accrual ha
  | relink _ hr => rw [hr.eq]; exact ha
  | book => rw [State.bookPlans_eq]; exact ha
  | start => rw [State.markExecuting_eq]; exact ha
  | _ => exact ha

end Sys2Proof.Machine
end

section
/-! PROOFS. The course of every command, and what every command keeps: the clock (R6) and the waiting commands. -/

namespace Sys2Proof.Machine

/-- What a command of the plant may do beyond the quiet acts. -/
def plantScope : Instr → Scope
  | .moveStart _ => { plans := true, starts := true }
  | .lineSecond order _ => { plans := true, starts := decide (SecondTask.carriage ∈ order) }
  | .manifoldTick _ | .frameWrap _ => { applies := true }
  | _ => { plans := true, links := true }

/-- The part right after the settings are loaded (R16), before cradles, flags, events and orphans. -/
def State.withSettings (s : State) : State := s.takeSettings (s.nv.load.getD .factory) s.nv.load.isNone

/-- How a command can go: not at all; to a full reset; to a halt; through the start-up load; through a line second; to a
request that is served; or through acts of its scope. -/
inductive Course (c : Instr) (s : State) : State → Prop
  | stay : Course c s s
  | reset (wrote : Bool) (run : RunState) (inp : Inputs) (h : fullResets c = true) (hrun : run ≠ .running) :
      Course c s ((s.interruptStore wrote).fullReset run inp)
  | renew (run : RunState) (inp : Inputs) (h : fullResets c = true) (hrun : run ≠ .running) : Course c s (s.fullReset run inp)
  | halt (run : RunState) (wrote : Bool) (inp : Inputs)
      (hc : c = .powerLoss wrote inp ∨ c = .resetAsserted wrote inp) : Course c s (s.halt run wrote inp)
  | load (inp : Inputs) {u : State} (hc : c = .startupLoadDone inp)
      (h : (s.latch inp).withSettings.Acts { orphans := true } u) : Course c s u.drive
  | second (order : List SecondTask) (inp : Inputs) {u : State} (hc : c = .lineSecond order inp) (hlive : s.run.live = true)
      (h : (s.latch inp).tock.Acts (plantScope c) u) (hdue : u.accrualDue = []) : Course c s u.drive
  | served {kind : Byte} {u : State} (hb : s.brings c kind) (h : (s.latch (Laws.Pins.pinsOf c)).served u kind) :
      Course c s u.drive
  | acts {u : State} (h : (s.latch (Laws.Pins.pinsOf c)).Acts (plantScope c) u) : Course c s u.drive

theorem State.acts_loadDone (s : State) (cause : ResetCause) :
    s.withSettings.Acts { orphans := true } (s.loadDone cause) := by
  unfold State.loadDone
  refine .trans ?_ (State.acts_createOrphans _ rfl)
  have hlower (u : State) : u.Acts { orphans := true } u.lowerCradles :=
    State.acts_foldl (fun v n => v.acts_beginFalling n 0) _ _
  have hdoubt (u : State) : u.Acts { orphans := true } u.doubtExhaustion :=
    State.acts_foldl (fun v n => v.acts_assertFlag n .exhUnknown) _ _
  refine .trans ?_ (.ite (State.acts_postLine _ _ _ _) (.refl _))
  refine .trans ?_ (State.acts_postLine _ _ _ _)
  exact (hlower _).trans (hdoubt _)

theorem State.acts_linkLostAction {sc : Scope} (s : State) : s.Acts sc s.linkLostAction := by
  unfold State.linkLostAction
  split
  · next h => exact s.acts_beginDrain (.inr (by rw [h]; exact ⟨nofun, nofun⟩)) _ _
  · next h => exact s.acts_enterLine (.inr (by rw [h]; exact ⟨nofun, nofun⟩)) _ _
  · exact .refl s

theorem State.acts_watchdogExpiry {sc : Scope} (s : State) (h : sc.links = true) : s.Acts sc s.watchdogExpiry := by
  unfold State.watchdogExpiry
  split
  · split
    · refine .trans ?_ (State.acts_linkLostAction _)
      refine .trans ?_ (State.acts_postLine _ _ _ _)
      exact State.Act.acts (.relink h (s.relinked_link _ (le_max_left _ _)))
    · exact .refl s
  · exact .refl s
  · exact .refl s

theorem State.acts_storeWriteEnd {sc : Scope} (s : State) (good : Bool) : s.Acts sc (s.storeWriteEnd good) := by
  unfold State.storeWriteEnd
  split
  · next c hc =>
    refine .trans ?_ (State.acts_postLine _ _ _ _)
    refine State.Act.acts (.written ?_)
    split
    · exact .inr ⟨c, _, hc, rfl⟩
    · exact .inl rfl
  · exact .refl s

theorem State.acts_lineSecond {sc : Scope} (s : State) {order : List SecondTask} (hp : sc.plans = true)
    (h : .carriage ∈ order → sc.starts = true) : s.tock.Acts sc (s.lineSecond order) :=
  s.tock.acts_doTurns hp fun hc => h (carriage_mem_taskOrder.mp hc)

/-- After a line second the Integrator has no rack left to reach: its work is one of the pieces always done. -/
theorem State.lineSecond_accrualDue (s : State) (order : List SecondTask) : (s.lineSecond order).accrualDue = [] := by
  obtain ⟨before, after, hsplit⟩ :=
    List.append_of_mem (mem_taskOrder_of_mandatory (x := .develop) (by decide) order)
  rw [State.lineSecond_eq, hsplit, List.foldl_append, List.foldl_cons]
  generalize before.foldl State.doTurn s.tock = u
  have hturn : (u.doTurn .develop).accrualDue = [] := by
    rw [State.doTurn, State.turn_eq]
    exact u.developAll_accrualDue
  exact (State.acts_doTurns (sc := { plans := true, starts := true }) _ rfl fun _ => rfl).accrualDue hturn

/-- Every command takes one of these courses. -/
theorem exec_course {c : Instr} {s t : State} (h : exec c s = .next t) : Course c s t := by
  rcases exec_shape c s with hf | ⟨wrote, inp, rfl⟩ | ⟨wrote, inp, rfl⟩ | ⟨inp, rfl⟩ | ⟨wrote, inp, rfl⟩
  · rw [hf] at h
    by_cases hlive : s.run.live = true
    · obtain rfl : (effect c (s.latch (Laws.Pins.pinsOf c))).drive = t := by simpa [event, hlive] using h
      by_cases hline : onLine c = true
      · rcases effect_onLine hline (s.latch (Laws.Pins.pinsOf c)) with hr | ⟨kind, hs, hb⟩
        · refine .acts (State.Act.acts (.relink ?_ hr))
          cases c <;> first | rfl | cases hline
        · exact .served hb hs
      · cases c
        case startupLoadDone inp =>
          simp only [effect, State.endLoad]
          split
          · exact .load inp rfl (State.acts_loadDone _ _)
          all_goals exact .acts (.refl _)
        case lineSecond order inp =>
          exact .second order inp rfl hlive (State.acts_lineSecond _ rfl fun hc => by simp [plantScope, hc])
            (State.lineSecond_accrualDue _ _)
        case replySent inp =>
          simp only [effect, State.replySent]
          split
          · split
            · have hdrive : (((s.latch inp).fullReset (.loading .restart) inp)).drive =
                  s.fullReset (.loading .restart) inp := rfl
              exact hdrive ▸ .renew _ inp rfl nofun
            · refine .acts (State.Act.acts (.relink rfl ?_))
              exact State.relinked_link _ _ (le_max_left _ _)
          · exact .acts (.refl _)
        case intervalExpiry n i inp => exact .acts (State.acts_examineAt _ rfl n i)
        case overstay k inp => exact .acts (State.acts_examineOverstay _ k)
        case warmupTimeout inp => exact .acts (State.acts_timeoutWarmup _)
        case moveStart inp => exact .acts (State.acts_moveStart _ rfl rfl)
        case carriageArrival inp => exact .acts (State.acts_carriageArrival _ rfl)
        case hoistUpLimit inp => exact .acts (State.acts_upLimit _ rfl)
        case drainEnd inp => exact .acts (State.acts_drainDue _ rfl)
        case hoistDownLimit inp => exact .acts (State.acts_downLimit _ rfl)
        case hookFall inp => exact .acts (State.acts_hookFall _ rfl)
        case phaseTimeout inp => exact .acts (State.acts_phaseTimeout _ rfl)
        case dunkDue k inp => exact .acts (State.acts_dunkNow _ k)
        case cradleUpLimit n inp => exact .acts (.ite (State.acts_setCradle _ _ _) (.refl _))
        case dunkOutEnd n inp => exact .acts (.ite (State.acts_setCradle _ _ _) (.refl _))
        case cradleDownLimit n inp => exact .acts (.ite (State.acts_setCradle _ _ _) (.refl _))
        case cradleTimeout n inp => exact .acts (.ite (State.acts_cradleFault _ _) (.refl _))
        case frameWrap inp => exact .acts (.ite (State.acts_tick _ rfl) (.refl _))
        case manifoldTick inp => exact .acts (.ite (State.acts_tick _ rfl) (.refl _))
        case burstOnTick n inp => exact .acts (State.acts_burstOn _ n)
        case burstOffTick n inp => exact .acts (State.acts_burstOff _ n)
        case gasPressureChange inp => exact .acts (State.acts_readGas _)
        case pumpStart inp => exact .acts (State.acts_startPump _)
        case pumpFlowFault inp => exact .acts (State.acts_flowFault _)
        case pumpRunComplete inp => exact .acts (State.acts_completeRun _)
        case storeWriteEnd good inp => exact .acts (State.acts_storeWriteEnd _ good)
        case linkWatchdogExpiry inp => exact .acts (State.acts_watchdogExpiry _ rfl)
        case powerOn wrote inp => exact .acts (.refl _)
        case resetAsserted wrote inp => exact .acts (.refl _)
        case resetReleased inp => exact .acts (.refl _)
        case powerLoss wrote inp => exact .acts (.refl _)
        all_goals exact absurd rfl hline
    · obtain rfl : s = t := by simpa [event, hlive] using h
      exact .stay
  · cases h
    refine .reset wrote _ inp rfl ?_
    split <;> exact nofun
  · obtain rfl : s.resetAsserted wrote inp = t := by simpa [exec, execResetAsserted] using h
    unfold State.resetAsserted
    split
    · exact .halt _ wrote inp (.inr rfl)
    · exact .stay
  · obtain rfl : s.resetReleased inp = t := by simpa [exec, execResetReleased] using h
    unfold State.resetReleased
    split
    · exact .renew _ inp rfl nofun
    · exact .stay
  · obtain rfl : s.powerLoss wrote inp = t := by simpa [exec, execPowerLoss] using h
    unfold State.powerLoss
    split
    · exact .stay
    · exact .halt _ wrote inp (.inl rfl)

end Sys2Proof.Machine
end

section
/-! PROOFS. What every command keeps: the clock and the waiting commands (R6), the bounds of the queues and the sizes of the
tables, the live map, the exhaustion indices and the line record. -/

namespace Sys2Proof.Machine

section
variable {sc : Scope} {s t : State}

/-! ### From acts to commands -/

/-- What every act, the loss of the completion records a READ COMPLETIONS takes, and the work of the Link Port keep, a
served request keeps. -/
theorem State.served.keeps {P : State → Prop} {kind : Byte} (h : s.served t kind)
    (hact : ∀ {sc : Scope} {a b : State}, State.Act sc a b → P a → P b)
    (hdrop : ∀ {a : State}, P a → P a.dropCompletions) (hs : P s) : P t := by
  obtain ⟨p, u, hu, -, ht, -⟩ := h
  have hrelink {a b : State} (hr : a.Relinked b) (ha : P a) : P b :=
    hact (State.Act.relink (sc := { links := true }) rfl hr) ha
  refine hrelink ht ?_
  rcases owner_acts u kind p with h | ⟨-, h⟩
  · exact h.keeps hact (hrelink hu hs)
  · exact h.keeps hact (hdrop (hrelink hu hs))

/-- What the acts and the work around them keep, every command keeps. -/
theorem exec_keeps {P : State → Prop} {c : Instr} (h : exec c s = .next t)
    (hact : ∀ {sc : Scope} {a b : State}, State.Act sc a b → P a → P b)
    (hdrop : ∀ {a : State}, P a → P a.dropCompletions) (hlatch : ∀ {a : State} (inp), P a → P (a.latch inp))
    (htock : ∀ {a : State}, P a → P a.tock) (hload : ∀ {a : State}, P a → P a.withSettings)
    (hreset : ∀ {a : State} (run inp), P a → P (a.fullReset run inp))
    (hinterrupt : ∀ {a : State} (wrote), P a → P (a.interruptStore wrote))
    (hhalt : ∀ {a : State} (run wrote inp), P a → P (a.halt run wrote inp)) (hs : P s) : P t := by
  have hdrive {a : State} (ha : P a) : P a.drive := hact (sc := {}) (.quiet a.quiet_drive) ha
  cases exec_course h with
  | stay => exact hs
  | reset wrote run inp => exact hreset _ _ (hinterrupt _ hs)
  | renew run inp => exact hreset _ _ hs
  | halt run wrote inp => exact hhalt _ _ _ hs
  | load inp _ hu => exact hdrive (hu.keeps hact (hload (hlatch _ hs)))
  | second order inp _ _ hu => exact hdrive (hu.keeps hact (htock (hlatch _ hs)))
  | served _ hu => exact hdrive (hu.keeps hact hdrop (hlatch _ hs))
  | acts hu => exact hdrive (hu.keeps hact (hlatch _ hs))

/-! ### The clock and the waiting commands -/

/-- An act leaves the clock, the pins and the waiting commands as they are. -/
theorem State.Act.frame (h : State.Act sc s t) : t.clock = s.clock ∧ t.pins = s.pins ∧ t.pending = s.pending := by
  cases h with
  | quiet hq => exact ⟨hq.clock, hq.pins, hq.pending⟩
  | relink _ hr => rw [hr.eq]; exact ⟨rfl, rfl, rfl⟩
  | book => rw [State.bookPlans_eq]; exact ⟨rfl, rfl, rfl⟩
  | start => rw [State.markExecuting_eq]; exact ⟨rfl, rfl, rfl⟩
  | _ => exact ⟨rfl, rfl, rfl⟩

theorem State.Acts.clock (h : s.Acts sc t) : t.clock = s.clock :=
  h.keeps (P := fun u => u.clock = s.clock) (fun hact ha => hact.frame.1.trans ha) rfl

theorem State.Acts.pins (h : s.Acts sc t) : t.pins = s.pins :=
  h.keeps (P := fun u => u.pins = s.pins) (fun hact ha => hact.frame.2.1.trans ha) rfl

theorem State.served.clock {kind : Byte} (h : s.served t kind) : t.clock = s.clock :=
  h.keeps (P := fun u => u.clock = s.clock) (fun hact ha => hact.frame.1.trans ha) id rfl

theorem State.served.pins {kind : Byte} (h : s.served t kind) : t.pins = s.pins :=
  h.keeps (P := fun u => u.pins = s.pins) (fun hact ha => hact.frame.2.1.trans ha) id rfl

/-- Every command leaves the waiting commands as they are. -/
theorem exec_pending {c : Instr} (h : exec c s = .next t) : t.pending = s.pending := by
  refine exec_keeps (P := fun u => u.pending = s.pending) h (fun hact ha => hact.frame.2.2.trans ha) id (fun _ => id) id
    id (fun _ _ => id) (fun _ ha => ?_) (fun _ _ _ ha => ?_) rfl
  · rw [State.interruptStore_eq]; exact ha
  · rw [State.halt_frame]; exact ha

/-- Every command answers a next state. -/
theorem exec_total (c : Instr) (s : State) : ∃ t, exec c s = .next t := by
  rcases exec_shape c s with hf | ⟨wrote, inp, rfl⟩ | ⟨wrote, inp, rfl⟩ | ⟨inp, rfl⟩ | ⟨wrote, inp, rfl⟩
  · rw [hf]; unfold event; split
    · exact ⟨_, rfl⟩
    · exact ⟨_, rfl⟩
  all_goals exact ⟨_, rfl⟩

/-- Settles O2: no act touches the clock; the second and the full reset do. -/
theorem commandsAnswerAndOnlySecondsMoveTheClock : Obligations.CommandsAnswerAndOnlySecondsMoveTheClock := by
  refine ⟨fun c s => ?_, fun c s t h => ?_⟩
  · obtain ⟨t, ht⟩ := exec_total c s
    exact ⟨t, ht, exec_pending ht⟩
  · cases exec_course h with
    | stay => exact .inl rfl
    | reset wrote run inp hc hrun => exact .inr (.inl ⟨hc, rfl, hrun⟩)
    | renew run inp hc hrun => exact .inr (.inl ⟨hc, rfl, hrun⟩)
    | halt run wrote inp => left; rw [State.halt_frame]
    | load inp _ hu => left; rw [State.drive_clock, hu.clock]; rfl
    | second order inp hc hlive hu =>
      refine .inr (.inr ⟨order, inp, hc, ?_, ?_, by rw [State.drive_clock, hu.clock]; rfl⟩)
      · intro hoff; rw [hoff] at hlive; cases hlive
      · intro hheld; rw [hheld] at hlive; cases hlive
    | served _ hu => left; rw [State.drive_clock, hu.clock]; rfl
    | acts hu => left; rw [State.drive_clock, hu.clock]; rfl

/-! ### A property of every settings -/

/-- The image a halt or a full reset leaves is the one before, a damaged one, or the content captured. -/
theorem State.interruptStore_everySettings {p : Settings → Prop} (h : s.everySettings p) (wrote : Bool) :
    (s.interruptStore wrote).everySettings p := by
  obtain ⟨hcfg, hstore, himg⟩ := h
  refine ⟨by rw [State.interruptStore_eq]; exact hcfg, by rw [State.interruptStore_eq]; nofun, fun c check hnv => ?_⟩
  cases hw : s.storeWrite with
  | none => rw [State.interruptStore_nv_none hw] at hnv; exact himg c check hnv
  | some w =>
    rw [State.interruptStore_nv_some hw] at hnv
    split at hnv
    · cases hnv; exact hstore _ hw
    · cases hnv

theorem State.halt_everySettings {p : Settings → Prop} (h : s.everySettings p) (run : RunState) (wrote : Bool)
    (inp : Inputs) : (s.halt run wrote inp).everySettings p := by
  rw [State.halt_frame]
  obtain ⟨-, -, himg⟩ := State.interruptStore_everySettings h wrote
  exact ⟨h.1, nofun, himg⟩

/-- The settings a load takes are the image's or the factory defaults. -/
theorem State.withSettings_everySettings {p : Settings → Prop} (hfactory : p .factory) (h : s.everySettings p) :
    s.withSettings.everySettings p := by
  obtain ⟨-, hstore, himg⟩ := h
  refine ⟨?_, hstore, himg⟩
  have hcfg : s.withSettings.cfg = s.nv.load.getD .factory := rfl
  rw [hcfg]
  cases hnv : s.nv with
  | blank => exact hfactory
  | damaged => exact hfactory
  | image c check =>
    simp only [NvImage.load]
    split
    · exact himg c check hnv
    · exact hfactory

/-- An act brings the settings in use, of a write in progress and of the image no content but one its changes of the
settings in use allow. -/
theorem State.Act.everySettings {p : Settings → Prop} (h : State.Act sc s t) (hcfg : p t.cfg) (hs : s.everySettings p) :
    t.everySettings p := by
  obtain ⟨hc, hstore, himg⟩ := hs
  cases h with
  | quiet hq => exact ⟨hcfg, by rw [hq.storeWrite]; exact hstore, by rw [hq.nv]; exact himg⟩
  | relink _ hr => rw [hr.eq] at hcfg ⊢; exact ⟨hcfg, hstore, himg⟩
  | book => rw [State.bookPlans_eq] at hcfg ⊢; exact ⟨hcfg, hstore, himg⟩
  | start => rw [State.markExecuting_eq] at hcfg ⊢; exact ⟨hcfg, hstore, himg⟩
  | store =>
    refine ⟨hcfg, fun c hw => ?_, himg⟩
    cases hw; exact hc
  | written hnv =>
    refine ⟨hcfg, nofun, fun c check heq => ?_⟩
    rcases hnv with rfl | ⟨d, ch, hw, rfl⟩
    · cases heq
    · cases heq; exact hstore _ hw
  | _ => exact ⟨hcfg, hstore, himg⟩

/-- Every command keeps a property of all settings that the factory defaults have and every act keeps for the settings in
use. -/
theorem exec_everySettings {p : Settings → Prop} {c : Instr} (h : exec c s = .next t) (hfactory : p .factory)
    (hact : ∀ {sc : Scope} {a b : State}, State.Act sc a b → p a.cfg → p b.cfg) (hs : s.everySettings p) :
    t.everySettings p :=
  exec_keeps (P := fun u => u.everySettings p) h (fun hab ha => hab.everySettings (hact hab ha.1) ha) id (fun _ => id) id
    (State.withSettings_everySettings hfactory) (fun _ _ ha => ⟨hfactory, nofun, ha.2.2⟩)
    (fun wrote ha => State.interruptStore_everySettings ha wrote)
    (fun run wrote inp ha => State.halt_everySettings ha run wrote inp) hs

/-! ### The line record and the live map -/

/-- An act changes the line record to one in range alone. -/
theorem State.Act.line_inRange (h : State.Act sc s t) (hs : s.cfg.line.inRange = true) : t.cfg.line.inRange = true := by
  cases h with
  | quiet hq => rw [hq.cfg]; exact hs
  | relink _ hr => rw [hr.eq]; exact hs
  | book => rw [State.bookPlans_eq]; exact hs
  | start => rw [State.markExecuting_eq]; exact hs
  | set c _ _ hc => exact hc ▸ hs
  | tune c _ hc => exact hc
  | _ => exact hs

/-- The search for the lowest pair finds none only where no two enabled entries agree. -/
theorem lowestPair_none {tick : Burst → Nat} {m : List Burst} (h : lowestPair tick m = none) {i j : Nat} :
    ¬ sharedTick tick m i j := by
  rintro ⟨hi, hij, hj, hei, hej, htick⟩
  have hmem {n : Nat} (h1 : 1 ≤ n) (hn : n ≤ 16) : n ∈ allStations := by simp [allStations]; omega
  have hrow := List.findSome?_eq_none_iff.mp h i (hmem hi (by omega))
  have hno := List.find?_eq_none.mp (Option.map_eq_none_iff.mp hrow) j (hmem (by omega) hj)
  simp [hij, hei, hej, htick] at hno

/-- A map without a clash is clear (R121). -/
theorem mapClear_of_clash {m : List Burst} (h : clash m = none) : mapClear m :=
  fun _ _ hi hij hj hei hej heq => lowestPair_none h ⟨hi, hij, hj, hei, hej, heq⟩

/-- An act makes a map without a clash live alone. -/
theorem State.Act.live_clear (h : State.Act sc s t) (hs : mapClear s.cfg.live) : mapClear t.cfg.live := by
  cases h with
  | quiet hq => rw [hq.cfg]; exact hs
  | relink _ hr => rw [hr.eq]; exact hs
  | book => rw [State.bookPlans_eq]; exact hs
  | start => rw [State.markExecuting_eq]; exact hs
  | live hclash => exact mapClear_of_clash hclash
  | set c _ hl => exact hl ▸ hs
  | _ => exact hs

theorem mapClear_factory : mapClear Settings.factory.live := mapClear_of_clash (by decide)

/-! ### The exhaustion indices -/

theorem State.Act.exhaustionBounded (h : State.Act sc s t) (hs : s.exhaustionBounded) : t.exhaustionBounded := by
  cases h with
  | quiet hq => exact hq.exhaustion hs
  | relink _ hr => rw [hr.eq]; exact hs
  | book => rw [State.bookPlans_eq]; exact hs
  | start => rw [State.markExecuting_eq]; exact hs
  | _ => exact hs

theorem exec_exhaustionBounded {c : Instr} (h : exec c s = .next t) (hs : s.exhaustionBounded) : t.exhaustionBounded := by
  refine exec_keeps h State.Act.exhaustionBounded id (fun _ => id) id id (fun _ _ _ => ?_) (fun _ ha => ?_)
    (fun _ _ _ ha => ?_) hs
  · intro b hb
    obtain rfl : b = {} := List.eq_of_mem_replicate hb
    exact Nat.zero_le _
  · rw [State.interruptStore_eq]; exact ha
  · rw [State.halt_frame]; exact ha

/-- What every command keeps, every step keeps: an empty queue idles. -/
theorem step_keeps {P : State → Prop} (h : step s = .next t) (hpop : ∀ {u : State} (l), P u → P { u with pending := l })
    (hexec : ∀ {c : Instr} {u : State}, exec c u = .next t → P u → P t) (hs : P s) : P t := by
  unfold step at h
  split at h
  · cases h; exact hs
  · next c rest _ => exact hexec h (hpop rest hs)

/-! ### The bounds of the queues -/

theorem State.Act.queuesBounded (h : State.Act sc s t) (hs : s.queuesBounded) : t.queuesBounded := by
  obtain ⟨hevents, hlost, hcompletions, hdeliveries, hdiscards⟩ := hs
  cases h with
  | quiet hq =>
    exact ⟨hq.events.trans (by omega), hq.lost.trans (by omega), by rw [hq.completions]; exact hcompletions,
      hq.deliveries.trans (by omega), hq.discards.trans (by omega)⟩
  | relink _ hr =>
    refine ⟨hr.events.trans (by omega), hr.lost.trans (by omega), ?_, ?_, hr.discards.trans (by omega)⟩
    all_goals rw [hr.eq]; assumption
  | file _ hroom =>
    refine ⟨hevents, hlost, ?_, hdeliveries, hdiscards⟩
    simp only [State.freeSlot, List.length_append, List.length_singleton]
    omega
  | book => rw [State.bookPlans_eq]; exact ⟨hevents, hlost, hcompletions, hdeliveries, hdiscards⟩
  | start => rw [State.markExecuting_eq]; exact ⟨hevents, hlost, hcompletions, hdeliveries, hdiscards⟩
  | read =>
    refine ⟨?_, Nat.zero_le _, hcompletions, hdeliveries, hdiscards⟩
    simp only [List.length_drop]
    omega
  | _ => exact ⟨hevents, hlost, hcompletions, hdeliveries, hdiscards⟩

theorem exec_queuesBounded {c : Instr} (h : exec c s = .next t) (hs : s.queuesBounded) : t.queuesBounded := by
  refine exec_keeps h State.Act.queuesBounded (fun ⟨he, hl, hc, hd, hk⟩ => ⟨he, hl, ?_, hd, hk⟩) (fun _ => id) id
    (fun ⟨_, _, hc, hd, hk⟩ => ⟨Nat.zero_le _, Nat.zero_le _, hc, hd, hk⟩)
    (fun _ _ _ => ⟨Nat.zero_le _, Nat.zero_le _, Nat.zero_le _, Nat.zero_le _, Nat.zero_le _⟩)
    (fun _ ha => ?_) (fun _ _ _ ha => ?_) hs
  · simp only [State.dropCompletions, List.length_drop]; omega
  · rw [State.interruptStore_eq]; exact ha
  · rw [State.halt_frame]; exact ha

/-! ### The sizes of the tables -/

/-- The tables of stations and slots have their sizes (0.5). -/
def State.tabled (s : State) : Prop :=
  s.slots.length = 24 ∧ s.timelines.length = 16 ∧ s.cradles.length = 16 ∧ s.baths.length = 16 ∧
  s.manifold.valves.length = 16 ∧ s.manifold.staged.length = 16 ∧ s.line.settle.length = 16

theorem State.shaped_iff : s.shaped ↔ s.everySettings Settings.shaped ∧ s.tabled := Iff.rfl

@[simp] theorem State.addInterval_timelines_length (n : Nat) (iv : Interval) :
    (s.addInterval n iv).timelines.length = s.timelines.length := by
  simp [State.addInterval, State.setTimeline]

@[simp] theorem State.bookPlans_timelines_length (k first : Nat) (c : Cursor) :
    (s.bookPlans k first c).timelines.length = s.timelines.length := by
  have hstays (l : List (Nat × Interval)) (u : State) :
      (l.foldl (fun u e => u.addInterval e.1 e.2) u).timelines.length = u.timelines.length := by
    induction l generalizing u with
    | nil => rfl
    | cons e l ih => rw [List.foldl_cons, ih, State.addInterval_timelines_length]
  rw [State.bookPlans, hstays]
  simp [State.removeStaysFrom, State.mapTimelines]

@[simp] theorem State.slidePlans_timelines_length (e : Entry) (p : Nat) :
    (s.slidePlans e p).timelines.length = s.timelines.length := by
  simp [State.slidePlans, State.setTimeline]

@[simp] theorem State.rebookLines_length (e : Entry) (p : Nat) : (s.rebookLines e p).length = s.timelines.length := by
  simp [State.rebookLines]

/-- An act keeps the sizes of the tables; the staged map becomes live with a size kept. -/
theorem State.Act.tabled (h : State.Act sc s t) (hs : s.tabled) : t.tabled := by
  obtain ⟨hslots, hlines, hcradles, hbaths, hvalves, hstaged, hsettle⟩ := hs
  cases h with
  | quiet hq =>
    refine ⟨hq.slots.trans hslots, hq.timelines ▸ hlines, hq.cradles.trans hcradles, hq.baths.trans hbaths, ?_,
      hq.staged ▸ hstaged, ?_⟩
    · rcases hq.valves with hv | hv
      · exact hv.trans hvalves
      · exact hv
    · rcases hq.settle with hv | hv
      · exact hv.trans hsettle
      · exact hv
  | relink _ hr => rw [hr.eq]; exact ⟨hslots, hlines, hcradles, hbaths, hvalves, hstaged, hsettle⟩
  | file => exact ⟨by simpa [State.freeSlot] using hslots, hlines, hcradles, hbaths, hvalves, hstaged, hsettle⟩
  | free => exact ⟨by simpa [State.freeSlot] using hslots, hlines, hcradles, hbaths, hvalves, hstaged, hsettle⟩
  | take => exact ⟨by simpa [State.setRack] using hslots, hlines, hcradles, hbaths, hvalves, hstaged, hsettle⟩
  | trim _ _ ht => exact ⟨hslots, ht.length_eq.trans hlines, hcradles, hbaths, hvalves, hstaged, hsettle⟩
  | @book slot first c =>
    have hlen := (State.bookPlans_timelines_length slot first c).trans hlines
    rw [State.bookPlans_eq]
    exact ⟨hslots, hlen, hcradles, hbaths, hvalves, hstaged, hsettle⟩
  | slide => exact ⟨hslots, by simpa using hlines, hcradles, hbaths, hvalves, hstaged, hsettle⟩
  | rebook => exact ⟨hslots, by simpa using hlines, hcradles, hbaths, hvalves, hstaged, hsettle⟩
  | start => rw [State.markExecuting_eq]; exact ⟨hslots, hlines, hcradles, hbaths, hvalves, hstaged, hsettle⟩
  | stage m _ hm => exact ⟨hslots, hlines, hcradles, hbaths, hvalves, hm.trans hstaged, hsettle⟩
  | _ => exact ⟨hslots, hlines, hcradles, hbaths, hvalves, hstaged, hsettle⟩

theorem State.Act.cfg_shaped (h : State.Act sc s t) (hstaged : s.manifold.staged.length = 16) (hs : s.cfg.shaped) :
    t.cfg.shaped := by
  cases h with
  | quiet hq => rw [hq.cfg]; exact hs
  | relink _ hr => rw [hr.eq]; exact hs
  | book => rw [State.bookPlans_eq]; exact hs
  | start => rw [State.markExecuting_eq]; exact hs
  | live =>
    obtain ⟨hst, hcl, hcu, hre, hpa, -, hro⟩ := hs
    exact ⟨hst, hcl, hcu, hre, hpa, hstaged, hro⟩
  | set c _ hl _ hshape =>
    obtain ⟨hst, hcl, hcu, hre, hpa, hli, hro⟩ := hs
    simp only [Prod.mk.injEq] at hshape
    obtain ⟨hst', hcl', hcu', hre', hpa', hro'⟩ := hshape
    exact ⟨hst'.trans hst, hcl'.trans hcl, hcu'.trans hcu, hre'.trans hre, hpa'.trans hpa, hl ▸ hli, hro'.trans hro⟩
  | _ => exact hs

theorem State.fullReset_tabled (s : State) (run : RunState) (inp : Inputs) : (s.fullReset run inp).tabled := by
  simp [State.tabled, State.fullReset, State.reset, Manifold.reset, Line.reset]

theorem exec_shaped {c : Instr} (h : exec c s = .next t) (hs : s.shaped) : t.shaped := by
  have hfactory : Settings.factory.shaped := by simp [Settings.shaped, Settings.factory]
  refine exec_keeps h (fun hact ha => ?_) id (fun _ => id) id (fun ha => ?_) (fun run inp ha => ?_) (fun wrote ha => ?_)
    (fun run wrote inp ha => ?_) hs
  · exact ⟨hact.everySettings (hact.cfg_shaped ha.2.2.2.2.2.2.1 ha.1.1) ha.1, hact.tabled ha.2⟩
  · have hload := State.withSettings_everySettings hfactory ha.1
    obtain ⟨hslots, hlines, hcradles, hbaths, hvalves, -, hsettle⟩ := ha.2
    exact ⟨hload, hslots, hlines, hcradles, hbaths, hvalves, hload.1.2.2.2.2.2.1, hsettle⟩
  · exact ⟨⟨hfactory, nofun, ha.1.2.2⟩, State.fullReset_tabled _ _ _⟩
  · refine ⟨State.interruptStore_everySettings ha.1 wrote, ?_⟩
    rw [State.interruptStore_eq]; exact ha.2
  · refine ⟨State.halt_everySettings ha.1 run wrote inp, ?_⟩
    rw [State.halt_frame]; exact ha.2

/-! ### The racks the Integrator has still to reach -/

theorem State.served.accrualDue {kind : Byte} (h : s.served t kind) (hs : s.accrualDue = []) : t.accrualDue = [] :=
  h.keeps (P := fun u => u.accrualDue = []) (fun hact ha => hact.acts.accrualDue ha) id hs

/-- A line second ends with none; no other command brings one. -/
theorem exec_accrualDue {c : Instr} (h : exec c s = .next t) (hs : s.accrualDue = []) : t.accrualDue = [] := by
  cases exec_course h with
  | stay => exact hs
  | reset => rfl
  | renew => rfl
  | halt => rw [State.halt_frame]; exact hs
  | load inp _ hu => exact (State.quiet_drive _).accrual (hu.accrualDue hs)
  | second order inp _ _ _ hdue => exact (State.quiet_drive _).accrual hdue
  | served _ hu => exact (State.quiet_drive _).accrual (hu.accrualDue hs)
  | acts hu => exact (State.quiet_drive _).accrual (hu.accrualDue hs)

/-- Settles O54. -/
theorem stepsKeepTheQueueBounds : Obligations.StepsKeepTheQueueBounds :=
  ⟨fun _ _ hs h => step_keeps h (fun _ => id) exec_queuesBounded hs,
    fun _ _ hs h => step_keeps h (fun _ => id) exec_shaped hs,
    fun _ _ hs h => step_keeps (P := fun u => u.accrualDue = []) h (fun _ => id) exec_accrualDue hs⟩

/-- Settles O56. -/
theorem stepsKeepTheMapsAndIndices : Obligations.StepsKeepTheMapsAndIndices := by
  refine fun s t h => ⟨fun hs => ?_, fun hs => ?_, fun hs => ?_⟩
  · exact step_keeps (P := State.mapsClear) h (fun _ => id)
      (fun he hu => exec_everySettings he mapClear_factory State.Act.live_clear hu) hs
  · exact step_keeps h (fun _ => id) exec_exhaustionBounded hs
  · exact step_keeps (P := fun u => u.everySettings fun c => c.line.inRange = true) h (fun _ => id)
      (fun he hu => exec_everySettings he (by decide) State.Act.line_inRange hu) hs

end

end Sys2Proof.Machine
end

section
/-! PROOFS. Each kind of setting changes by its own request alone (1.5 to 1.11, 2.5, 7.5, 11.4). -/

namespace Sys2Proof.Machine

section
variable {sc : Scope} {s t u v : State}

/-! ### What the owners do to the settings -/

theorem State.atRest_iff : s.atRest = true ↔ (s.line.state = .dormant ∨ s.line.state = .standby) ∧ s.racks = [] := by
  simp [State.atRest, State.anyRack]

@[simp] theorem State.releaseFlag_cfg (s : State) (n : Nat) (f : Flag) : (s.releaseFlag n f).cfg = s.cfg := rfl

@[simp] theorem State.assertFlag_cfg (s : State) (n : Nat) (f : Flag) : (s.assertFlag n f).cfg = s.cfg := by
  unfold State.assertFlag
  split
  · rfl
  · simp only
    split
    · rfl
    · exact State.post_cfg _ _ _ _ _ _

/-- A station retired changes its record and its closure (R9). -/
theorem State.retireStation_cfg (s : State) (n : Nat) :
    ∃ a b, (s.retireStation n).cfg = { s.cfg with stations := a, closures := b } := by
  have hleave : (if s.isBath n then s.leaveBath n else s).cfg = s.cfg := by split <;> rfl
  unfold State.retireStation
  generalize (if s.isBath n then s.leaveBath n else s) = t at hleave ⊢
  exact ⟨_, _, by rw [← hleave]; rfl⟩

/-- A line record taken changes line, stations and closures (R9). -/
theorem State.applyLine_cfg (s : State) (c : LineCfg) :
    ∃ l a b, (s.applyLine c).cfg = { s.cfg with line := l, stations := a, closures := b } := by
  have hretire (l : List Nat) (u : State) :
      ∃ a b, (l.foldl State.retireStation u).cfg = { u.cfg with stations := a, closures := b } := by
    induction l generalizing u with
    | nil => exact ⟨_, _, rfl⟩
    | cons n l ih =>
      obtain ⟨a, b, hab⟩ := ih (u.retireStation n)
      obtain ⟨_, _, hn⟩ := u.retireStation_cfg n
      exact ⟨a, b, by rw [List.foldl_cons, hab, hn]⟩
  obtain ⟨a, b, hab⟩ := hretire (allStations.filter fun n => decide (c.count < n)) s
  refine ⟨c, a, b, ?_⟩
  unfold State.applyLine State.restartWatchdog
  simp only
  rw [hab]

/-- What a station's new record does to the other blocks changes its closure alone (R11). -/
theorem State.changeRole_cfg (s : State) (n : Nat) (old : StationCfg) :
    ∃ b, (s.changeRole n old).cfg = { s.cfg with closures := b } := by
  have hkeep (new : StationCfg) : (s.keepBath n old new).cfg = s.cfg := by
    unfold State.keepBath
    split <;> simp [State.applyMasks, State.restartFilter, State.emptyFilter]
  have hpass : (s.passBath n).cfg = s.cfg := by simp [State.passBath, State.beginFalling]
  have hleave : (s.leaveBath n).cfg = s.cfg := by
    simp [State.leaveBath, State.dropCradle, State.dropDeliveries, State.clearBath]
  have henter : (s.enterBathRole n).cfg = s.cfg := by simp [State.enterBathRole, State.beginFalling]
  unfold State.changeRole State.setClosure
  simp only
  split
  · exact ⟨_, by
      simp only [apply_ite State.cfg, State.releaseFlag_cfg, State.assertFlag_cfg, hkeep, hpass, hleave, henter,
        ite_self]
      rfl⟩
  · exact ⟨s.cfg.closures, by simp only [apply_ite State.cfg, State.releaseFlag_cfg, State.assertFlag_cfg, hkeep, hpass, hleave, henter,
      ite_self]⟩

/-- The settings a request of a kind leaves of those of a part: as they are but for the live map; or changed by the one
request that changes them, the store not being busy (R8 to R12, R19, R22, R27, R29, R170). -/
inductive State.Retuned (u : State) (kind : Byte) : Settings → Prop
  | kept {c : Settings} (h : c = { u.cfg with live := c.live }) : Retuned u kind c
  | line (l a b) (hk : kind = 0x03#8) (hb : u.storeWrite = none) (hl : u.pins.lock = false) (hr : u.atRest = true) :
      Retuned u kind { u.cfg with line := l, stations := a, closures := b }
  | station (a b) (hk : kind = 0x04#8) (hb : u.storeWrite = none) (hl : u.pins.lock = false) (hr : u.atRest = true) :
      Retuned u kind { u.cfg with stations := a, closures := b }
  | closure (b) (hk : kind = 0x05#8) (hb : u.storeWrite = none) : Retuned u kind { u.cfg with closures := b }
  | curve (a) (hk : kind = 0x06#8) (hb : u.storeWrite = none) (hl : u.pins.lock = false) :
      Retuned u kind { u.cfg with curves := a }
  | recipe (a) (hk : kind = 0x07#8) (hb : u.storeWrite = none) : Retuned u kind { u.cfg with recipes := a }
  | pattern (a) (hk : kind = 0x08#8) (hb : u.storeWrite = none) : Retuned u kind { u.cfg with patterns := a }
  | route (a) (hk : kind = 0x1B#8) (hb : u.storeWrite = none) : Retuned u kind { u.cfg with routes := a }

theorem State.Retuned.of_eq {kind : Byte} {c : Settings} (h : c = u.cfg) : u.Retuned kind c := .kept (by rw [h])

theorem State.storeWrite_none (h : ¬ s.storeBusy = true) : s.storeWrite = none := by
  simpa [State.storeBusy] using h

theorem setLineOwner_retuned (p : List Byte) : s.Retuned 0x03#8 (setLineOwner p s).1.cfg := by
  unfold setLineOwner
  split
  · exact .of_eq rfl
  next hb =>
  split
  · exact .of_eq rfl
  next hl =>
  split
  · exact .of_eq rfl
  next hr =>
  split
  · split
    · obtain ⟨l, a, b, heq⟩ := s.applyLine_cfg ‹_›
      exact heq ▸ .line l a b rfl (State.storeWrite_none hb) (by simpa using hl) (by simpa using hr)
    · exact .of_eq rfl
  · exact .of_eq rfl

theorem setStationOwner_retuned (p : List Byte) : s.Retuned 0x04#8 (setStationOwner p s).1.cfg := by
  unfold setStationOwner
  simp only
  split
  · exact .of_eq rfl
  next hb =>
  split
  · exact .of_eq rfl
  next hl =>
  split
  · exact .of_eq rfl
  next hr =>
  split
  · exact .of_eq rfl
  split
  · next c _ =>
    split
    · exact .of_eq rfl
    · obtain ⟨b, heq⟩ := (s.setStationCfg (u8 p 0) c).changeRole_cfg (u8 p 0) (s.stationCfg (u8 p 0))
      have hcfg (w : State) : w.judgeDefaulted.cfg = w.cfg := by unfold State.judgeDefaulted; split <;> rfl
      rw [hcfg, heq]
      exact .station _ b rfl (State.storeWrite_none hb) (by simpa using hl) (by simpa using hr)
  · exact .of_eq rfl

theorem stationServiceOwner_retuned (p : List Byte) : s.Retuned 0x05#8 (stationServiceOwner p s).1.cfg := by
  unfold stationServiceOwner
  simp only
  split
  · exact .of_eq rfl
  next hb =>
  split
  · exact .of_eq rfl
  split
  · exact .closure _ rfl (State.storeWrite_none hb)
  · exact .of_eq rfl

theorem setCurveOwner_retuned (p : List Byte) : s.Retuned 0x06#8 (setCurveOwner p s).1.cfg := by
  unfold setCurveOwner
  simp only
  split
  · exact .of_eq rfl
  next hb =>
  split
  · exact .of_eq rfl
  next hl =>
  have hput (c : Option Curve) : s.Retuned 0x06#8 (s.putCurve (u8 p 0) c).cfg :=
    .curve _ rfl (State.storeWrite_none hb) (by simpa using hl)
  generalize (if u8 p 0 ≤ 3 then truthOfCode (u8 p 1) else none) = d
  cases d with
  | none => exact .of_eq rfl
  | some defined =>
    simp only
    split
    · exact .of_eq rfl
    split
    · split
      · exact .of_eq rfl
      · exact hput _
    · split
      · exact .of_eq rfl
      · exact hput _

theorem setRecipeOwner_retuned (p : List Byte) : s.Retuned 0x07#8 (setRecipeOwner p s).1.cfg := by
  unfold setRecipeOwner
  simp only
  split
  · exact .of_eq rfl
  next hb =>
  split
  · exact .of_eq rfl
  split
  · exact .of_eq rfl
  split
  · exact .of_eq rfl
  · exact .recipe _ rfl (State.storeWrite_none hb)

theorem setPatternOwner_retuned (p : List Byte) : s.Retuned 0x08#8 (setPatternOwner p s).1.cfg := by
  unfold setPatternOwner
  simp only
  split
  · exact .of_eq rfl
  next hb =>
  split
  · exact .of_eq rfl
  split
  · split
    · exact .pattern _ rfl (State.storeWrite_none hb)
    · exact .of_eq rfl
  · exact .of_eq rfl

theorem setRouteOwner_retuned (p : List Byte) : s.Retuned 0x1B#8 (setRouteOwner p s).1.cfg := by
  unfold setRouteOwner
  simp only
  split
  · exact .of_eq rfl
  next hb =>
  split
  · exact .of_eq rfl
  split
  · split
    · exact .route _ rfl (State.storeWrite_none hb)
    · exact .of_eq rfl
  · exact .of_eq rfl

/-- An apply changes the live map alone of the settings, and the running of the manifold not at all (R121). -/
theorem State.applyBursts_frame (s : State) :
    s.applyBursts.cfg = { s.cfg with live := s.applyBursts.cfg.live } ∧
    s.applyBursts.manifold.running = s.manifold.running := by
  unfold State.applyBursts
  simp only
  split
  · simp [State.postLine]
  · split <;> simp [State.postLine]

theorem setBurstsOwner_frame (p : List Byte) :
    (setBurstsOwner p s).1.cfg = { s.cfg with live := (setBurstsOwner p s).1.cfg.live } ∧
    ((setBurstsOwner p s).1.cfg.live = s.cfg.live ∨ (setBurstsOwner p s).1.manifold.running = false) := by
  unfold setBurstsOwner
  split
  · exact ⟨rfl, .inl rfl⟩
  split
  · next es apply _ _ =>
    split
    · exact ⟨rfl, .inl rfl⟩
    · simp only
      generalize hw : ({ s with manifold := { s.manifold with staged := putBursts s.manifold.staged es } } : State) = w
      have hcfg : w.cfg = s.cfg := by rw [← hw]
      cases apply with
      | false => simp [hcfg]
      | true =>
        simp only [State.requestApply, if_true]
        split
        · exact ⟨by rw [← hw], .inl (by rw [← hw])⟩
        · next hrun =>
          obtain ⟨hframe, hrunning⟩ := w.applyBursts_frame
          exact ⟨by simp only; rw [hframe, hcfg], .inr (by simp only; rw [hrunning]; simpa using hrun)⟩
  · exact ⟨rfl, .inl rfl⟩

/-- Acts outside the settings' own leave all of them but the live map. -/
theorem State.Acts.cfg_kept (h : s.Acts sc t) (hsc : sc.settings = false) :
    t.cfg = { s.cfg with live := t.cfg.live } := by
  refine h.keeps (P := fun u => u.cfg = { s.cfg with live := u.cfg.live }) (fun {a b} hact ha => ?_) rfl
  cases hact with
  | quiet hq => rw [hq.cfg]; exact ha
  | relink _ hr => rw [hr.eq]; exact ha
  | book => rw [State.bookPlans_eq]; exact ha
  | start => rw [State.markExecuting_eq]; exact ha
  | live => simp only; rw [ha]
  | set _ h => rw [hsc] at h; cases h
  | tune _ h => rw [hsc] at h; cases h
  | _ => exact ha

/-- The owner of a request leaves the settings as its kind allows. -/
theorem owner_retuned (kind : Byte) (p : List Byte) : s.Retuned kind ((catalogue kind).2 p s).1.cfg := by
  by_cases hset : (scopeOf kind).settings = false
  · rcases owner_acts s kind p with h | ⟨-, h⟩
    · exact .kept (h.cfg_kept hset)
    · exact .kept (h.cfg_kept hset)
  · have hkind : kind = 0x03#8 ∨ kind = 0x04#8 ∨ kind = 0x05#8 ∨ kind = 0x06#8 ∨ kind = 0x07#8 ∨ kind = 0x08#8 ∨
        kind = 0x0C#8 ∨ kind = 0x1B#8 ∨ kind = 0x09#8 := by
      simp only [← BitVec.toNat_inj]
      unfold scopeOf at hset
      split at hset <;> simp_all
    rcases hkind with rfl | rfl | rfl | rfl | rfl | rfl | rfl | rfl | rfl
    · exact setLineOwner_retuned p
    · exact setStationOwner_retuned p
    · exact stationServiceOwner_retuned p
    · exact setCurveOwner_retuned p
    · exact setRecipeOwner_retuned p
    · exact setPatternOwner_retuned p
    · refine .of_eq ?_
      change (storeOwner p s).1.cfg = s.cfg
      unfold storeOwner
      split
      · rfl
      · split <;> rfl
    · exact setRouteOwner_retuned p
    · exact .kept (setBurstsOwner_frame p).1

/-! ### The live map -/

/-- The live map is `m`, or the manifold is stopped and the line state lets it be (R118, R121). -/
def State.liveStands (m : List Burst) (s : State) : Prop :=
  s.cfg.live = m ∨ (s.manifold.running = false ∧ s.line.state.runsManifold = false)

/-- Acts outside modes and applies at the wrap change the live map only where the manifold is stopped. -/
theorem State.Acts.liveStands {m : List Burst} (h : s.Acts sc t) (hm : sc.modes = false) (ha : sc.applies = false)
    (hs : s.liveStands m) : t.liveStands m := by
  refine h.keeps (P := State.liveStands m) (fun {a b} hact hab => ?_) hs
  cases hact with
  | quiet hq => unfold State.liveStands; rw [hq.cfg, hq.running, hq.lineState]; exact hab
  | relink _ hr => rw [hr.eq]; exact hab
  | book => rw [State.bookPlans_eq]; exact hab
  | start => rw [State.markExecuting_eq]; exact hab
  | enter st hst =>
    rcases hst with hst | ⟨hd, hst⟩
    · rw [hm] at hst; cases hst
    · refine hab.imp_right fun ⟨_, hruns⟩ => ?_
      exfalso
      cases hst' : a.line.state <;> simp_all [LineState.runsManifold]
  | spin hst => exact hab.imp_right fun ⟨_, hruns⟩ => absurd hst (by simp [hruns])
  | rest => exact hab.imp_right fun ⟨_, hruns⟩ => ⟨rfl, hruns⟩
  | live _ hlive =>
    rcases hlive with h | h
    · rw [ha] at h; cases h
    · exact .inr h
  | set _ _ hl => exact hab.imp_left fun h => hl.trans h
  | _ => exact hab

theorem State.enterLine_liveStands (st : LineState) (cause : LineCause) : (s.enterLine st cause).liveStands s.cfg.live :=
  (s.acts_enterLine_rest (sc := {}) st cause).liveStands rfl rfl (.inl rfl)

/-- A passage of MODE changes the live map only where it stops the manifold (R118, R120, R145). -/
theorem State.applyMode_liveStands (m : Mode) : (s.applyMode m).liveStands s.cfg.live := by
  unfold State.applyMode
  split
  · exact s.enterLine_liveStands _ _
  · split
    · exact .inl rfl
    · exact (s.setDrainTarget none).enterLine_liveStands _ _
    · have hnotice (w : State) : w.Acts { plans := true } (if w.line.carriageFault then w.faultNotice else w) :=
        .ite (w.acts_faultNotice rfl) (.refl w)
      exact (hnotice _).liveStands rfl rfl (s.enterLine_liveStands _ _)
  · unfold State.beginDrain
    split
    · exact (s.setDrainTarget _).enterLine_liveStands _ _
    · exact (s.setDrainTarget _).enterLine_liveStands _ _
  · have hdrop : s.dropFaultCleared.cfg = s.cfg := by unfold State.dropFaultCleared; split <;> rfl
    exact hdrop ▸ s.dropFaultCleared.enterLine_liveStands _ _

/-- A request changes the live map only where it leaves the manifold stopped. -/
theorem owner_live (kind : Byte) (p : List Byte) :
    ((catalogue kind).2 p s).1.cfg.live = s.cfg.live ∨ ((catalogue kind).2 p s).1.manifold.running = false := by
  by_cases hkind : (scopeOf kind).modes = false ∧ (scopeOf kind).applies = false
  · have hacts : ((catalogue kind).2 p s).1.liveStands s.cfg.live := by
      rcases owner_acts s kind p with h | ⟨-, h⟩
      · exact h.liveStands hkind.1 hkind.2 (.inl rfl)
      · exact h.liveStands hkind.1 hkind.2 (.inl rfl)
    exact hacts.imp_right And.left
  · have hkind' : kind = 0x09#8 ∨ kind = 0x0E#8 := by
      simp only [← BitVec.toNat_inj]
      unfold scopeOf at hkind
      split at hkind <;> simp_all
    rcases hkind' with rfl | rfl
    · exact (setBurstsOwner_frame p).2
    · change (modeOwner p s).1.cfg.live = s.cfg.live ∨ (modeOwner p s).1.manifold.running = false
      unfold modeOwner
      split
      · exact .inl rfl
      split
      · exact .inl rfl
      split
      · exact .inl rfl
      split
      · exact .inl rfl
      · exact (s.applyMode_liveStands _).imp_right And.left

/-- A tick short of the wrap leaves the live map (R118). -/
theorem State.tick_live (h : s.manifold.tick < 199) : s.tick.cfg.live = s.cfg.live := by
  have hgas (w : State) : w.readGas.cfg = w.cfg := by
    unfold State.readGas
    split
    · rfl
    · simp only
      split
      · rfl
      · exact State.post_cfg _ _ _ _ _ _
  simp only [State.tick, h, if_true]
  rw [hgas]

/-! ### Commands -/

/-- A served request leaves the settings as its kind allows, as the part stood. -/
theorem State.served.retuned {kind : Byte} (h : s.served t kind) : s.Retuned kind t.cfg := by
  obtain ⟨p, u, hu, -, ht, -⟩ := h
  have hcfg : t.cfg = ((catalogue kind).2 p u).1.cfg := by rw [ht.eq]
  have hr := owner_retuned (s := u) kind p
  rw [← hcfg, hu.eq] at hr
  clear hcfg ht
  generalize t.cfg = c at hr ⊢
  cases hr with
  | kept h => exact .kept h
  | line l a b hk hb hl hr => exact .line l a b hk hb hl hr
  | station a b hk hb hl hr => exact .station a b hk hb hl hr
  | closure b hk hb => exact .closure b hk hb
  | curve a hk hb hl => exact .curve a hk hb hl
  | recipe a hk hb => exact .recipe a hk hb
  | pattern a hk hb => exact .pattern a hk hb
  | route a hk hb => exact .route a hk hb

theorem State.served.live {kind : Byte} (h : s.served t kind) :
    t.cfg.live = s.cfg.live ∨ t.manifold.running = false := by
  obtain ⟨p, u, hu, -, ht, -⟩ := h
  have hlive := owner_live (s := u) kind p
  have hcfg : u.cfg = s.cfg := by rw [hu.eq]
  rw [ht.eq]
  exact hcfg ▸ hlive

/-- The settings a command leaves, but for a full reset and the start-up load: kept but for the live map, or those of a
request that it brings. -/
theorem exec_retuned {c : Instr} (h : exec c s = .next t) (hreset : fullResets c = false)
    (hload : ∀ inp, c ≠ .startupLoadDone inp) :
    t.cfg = { s.cfg with live := t.cfg.live } ∨ ∃ kind, (s.brings c kind ∧ t.pins = Laws.Pins.pinsOf c) ∧
      (s.latch (Laws.Pins.pinsOf c)).Retuned kind t.cfg := by
  have hscope : (plantScope c).settings = false := by unfold plantScope; split <;> rfl
  cases exec_course h with
  | stay => exact .inl rfl
  | reset _ _ _ hr => rw [hreset] at hr; cases hr
  | renew _ _ hr => rw [hreset] at hr; cases hr
  | halt => left; rw [State.halt_frame]
  | load inp hc => exact absurd hc (hload inp)
  | second _ _ _ _ hu => left; rw [State.drive_cfg]; exact hu.cfg_kept hscope
  | @served kind u hb hu => exact .inr ⟨kind, ⟨hb, by rw [State.drive_pins]; exact hu.pins⟩, by rw [State.drive_cfg]; exact hu.retuned⟩
  | acts hu => left; rw [State.drive_cfg]; exact hu.cfg_kept hscope

/-- A tick that does not wrap leaves the live map. -/
theorem exec_tick_live {c : Instr} {inp : Inputs} {f : State → State} (hc : exec c s = event inp f s)
    (hf : ∀ u : State, f u = u ∨ (f u = u.tick ∧ u.manifold.running = true))
    (h : exec c s = .next t) (hne : t.cfg.live ≠ s.cfg.live) : s.manifold.running = true ∧ 199 ≤ s.manifold.tick := by
  rw [hc] at h
  rcases event_cases h with rfl | rfl
  · exact absurd rfl hne
  rcases hf (s.latch inp) with heq | ⟨heq, hrun⟩
  · rw [heq, State.drive_cfg] at hne; exact absurd rfl hne
  · refine ⟨hrun, Nat.le_of_not_lt fun hlt => hne ?_⟩
    rw [heq, State.drive_cfg]
    exact (s.latch inp).tick_live hlt

/-- The live map changes at a wrap or where the manifold is stopped (R118, R121). -/
theorem exec_live {c : Instr} (h : exec c s = .next t) (hreset : fullResets c = false)
    (hload : ∀ inp, c ≠ .startupLoadDone inp) (hne : t.cfg.live ≠ s.cfg.live) :
    t.manifold.running = false ∨
      ∃ inp, (c = .manifoldTick inp ∨ c = .frameWrap inp) ∧ s.manifold.running = true ∧ 199 ≤ s.manifold.tick := by
  by_cases htick : ∃ inp, c = .manifoldTick inp ∨ c = .frameWrap inp
  · right
    obtain ⟨inp, hc⟩ := htick
    refine ⟨inp, hc, ?_⟩
    rcases hc with rfl | rfl
    · refine exec_tick_live (f := State.tickDue) rfl (fun u => ?_) h hne
      unfold State.tickDue
      split
      · exact .inr ⟨rfl, ‹_›⟩
      · exact .inl rfl
    · refine exec_tick_live (f := State.wrapDue) rfl (fun u => ?_) h hne
      unfold State.wrapDue
      split
      · next hw => exact .inr ⟨rfl, hw.1⟩
      · exact .inl rfl
  · left
    have hscope : (plantScope c).modes = false ∧ (plantScope c).applies = false := by
      unfold plantScope
      split <;> simp_all
    have hdrive {u : State} (hu : u.liveStands s.cfg.live) (hne : u.drive.cfg.live ≠ s.cfg.live) :
        u.drive.manifold.running = false := by
      rw [State.drive_cfg] at hne
      rw [u.quiet_drive.running]
      exact (hu.resolve_left hne).1
    cases exec_course h with
    | stay => exact absurd rfl hne
    | reset _ _ _ hr => rw [hreset] at hr; cases hr
    | renew _ _ hr => rw [hreset] at hr; cases hr
    | halt => rw [State.halt_frame] at hne; exact absurd rfl hne
    | load inp hc => exact absurd hc (hload inp)
    | second _ _ _ _ hu => exact hdrive (hu.liveStands hscope.1 hscope.2 (.inl rfl)) hne
    | @served kind u hb hu =>
      rw [State.drive_cfg] at hne
      rw [u.quiet_drive.running]
      exact hu.live.resolve_left hne
    | acts hu => exact hdrive (hu.liveStands hscope.1 hscope.2 (.inl rfl)) hne

section
variable {kind : Byte} {c : Settings}

theorem State.Retuned.of_line_ne (h : u.Retuned kind c) (hne : c.line ≠ u.cfg.line) :
    kind = 0x03#8 ∧ u.pins.lock = false ∧ u.atRest = true := by
  cases h with
  | kept h => exact absurd (by rw [h]) hne
  | line _ _ _ hk _ hl hr => exact ⟨hk, hl, hr⟩
  | _ => exact absurd rfl hne

theorem State.Retuned.of_stations_ne (h : u.Retuned kind c) (hne : c.stations ≠ u.cfg.stations) :
    (kind = 0x03#8 ∨ kind = 0x04#8) ∧ u.pins.lock = false ∧ u.atRest = true := by
  cases h with
  | kept h => exact absurd (by rw [h]) hne
  | line _ _ _ hk _ hl hr => exact ⟨.inl hk, hl, hr⟩
  | station _ _ hk _ hl hr => exact ⟨.inr hk, hl, hr⟩
  | _ => exact absurd rfl hne

theorem State.Retuned.of_curves_ne (h : u.Retuned kind c) (hne : c.curves ≠ u.cfg.curves) :
    kind = 0x06#8 ∧ u.pins.lock = false := by
  cases h with
  | kept h => exact absurd (by rw [h]) hne
  | curve _ hk _ hl => exact ⟨hk, hl⟩
  | _ => exact absurd rfl hne

theorem State.Retuned.of_recipes_ne (h : u.Retuned kind c) (hne : c.recipes ≠ u.cfg.recipes) : kind = 0x07#8 := by
  cases h with
  | kept h => exact absurd (by rw [h]) hne
  | recipe _ hk => exact hk
  | _ => exact absurd rfl hne

theorem State.Retuned.of_patterns_ne (h : u.Retuned kind c) (hne : c.patterns ≠ u.cfg.patterns) : kind = 0x08#8 := by
  cases h with
  | kept h => exact absurd (by rw [h]) hne
  | pattern _ hk => exact hk
  | _ => exact absurd rfl hne

theorem State.Retuned.of_routes_ne (h : u.Retuned kind c) (hne : c.routes ≠ u.cfg.routes) : kind = 0x1B#8 := by
  cases h with
  | kept h => exact absurd (by rw [h]) hne
  | route _ hk => exact hk
  | _ => exact absurd rfl hne

theorem State.Retuned.of_closures_ne (h : u.Retuned kind c) (hne : c.closures ≠ u.cfg.closures) :
    kind = 0x03#8 ∨ kind = 0x04#8 ∨ kind = 0x05#8 := by
  cases h with
  | kept h => exact absurd (by rw [h]) hne
  | line _ _ _ hk => exact .inl hk
  | station _ _ hk => exact .inr (.inl hk)
  | closure _ hk => exact .inr (.inr hk)
  | _ => exact absurd rfl hne

theorem State.Retuned.of_busy (h : u.Retuned kind c) (hbusy : u.storeWrite ≠ none) :
    c = { u.cfg with live := c.live } := by
  cases h with
  | kept h => exact h
  | _ => exact absurd ‹u.storeWrite = none› hbusy

end

/-- A request of the catalogue comes about by its command, or in the middle of a frame. -/
theorem State.brings.of_known {c : Instr} {kind : Byte} (h : s.brings c kind) (hk : isKnownKind kind = true) :
    (∃ x, requestOf c = some x ∧ x.1 = kind) ∨ s.midFrame c := by
  rcases h with h | h | h
  · exact .inl h
  · exact .inr h
  · rw [hk] at h; cases h

/-- The command of a request is the one of its kind. -/
theorem request_of_kind {c : Instr} {kind : Byte} (h : ∃ x, requestOf c = some x ∧ x.1 = kind) :
    (kind = 0x03#8 → ∃ f inp, c = .setLine f inp) ∧ (kind = 0x04#8 → ∃ f inp, c = .setStation f inp) ∧
    (kind = 0x05#8 → ∃ f inp, c = .stationService f inp) ∧ (kind = 0x06#8 → ∃ f inp, c = .setCurve f inp) ∧
    (kind = 0x07#8 → ∃ f inp, c = .setRecipe f inp) ∧ (kind = 0x08#8 → ∃ f inp, c = .setPattern f inp) ∧
    (kind = 0x1B#8 → ∃ f inp, c = .setRoute f inp) ∧ (kind = 0x0F#8 → ∃ f inp, c = .admitRack f inp) := by
  obtain ⟨x, hx, rfl⟩ := h
  cases c <;> cases hx <;> simp

/-- Settles O59: a command that changes settings brings the request of their kind. -/
theorem settingsChangeByTheirRequestsAlone : Obligations.SettingsChangeByTheirRequestsAlone := by
  intro c s t h hreset hload
  have hlive := exec_live h hreset hload
  rcases exec_retuned h hreset hload with heq | ⟨kind, ⟨hb, hpins⟩, hr⟩
  · refine ⟨?_, ?_, ?_, ?_, ?_, ?_, ?_, hlive, fun _ => heq⟩ <;>
      exact fun hne => absurd (by rw [heq]) hne
  · have brought (hk : isKnownKind kind = true) := (hb.of_known hk).imp_left request_of_kind
    have hrest (h : (s.latch (Laws.Pins.pinsOf c)).atRest = true) := (State.atRest_iff (s := s)).mp h
    refine ⟨fun hne => ?_, fun hne => ?_, fun hne => ?_, fun hne => ?_, fun hne => ?_, fun hne => ?_, fun hne => ?_, hlive,
      fun hbusy => hr.of_busy hbusy⟩
    · obtain ⟨rfl, hl, hat⟩ := hr.of_line_ne hne
      obtain ⟨hst, hracks⟩ := hrest hat
      exact ⟨(brought rfl).imp_left fun h => h.1 rfl, hpins ▸ hl, hracks, hst⟩
    · obtain ⟨hk, hl, hat⟩ := hr.of_stations_ne hne
      obtain ⟨hst, hracks⟩ := hrest hat
      refine ⟨?_, hpins ▸ hl, hracks, hst⟩
      rcases hk with rfl | rfl
      · refine (brought rfl).imp_left fun ⟨hline, _⟩ => ?_
        obtain ⟨f, inp, hc⟩ := hline rfl
        exact ⟨f, inp, .inl hc⟩
      · refine (brought rfl).imp_left fun ⟨_, hstation, _⟩ => ?_
        obtain ⟨f, inp, hc⟩ := hstation rfl
        exact ⟨f, inp, .inr hc⟩
    · obtain ⟨rfl, hl⟩ := hr.of_curves_ne hne
      exact ⟨(brought rfl).imp_left fun ⟨_, _, _, hcurve, _⟩ => hcurve rfl, hpins ▸ hl⟩
    · obtain rfl := hr.of_recipes_ne hne
      exact (brought rfl).imp_left fun ⟨_, _, _, _, hrecipe, _⟩ => hrecipe rfl
    · obtain rfl := hr.of_patterns_ne hne
      exact (brought rfl).imp_left fun ⟨_, _, _, _, _, hpattern, _⟩ => hpattern rfl
    · obtain rfl := hr.of_routes_ne hne
      exact (brought rfl).imp_left fun ⟨_, _, _, _, _, _, hroute, _⟩ => hroute rfl
    · rcases hr.of_closures_ne hne with rfl | rfl | rfl
      · refine (brought rfl).imp_left fun ⟨hline, _⟩ => ?_
        obtain ⟨f, inp, hc⟩ := hline rfl
        exact ⟨f, inp, .inr (.inr hc)⟩
      · refine (brought rfl).imp_left fun ⟨_, hstation, _⟩ => ?_
        obtain ⟨f, inp, hc⟩ := hstation rfl
        exact ⟨f, inp, .inr (.inl hc)⟩
      · refine (brought rfl).imp_left fun ⟨_, _, hservice, _⟩ => ?_
        obtain ⟨f, inp, hc⟩ := hservice rfl
        exact ⟨f, inp, .inl hc⟩

end

end Sys2Proof.Machine
end

section
/-! PROOFS. Lists of schedule entries: order, fit and spans (5.1, 5.2). A schedule keeps its spans apart by a gap `d` between
stations: the travel time, or none. -/

namespace Sys2Proof.Machine

/-! ### Order -/

theorem insertEntry_perm (m : Entry) (l : List Entry) : (insertEntry m l).Perm (m :: l) := by
  induction l with
  | nil => exact .refl _
  | cons e es ih =>
    unfold insertEntry
    split
    · exact .refl _
    · exact (ih.cons e).trans (.swap m e es)

/-- Entries put in their places one after the other: nothing else comes or goes. -/
theorem insertEntries_perm (ms l : List Entry) : (ms.foldl (fun l m => insertEntry m l) l).Perm (ms ++ l) := by
  induction ms generalizing l with
  | nil => exact .refl _
  | cons m ms ih =>
    rw [List.foldl_cons]
    refine (ih _).trans (((insertEntry_perm m l).append_left ms).trans ?_)
    exact List.perm_middle

/-- The order of the schedule: by span start (R76). -/
def Entry.inOrder (a b : Entry) : Prop := a.spanStart ≤ b.spanStart

theorem insertEntry_inOrder {m : Entry} {l : List Entry} (h : l.Pairwise Entry.inOrder) :
    (insertEntry m l).Pairwise Entry.inOrder := by
  induction l with
  | nil => exact List.pairwise_singleton _ _
  | cons e es ih =>
    obtain ⟨he, hes⟩ := List.pairwise_cons.mp h
    unfold insertEntry
    split
    · next hlt =>
      refine List.pairwise_cons.mpr ⟨fun x hx => ?_, h⟩
      rcases List.mem_cons.mp hx with rfl | hx
      · exact hlt.le
      · exact hlt.le.trans (he x hx)
    · next hge =>
      refine List.pairwise_cons.mpr ⟨fun x hx => ?_, ih hes⟩
      rcases mem_insertEntry.mp hx with rfl | hx
      · exact Nat.le_of_not_lt hge
      · exact he x hx

theorem insertEntries_inOrder (ms : List Entry) {l : List Entry} (h : l.Pairwise Entry.inOrder) :
    (ms.foldl (fun l m => insertEntry m l) l).Pairwise Entry.inOrder := by
  induction ms generalizing l with
  | nil => exact h
  | cons m ms ih => exact ih (insertEntry_inOrder h)

/-- Only the first entry may be EXECUTING (R77). -/
def onlyFirstExecutes (l : List Entry) : Prop := ∀ e ∈ l.tail, e.executing = false

theorem onlyFirstExecutes_of_sublist {l' l : List Entry} (hs : l'.Sublist l) (h : onlyFirstExecutes l) :
    onlyFirstExecutes l' := fun e he => h e (hs.tail.subset he)

/-- A BOOKED entry takes its place behind an EXECUTING one that does not begin after it. -/
theorem insertEntry_onlyFirstExecutes {m : Entry} {l : List Entry} (h : onlyFirstExecutes l) (hm : m.executing = false)
    (hl : ∀ x ∈ l, x.executing = true → x.spanStart ≤ m.spanStart) : onlyFirstExecutes (insertEntry m l) := by
  cases l with
  | nil => exact fun e he => absurd he List.not_mem_nil
  | cons x xs =>
    unfold insertEntry
    split
    · next hlt =>
      intro e he
      rcases List.mem_cons.mp he with rfl | he
      · by_contra hx
        have := hl e List.mem_cons_self (by simpa using hx)
        omega
      · exact h e he
    · intro e he
      rcases mem_insertEntry.mp he with rfl | he
      · exact hm
      · exact h e he

theorem insertEntries_onlyFirstExecutes {ms l : List Entry} (h : onlyFirstExecutes l)
    (hms : ∀ m ∈ ms, m.executing = false)
    (hl : ∀ m ∈ ms, ∀ x ∈ l, x.executing = true → x.spanStart ≤ m.spanStart) :
    onlyFirstExecutes (ms.foldl (fun l m => insertEntry m l) l) := by
  induction ms generalizing l with
  | nil => exact h
  | cons m ms ih =>
    rw [List.foldl_cons]
    refine ih (insertEntry_onlyFirstExecutes h (hms m List.mem_cons_self) (hl m List.mem_cons_self))
      (fun m' hm' => hms m' (List.mem_cons_of_mem _ hm')) fun m' hm' x hx hex => ?_
    rcases mem_insertEntry.mp hx with rfl | hx
    · rw [hms x List.mem_cons_self] at hex; cases hex
    · exact hl m' (List.mem_cons_of_mem _ hm') x hx hex

/-! ### Spans -/

/-- The gap between two stations obeys the triangle inequality. -/
def Gap (d : Nat → Nat → Nat) : Prop := ∀ x y z, d x z ≤ d x y + d y z

theorem gap_zero : Gap fun _ _ => 0 := fun _ _ _ => Nat.zero_le _

theorem gap_travelTime (tp : Nat) : Gap (travelTime tp) := by
  intro x y z
  have hp : pitches x z ≤ pitches x y + pitches y z := by unfold pitches; omega
  have hm := Nat.mul_le_mul_right tp hp
  rw [Nat.add_mul] at hm
  unfold travelTime ceilDiv
  omega

/-- An entry as R75 books it: not below a second long, its span not empty but at the largest line second, and long enough
for the gap between its stations. -/
structure Entry.Solid (d : Nat → Nat → Nat) (e : Entry) : Prop where
  duration : 1 ≤ e.duration
  bound : e.spanEnd ≤ Config.maxSecond
  span : e.spanStart < e.spanEnd ∨ (e.spanStart = Config.maxSecond ∧ e.spanEnd = Config.maxSecond)
  travel : d e.src e.dst ≤ e.duration
  reach : addSec e.spanStart (d e.src e.dst) ≤ e.spanEnd

/-- The span of an entry ends, by the gap to the other's source, before the other's begins (R76). -/
def Entry.before (d : Nat → Nat → Nat) (a b : Entry) : Prop := addSec a.spanEnd (d a.dst b.src) ≤ b.spanStart

/-- One of two entries is before the other. -/
def Entry.apart (d : Nat → Nat → Nat) (a b : Entry) : Prop := a.before d b ∨ b.before d a

section
variable {d : Nat → Nat → Nat} {a b c m x : Entry} {l ms : List Entry}

/-- Two different elements of a list stand one way round or the other. -/
theorem pairwise_either {α : Type} {R : α → α → Prop} {l : List α} (h : l.Pairwise R) {a b : α} (ha : a ∈ l) (hb : b ∈ l)
    (hne : a ≠ b) : R a b ∨ R b a := by
  induction h with
  | nil => cases ha
  | cons hx _ ih =>
    rcases List.mem_cons.mp ha with rfl | ha'
    · exact .inl (hx b ((List.mem_cons.mp hb).resolve_left hne.symm))
    · rcases List.mem_cons.mp hb with rfl | hb'
      · exact .inr (hx a ha')
      · exact ih ha' hb'

theorem Entry.apart.symm (h : a.apart d b) : b.apart d a := Or.symm h

theorem Entry.before.trans (hd : Gap d) (h : a.before d b) (hb : b.Solid d) (h' : b.before d c) : a.before d c := by
  have hab := hd a.dst b.src c.src
  have hbc := hd b.src b.dst c.src
  have hreach := hb.reach
  unfold Entry.before at *
  simp only [addSec, Config.maxSecond] at *
  omega

/-- Whatever begins at the largest line second, everything is before it. -/
theorem Entry.before_of_max (h : Config.maxSecond ≤ b.spanStart) : a.before d b := (min_le_right _ _).trans h

theorem Entry.before.spanEnd_le (h : a.before d b) (ha : a.Solid d) : a.spanEnd ≤ b.spanStart := by
  have := ha.bound
  simp only [Entry.before, addSec] at h
  omega

/-- An entry before one that does not begin after it leaves both at the largest line second. -/
theorem Entry.before.max_of_le (h : a.before d b) (ha : a.Solid d) (hle : b.spanStart ≤ a.spanStart) :
    b.spanStart = Config.maxSecond := by
  have := h.spanEnd_le ha
  rcases ha.span with hlt | ⟨hs, he⟩ <;> omega

/-- Entries in order that lie apart lie one before the other. -/
theorem pairwise_before (hs : l.Pairwise Entry.inOrder) (ha : l.Pairwise (Entry.apart d)) (hl : ∀ e ∈ l, e.Solid d) :
    l.Pairwise (Entry.before d) := by
  refine (hs.and ha).imp_of_mem fun {a b} _ hb hab => ?_
  obtain ⟨hle, h | h⟩ := hab
  · exact h
  · exact Entry.before_of_max ((h.max_of_le (hl b hb) hle).ge.trans hle)

theorem inOrder_of_before (h : l.Pairwise (Entry.before d)) (hl : ∀ e ∈ l, e.Solid d) : l.Pairwise Entry.inOrder := by
  refine h.imp_of_mem fun {a b} ha _ hab => ?_
  have hend := hab.spanEnd_le (hl a ha)
  unfold Entry.inOrder
  rcases (hl a ha).span with hlt | ⟨hs, he⟩ <;> omega

/-! ### Fit (R76) -/

/-- A choice made along a list that never falls behind either candidate is of the list and behind none of it. -/
theorem foldl_choice {α : Type} {f : α → α → α} {r : α → α → Prop} (hrefl : ∀ a, r a a) (htrans : ∀ {a b c}, r a b → r b c → r a c)
    (hf : ∀ a b, (f a b = a ∨ f a b = b) ∧ r a (f a b) ∧ r b (f a b)) (e : α) (es : List α) :
    es.foldl f e ∈ e :: es ∧ ∀ x ∈ e :: es, r x (es.foldl f e) := by
  induction es generalizing e with
  | nil => exact ⟨List.mem_cons_self, fun x hx => List.mem_singleton.mp hx ▸ hrefl x⟩
  | cons g es ih =>
    obtain ⟨hmem, hmax⟩ := ih (f e g)
    obtain ⟨hpick, he, hg⟩ := hf e g
    have hbest := hmax _ List.mem_cons_self
    rw [List.foldl_cons]
    refine ⟨?_, fun x hx => ?_⟩
    · rcases List.mem_cons.mp hmem with h | h
      · rw [h]
        rcases hpick with h | h <;> simp [h]
      · exact List.mem_cons_of_mem _ (List.mem_cons_of_mem _ h)
    · rcases List.mem_cons.mp hx with rfl | hx
      · exact htrans he hbest
      · rcases List.mem_cons.mp hx with rfl | hx
        · exact htrans hg hbest
        · exact hmax x (List.mem_cons_of_mem _ hx)

theorem latestEntry_spec {p : Entry} (h : latestEntry l = some p) : p ∈ l ∧ ∀ x ∈ l, x.spanStart ≤ p.spanStart := by
  cases l with
  | nil => cases h
  | cons e es =>
    cases h
    refine foldl_choice (r := fun a b => a.spanStart ≤ b.spanStart) (fun _ => le_rfl) le_trans (fun a b => ?_) e es
    split
    · exact ⟨.inr rfl, ‹_›, le_rfl⟩
    · exact ⟨.inl rfl, le_rfl, by omega⟩

theorem earliestEntry_spec {p : Entry} (h : earliestEntry l = some p) : p ∈ l ∧ ∀ x ∈ l, p.spanStart ≤ x.spanStart := by
  cases l with
  | nil => cases h
  | cons e es =>
    cases h
    refine foldl_choice (r := fun a b => b.spanStart ≤ a.spanStart) (fun _ => le_rfl) (fun h h' => le_trans h' h)
      (fun a b => ?_) e es
    split
    · exact ⟨.inr rfl, by omega, le_rfl⟩
    · exact ⟨.inl rfl, le_rfl, by omega⟩

/-- The entries the fit rule keeps apart have their gap from the travel time. -/
def GapIn (d : Nat → Nat → Nat) (tp : Nat) : Prop := ∀ x y, d x y ≤ travelTime tp x y

variable {tp now car : Nat}

theorem before_of_travel (hd : GapIn d tp) (h : addSec a.spanEnd (travelTime tp a.dst b.src) ≤ b.spanStart) :
    a.before d b := by
  have := hd a.dst b.src
  simp only [Entry.before, addSec] at *
  omega

section
variable (hf : fits tp now car l m = true) (hd : GapIn d tp) (hl : ∀ e ∈ l, e.Solid d)
include hf hd hl

/-- The predecessor of an entry that fits is before it. -/
theorem fits_predecessor {p : Entry} (hp : predecessor l m = some p) : p ∈ l ∧ p.before d m ∧
    (Config.maxSecond ≤ m.spanStart ∨ (p.spanStart ≤ m.spanStart ∧ ∀ x ∈ l, x.spanStart ≤ m.spanStart → x.spanStart ≤ p.spanStart)) := by
  have hbefore : p.before d m := by
    unfold fits at hf
    rw [hp] at hf
    simp only [Bool.and_eq_true, decide_eq_true_eq] at hf
    exact before_of_travel hd hf.1
  unfold predecessor at hp
  split at hp
  · next e he =>
    cases hp
    have hmem := List.mem_of_find?_eq_some he
    have hprop := List.find?_some he
    simp only [Bool.and_eq_true, decide_eq_true_eq] at hprop
    exact ⟨hmem, hbefore, .inl (hbefore.max_of_le (hl _ hmem) hprop.2).ge⟩
  · obtain ⟨hmem, hmax⟩ := latestEntry_spec hp
    simp only [List.mem_filter, decide_eq_true_eq] at hmem hmax
    exact ⟨hmem.1, hbefore, .inr ⟨hmem.2, fun x hx hle => hmax x ⟨hx, hle⟩⟩⟩

/-- Whatever an entry that fits does not begin before, an entry at least as late is before it. -/
theorem fits_of_le (hx : x ∈ l) (hle : x.spanStart ≤ m.spanStart) : Config.maxSecond ≤ m.spanStart ∨
    ∃ p ∈ l, p.before d m ∧ x.spanStart ≤ p.spanStart ∧ p.spanStart ≤ m.spanStart := by
  cases hp : predecessor l m with
  | some p =>
    obtain ⟨hmem, hbefore, hmax | ⟨hpm, hall⟩⟩ := fits_predecessor hf hd hl hp
    · exact .inl hmax
    · exact .inr ⟨p, hmem, hbefore, hall x hx hle, hpm⟩
  | none =>
    exfalso
    unfold predecessor at hp
    split at hp
    · cases hp
    · have hin : x ∈ l.filter fun e => decide (e.spanStart ≤ m.spanStart) := by simp [hx, hle]
      cases hcase : l.filter fun e => decide (e.spanStart ≤ m.spanStart) with
      | nil => rw [hcase] at hin; cases hin
      | cons e es => rw [hcase] at hp; cases hp

omit hl in
/-- Whatever begins after an entry that fits, the entry is before one at least as early. -/
theorem fits_of_lt (hx : x ∈ l) (hlt : m.spanStart < x.spanStart) :
    ∃ q ∈ l, m.before d q ∧ m.spanStart < q.spanStart ∧ q.spanStart ≤ x.spanStart := by
  have hin : x ∈ l.filter fun e => decide (m.spanStart < e.spanStart) := by simp [hx, hlt]
  cases hq : successor l m with
  | none =>
    unfold successor at hq
    cases hcase : l.filter fun e => decide (m.spanStart < e.spanStart) with
    | nil => rw [hcase] at hin; cases hin
    | cons e es => rw [hcase] at hq; cases hq
  | some q =>
    obtain ⟨hmem, hmin⟩ := earliestEntry_spec hq
    unfold fits at hf
    rw [hq] at hf
    simp only [Bool.and_eq_true, decide_eq_true_eq] at hf
    simp only [List.mem_filter, decide_eq_true_eq] at hmem hmin
    exact ⟨q, hmem.1, before_of_travel hd hf.2, hmem.2, hmin x ⟨hx, hlt⟩⟩

/-- An entry that fits does not begin before an EXECUTING one. -/
theorem fits_executing (hx : x ∈ l) (hex : x.executing = true) : x.spanStart ≤ m.spanStart := by
  by_contra hlt
  have hxm : m.spanStart ≤ x.spanStart := by omega
  cases hfind : l.find? fun e => e.executing && decide (m.spanStart ≤ e.spanStart) with
  | none => simpa [hex, hxm] using List.find?_eq_none.mp hfind x hx
  | some e =>
    have hp : predecessor l m = some e := by unfold predecessor; rw [hfind]
    obtain ⟨hmem, hbefore, -⟩ := fits_predecessor hf hd hl hp
    have hprop := List.find?_some hfind
    simp only [Bool.and_eq_true, decide_eq_true_eq] at hprop
    have hm := hbefore.max_of_le (hl e hmem) hprop.2
    have hb := (hl x hx).bound
    rcases (hl x hx).span with h | ⟨h, h'⟩ <;> omega

/-- An entry that fits begins with no other one but at the largest line second. -/
theorem fits_tie (hx : x ∈ l) (heq : x.spanStart = m.spanStart) : Config.maxSecond ≤ m.spanStart := by
  rcases fits_of_le hf hd hl hx heq.le with h | ⟨p, hp, hbefore, hxp, -⟩
  · exact h
  · exact (hbefore.max_of_le (hl p hp) (by omega)).ge

/-- An entry that fits among entries that lie apart lies apart from each of them. -/
theorem fits_apart (hgap : Gap d) (ha : l.Pairwise (Entry.apart d)) (hx : x ∈ l) : x.apart d m := by
  have hpair {y : Entry} (hy : y ∈ l) (hne : x ≠ y) : x.apart d y :=
    (pairwise_either ha hx hy hne).elim id Entry.apart.symm
  rcases Nat.lt_or_ge m.spanStart x.spanStart with hlt | hge
  · right
    obtain ⟨q, hq, hmq, -, hqx⟩ := fits_of_lt hf hd hx hlt
    rcases eq_or_ne x q with rfl | hne
    · exact hmq
    · rcases hpair hq hne with h | h
      · have := h.max_of_le (hl x hx) hqx
        exact Entry.before_of_max (this.ge.trans hqx)
      · exact hmq.trans hgap (hl q hq) h
  · left
    rcases fits_of_le hf hd hl hx hge with hmax | ⟨p, hp, hpm, hxp, hpm'⟩
    · exact Entry.before_of_max hmax
    · rcases eq_or_ne x p with rfl | hne
      · exact hpm
      · rcases hpair hp hne with h | h
        · exact h.trans hgap (hl p hp) hpm
        · have := h.max_of_le (hl p hp) hxp
          exact Entry.before_of_max (by omega)

end

/-! ### A schedule whose spans lie apart -/

/-- The spans of a schedule lie apart by the gap, the EXECUTING entry first (R75 to R77). -/
structure Spaced (d : Nat → Nat → Nat) (l : List Entry) : Prop where
  solid : ∀ e ∈ l, e.Solid d
  before : l.Pairwise (Entry.before d)
  first : onlyFirstExecutes l

theorem Spaced.of_sublist {l' : List Entry} (hs : l'.Sublist l) (h : Spaced d l) : Spaced d l' :=
  ⟨fun e he => h.solid e (hs.subset he), h.before.sublist hs, onlyFirstExecutes_of_sublist hs h.first⟩

theorem Spaced.nil : Spaced d [] := ⟨nofun, .nil, nofun⟩

theorem Spaced.inOrder (h : Spaced d l) : l.Pairwise Entry.inOrder := inOrder_of_before h.before h.solid

/-- Entries that lie apart from a schedule and from each other take their places in it. -/
theorem Spaced.insert (h : Spaced d l) (hms : ∀ m ∈ ms, m.Solid d ∧ m.executing = false)
    (ha : (l ++ ms).Pairwise (Entry.apart d))
    (hex : ∀ m ∈ ms, ∀ x ∈ l, x.executing = true → x.spanStart ≤ m.spanStart) :
    Spaced d (ms.foldl (fun l m => insertEntry m l) l) := by
  have hperm := (insertEntries_perm ms l).trans List.perm_append_comm
  have hsolid : ∀ e ∈ ms.foldl (fun l m => insertEntry m l) l, e.Solid d := by
    intro e he
    rcases List.mem_append.mp (hperm.mem_iff.mp he) with he | he
    · exact h.solid e he
    · exact (hms e he).1
  refine ⟨hsolid, pairwise_before (insertEntries_inOrder ms h.inOrder) ?_ hsolid, ?_⟩
  · exact (hperm.pairwise_iff fun hab => Entry.apart.symm hab).mpr ha
  · exact insertEntries_onlyFirstExecutes h.first (fun m hm => (hms m hm).2) hex

/-- Two different entries of a plan begin in different seconds, but at the largest, where each of some of them fits among
the others and the rest lie apart. -/
theorem ne_start_of_fits {p : Entry → Prop} (hl : ∀ e ∈ l, e.Solid d) (hd : GapIn d tp)
    (hfit : ∀ m ∈ l, p m → fits tp now car (l.erase m) m = true)
    (hrest : ∀ a ∈ l, ∀ b ∈ l, a ≠ b → ¬ p a → ¬ p b → a.apart d b)
    (ha : a ∈ l) (hb : b ∈ l) (hne : a ≠ b) (heq : a.spanStart = b.spanStart) : Config.maxSecond ≤ b.spanStart := by
  have herase {x : Entry} : ∀ e ∈ l.erase x, e.Solid d := fun e he => hl e (List.mem_of_mem_erase he)
  by_cases hpb : p b
  · exact fits_tie (hfit b hb hpb) hd herase ((List.mem_erase_of_ne hne).mpr ha) heq
  by_cases hpa : p a
  · exact heq ▸ fits_tie (hfit a ha hpa) hd herase ((List.mem_erase_of_ne hne.symm).mpr hb) heq.symm
  rcases hrest a ha b hb hne hpa hpb with h | h
  · exact (h.max_of_le (hl a ha) heq.ge).ge
  · exact heq ▸ (h.max_of_le (hl b hb) heq.le).ge

/-- A plan in order, each of some of whose entries fits among the others while the rest lie one before the other, has all
its entries one before the other. -/
theorem before_of_fits {p : Entry → Prop} [DecidablePred p] (hgap : Gap d) (hd : GapIn d tp) (hl : ∀ e ∈ l, e.Solid d)
    (hs : l.Pairwise Entry.inOrder) (hfit : ∀ m ∈ l, p m → fits tp now car (l.erase m) m = true)
    (hrest : (l.filter fun e => ¬ p e).Pairwise (Entry.before d)) : l.Pairwise (Entry.before d) := by
  have hapart : ∀ a ∈ l, ∀ b ∈ l, a ≠ b → ¬ p a → ¬ p b → a.apart d b := fun a ha b hb hne hpa hpb =>
    pairwise_either hrest (by simp [ha, hpa]) (by simp [hb, hpb]) hne
  have hadjacent (l₁ l₂ : List Entry) (a b : Entry) (hsplit : l = l₁ ++ a :: b :: l₂) : a.before d b := by
    have ha : a ∈ l := by simp [hsplit]
    have hb : b ∈ l := by simp [hsplit]
    have hordered := hs
    rw [hsplit, List.pairwise_append] at hordered
    obtain ⟨-, hafter, hbefore⟩ := hordered
    have hab : a.spanStart ≤ b.spanStart := (List.pairwise_cons.mp hafter).1 b List.mem_cons_self
    have hplace {x : Entry} (hx : x ∈ l) : x = a ∨ x = b ∨ x.spanStart ≤ a.spanStart ∨ b.spanStart ≤ x.spanStart := by
      rw [hsplit, List.mem_append, List.mem_cons, List.mem_cons] at hx
      rcases hx with hx | rfl | rfl | hx
      · exact .inr (.inr (.inl (hbefore x hx a List.mem_cons_self)))
      · exact .inl rfl
      · exact .inr (.inl rfl)
      · exact .inr (.inr (.inr ((List.pairwise_cons.mp (List.pairwise_cons.mp hafter).2).1 x hx)))
    have herase {x : Entry} : ∀ e ∈ l.erase x, e.Solid d := fun e he => hl e (List.mem_of_mem_erase he)
    by_contra hnot
    have hbmax : b.spanStart < Config.maxSecond := Nat.lt_of_not_le fun h => hnot (Entry.before_of_max h)
    have htie {x y : Entry} (hx : x ∈ l) (hy : y ∈ l) (hle : y.spanStart ≤ b.spanStart) (heq : x.spanStart = y.spanStart) :
        x = y := by
      by_contra hne
      have := ne_start_of_fits hl hd hfit hapart hx hy hne heq
      omega
    by_cases hpb : p b
    · have hmem : a ∈ l.erase b := by
        by_cases hne : a = b
        · rw [hne, ← List.count_pos_iff, List.count_erase_self, hsplit, hne]
          simp
        · exact (List.mem_erase_of_ne hne).mpr ha
      rcases fits_of_le (hfit b hb hpb) hd herase hmem hab with h | ⟨q, hq, hqb, haq, hqle⟩
      · omega
      have hql := List.mem_of_mem_erase hq
      have hne : q.spanStart ≠ b.spanStart := fun heq => by
        have := fits_tie (hfit b hb hpb) hd herase hq heq
        omega
      rcases hplace hql with rfl | rfl | h | h
      · exact hnot hqb
      · exact hne rfl
      · exact hnot (htie hql ha hab (le_antisymm h haq) ▸ hqb)
      · omega
    · by_cases hpa : p a
      · have hne : a ≠ b := fun heq => hpb (heq ▸ hpa)
        have hlt : a.spanStart < b.spanStart := by
          refine lt_of_le_of_ne hab fun heq => hne (htie ha hb le_rfl heq)
        obtain ⟨q, hq, haq, haq', hqb⟩ := fits_of_lt (hfit a ha hpa) hd ((List.mem_erase_of_ne hne.symm).mpr hb) hlt
        have hql := List.mem_of_mem_erase hq
        rcases hplace hql with rfl | rfl | h | h
        · omega
        · exact hnot haq
        · omega
        · exact hnot (htie hql hb le_rfl (le_antisymm hqb h) ▸ haq)
      · rw [hsplit] at hrest
        simp only [List.filter_append, List.filter_cons, hpa, hpb, not_false_eq_true, decide_true, if_true] at hrest
        exact hnot ((List.pairwise_cons.mp (List.pairwise_append.mp hrest).2.1).1 b List.mem_cons_self)
  have htrans : IsTrans Entry fun a b => a.Solid d ∧ a.before d b ∧ b.Solid d :=
    ⟨fun _ _ _ ⟨ha, hab, hb⟩ ⟨_, hbc, hc⟩ => ⟨ha, hab.trans hgap hb hbc, hc⟩⟩
  have hchain : l.IsChain fun a b => a.Solid d ∧ a.before d b ∧ b.Solid d :=
    List.isChain_iff_forall_rel_of_append_cons_cons.mpr fun {a b l₁ l₂} hsplit =>
      ⟨hl a (by simp [hsplit]), hadjacent l₁ l₂ a b hsplit, hl b (by simp [hsplit])⟩
  exact (List.isChain_iff_pairwise.mp hchain).imp fun h => h.2.1

end

end Sys2Proof.Machine
end

section
/-! PROOFS. Timelines: order, and intervals that lie apart, as they are inserted, sorted, slid and shifted (5.3, 6.5). -/

namespace Sys2Proof.Machine

/-! ### Two intervals -/

/-- One interval of a timeline is over as the next one begins, and they are two stays (R79, R80). -/
def Interval.precedes (a b : Interval) : Prop :=
  a.start ≤ b.start ∧ (∀ x, a.stop = some x → x ≤ b.start) ∧ (a.slot ≠ b.slot ∨ a.step ≠ b.step)

/-- Of two intervals, in the order in which they come to a timeline, the one that begins first precedes the other. -/
def Interval.clear (a b : Interval) : Prop := (a.start ≤ b.start → a.precedes b) ∧ (b.start < a.start → b.precedes a)

/-- The order of a timeline: by from second (R80). -/
def Interval.inOrder (a b : Interval) : Prop := a.start ≤ b.start

theorem Interval.meets_comm (a b : Interval) : a.meets b = b.meets a := Bool.or_comm _ _

/-- An interval that does not cover the beginning of a later one has ended by then. -/
theorem Interval.stop_le_of_not_covers {a : Interval} {t : Nat} (h : a.covers t = false) (hle : a.start ≤ t) :
    ∃ x, a.stop = some x ∧ x ≤ t := by
  cases hs : a.stop with
  | none => simp [Interval.covers, hle, hs] at h
  | some x => exact ⟨x, rfl, by simpa [Interval.covers, hle, hs] using h⟩

theorem Interval.precedes_of_not_covers {a b : Interval} (h : a.covers b.start = false) (hle : a.start ≤ b.start)
    (hid : a.slot ≠ b.slot ∨ a.step ≠ b.step) : a.precedes b := by
  obtain ⟨x, hx, hxb⟩ := Interval.stop_le_of_not_covers h hle
  exact ⟨hle, fun y hy => by rw [hx] at hy; cases hy; exact hxb, hid⟩

/-- Intervals that do not meet are clear of each other. -/
theorem Interval.clear_of_not_meets {a b : Interval} (h : a.meets b = false) (hid : a.slot ≠ b.slot ∨ a.step ≠ b.step) :
    a.clear b := by
  obtain ⟨hab, hba⟩ := Bool.or_eq_false_iff.mp h
  exact ⟨fun hle => Interval.precedes_of_not_covers hab hle hid,
    fun hlt => Interval.precedes_of_not_covers hba hlt.le (hid.imp Ne.symm Ne.symm)⟩

theorem Interval.clear_of_precedes {a b : Interval} (h : a.precedes b) : a.clear b :=
  ⟨fun _ => h, fun hlt => absurd h.1 (Nat.not_le_of_lt hlt)⟩

/-! ### Insertion and sorting -/

theorem insertInterval_perm (iv : Interval) (l : List Interval) : (insertInterval iv l).Perm (iv :: l) := by
  induction l with
  | nil => exact .refl _
  | cons i is ih =>
    unfold insertInterval
    split
    · exact .refl _
    · exact (ih.cons i).trans (.swap iv i is)

theorem mem_insertInterval {iv x : Interval} {l : List Interval} : x ∈ insertInterval iv l ↔ x = iv ∨ x ∈ l := by
  rw [(insertInterval_perm iv l).mem_iff, List.mem_cons]

theorem insertIntervals_perm (ivs l : List Interval) :
    (ivs.foldl (fun l iv => insertInterval iv l) l).Perm (ivs ++ l) := by
  induction ivs generalizing l with
  | nil => exact .refl _
  | cons iv ivs ih =>
    rw [List.foldl_cons]
    exact (ih _).trans (((insertInterval_perm iv l).append_left ivs).trans List.perm_middle)

theorem insertInterval_inOrder {iv : Interval} {l : List Interval} (h : l.Pairwise Interval.inOrder) :
    (insertInterval iv l).Pairwise Interval.inOrder := by
  induction l with
  | nil => exact List.pairwise_singleton _ _
  | cons i is ih =>
    obtain ⟨hi, his⟩ := List.pairwise_cons.mp h
    unfold insertInterval
    split
    · next hlt =>
      refine List.pairwise_cons.mpr ⟨fun x hx => ?_, h⟩
      rcases List.mem_cons.mp hx with rfl | hx
      · exact hlt.le
      · exact hlt.le.trans (hi x hx)
    · next hge =>
      refine List.pairwise_cons.mpr ⟨fun x hx => ?_, ih his⟩
      rcases mem_insertInterval.mp hx with rfl | hx
      · exact Nat.le_of_not_lt hge
      · exact hi x hx

theorem insertIntervals_inOrder (ivs : List Interval) {l : List Interval} (h : l.Pairwise Interval.inOrder) :
    (ivs.foldl (fun l iv => insertInterval iv l) l).Pairwise Interval.inOrder := by
  induction ivs generalizing l with
  | nil => exact h
  | cons iv ivs ih => exact ih (insertInterval_inOrder h)

/-- An interval clear of those of a timeline takes its place among them. -/
theorem insertInterval_precedes {iv : Interval} {l : List Interval} (h : l.Pairwise Interval.precedes)
    (hc : ∀ x ∈ l, x.clear iv) : (insertInterval iv l).Pairwise Interval.precedes := by
  induction l with
  | nil => exact List.pairwise_singleton _ _
  | cons i is ih =>
    obtain ⟨hi, his⟩ := List.pairwise_cons.mp h
    unfold insertInterval
    split
    · next hlt =>
      refine List.pairwise_cons.mpr ⟨fun x hx => ?_, h⟩
      refine (hc x hx).2 ?_
      rcases List.mem_cons.mp hx with rfl | hx
      · exact hlt
      · exact hlt.trans_le (hi x hx).1
    · next hge =>
      refine List.pairwise_cons.mpr ⟨fun x hx => ?_, ih his fun x hx => hc x (List.mem_cons_of_mem _ hx)⟩
      rcases mem_insertInterval.mp hx with rfl | hx
      · exact (hc i List.mem_cons_self).1 (Nat.le_of_not_lt hge)
      · exact hi x hx

/-- Intervals clear of each other and of a timeline take their places in it. -/
theorem insertIntervals_precedes {ivs l : List Interval} (h : l.Pairwise Interval.precedes)
    (hivs : ivs.Pairwise Interval.clear) (hc : ∀ x ∈ l, ∀ iv ∈ ivs, x.clear iv) :
    (ivs.foldl (fun l iv => insertInterval iv l) l).Pairwise Interval.precedes := by
  induction ivs generalizing l with
  | nil => exact h
  | cons iv ivs ih =>
    obtain ⟨hiv, hivs⟩ := List.pairwise_cons.mp hivs
    refine ih (insertInterval_precedes h fun x hx => hc x hx iv List.mem_cons_self) hivs fun x hx jv hjv => ?_
    rcases mem_insertInterval.mp hx with rfl | hx
    · exact hiv jv hjv
    · exact hc x hx jv (List.mem_cons_of_mem _ hjv)

theorem sortIntervals_perm (l : List Interval) : (sortIntervals l).Perm l := by
  simpa [sortIntervals] using insertIntervals_perm l []

theorem sortIntervals_inOrder (l : List Interval) : (sortIntervals l).Pairwise Interval.inOrder :=
  insertIntervals_inOrder l .nil

theorem sortIntervals_precedes {l : List Interval} (h : l.Pairwise Interval.clear) :
    (sortIntervals l).Pairwise Interval.precedes :=
  insertIntervals_precedes .nil h nofun

/-! ### Slides and re-bookings -/

/-- An interval of a timeline as it is held: the same stay and beginning, and its own end where it has one (R80). -/
def Interval.heldAs (a b : Interval) : Prop :=
  b.slot = a.slot ∧ b.step = a.step ∧ b.start = a.start ∧ ∀ x, a.stop = some x → b.stop = some x

theorem heldEnds_spec (l : List Interval) : List.Forall₂ Interval.heldAs l (heldEnds l) := by
  induction l with
  | nil => exact .nil
  | cons i l ih =>
    cases l with
    | nil => exact .cons ⟨rfl, rfl, rfl, fun _ => id⟩ .nil
    | cons j l => exact .cons ⟨rfl, rfl, rfl, fun x hx => by simp [hx]⟩ ih

/-- Every interval of a timeline is there as it is held. -/
theorem exists_heldEnd {x : Interval} {l : List Interval} (h : x ∈ l) : ∃ y ∈ heldEnds l, x.heldAs y := by
  have hspec := heldEnds_spec l
  generalize heldEnds l = m at hspec ⊢
  induction hspec with
  | nil => cases h
  | cons hab _ ih =>
    rcases List.mem_cons.mp h with rfl | h
    · exact ⟨_, List.mem_cons_self, hab⟩
    · obtain ⟨y, hy, hxy⟩ := ih h
      exact ⟨y, List.mem_cons_of_mem _ hy, hxy⟩

/-- An interval that does not meet another as it is held is clear of it, whichever comes first. -/
theorem Interval.clear_of_held {f x y : Interval} (hxy : x.heldAs y) (hm : f.meets y = false)
    (hid : f.slot ≠ x.slot ∨ f.step ≠ x.step) : f.clear x ∧ x.clear f := by
  obtain ⟨-, -, hstart, hstop⟩ := hxy
  obtain ⟨hf, hy⟩ := Bool.or_eq_false_iff.mp hm
  rw [hstart] at hf
  have hfx (hle : f.start ≤ x.start) : f.precedes x := Interval.precedes_of_not_covers hf hle hid
  have hxf (hle : x.start ≤ f.start) : x.precedes f := by
    refine ⟨hle, fun z hz => ?_, hid.imp Ne.symm Ne.symm⟩
    obtain ⟨w, hw, hwf⟩ := Interval.stop_le_of_not_covers hy (hstart ▸ hle)
    rw [hstop z hz] at hw
    cases hw
    exact hwf
  exact ⟨⟨hfx, fun h => hxf h.le⟩, ⟨hxf, fun h => hfx h.le⟩⟩

/-- A change of one stay of a timeline that overlaps no other one as held keeps the intervals apart (R101). -/
theorem moveStays_precedes {k step : Nat} {f : Interval → Interval} {l : List Interval}
    (hf : ∀ iv, (f iv).slot = iv.slot ∧ (f iv).step = iv.step) (hl : l.Pairwise Interval.precedes)
    (hfits : movedFits (·.isStay k step) f l = true) : (moveStays (·.isStay k step) f l).Pairwise Interval.precedes := by
  refine sortIntervals_precedes (List.pairwise_map.mpr (hl.imp_of_mem fun {a b} ha hb hab => ?_))
  have hclear {p q : Interval} (hp : p ∈ l) (hq : q ∈ l) (hpk : p.isStay k step = true) (hqk : ¬ q.isStay k step = true)
      (hid : p.slot ≠ q.slot ∨ p.step ≠ q.step) : (f p).clear q ∧ q.clear (f p) := by
    obtain ⟨y, hy, hqy⟩ := exists_heldEnd hq
    have hyk : y.isStay k step = false := by
      rw [Interval.isStay, hqy.1, hqy.2.1]; simpa [Interval.isStay] using hqk
    simp only [movedFits, List.all_eq_true, List.mem_filter, Bool.not_eq_true', List.any_eq_false] at hfits
    have hm := hfits p ⟨hp, hpk⟩ y ⟨hy, hyk⟩
    exact Interval.clear_of_held hqy (by simpa using hm) (by rw [(hf p).1, (hf p).2]; exact hid)
  by_cases hak : a.isStay k step = true <;> by_cases hbk : b.isStay k step = true
  · simp only [Interval.isStay, Bool.and_eq_true, beq_iff_eq] at hak hbk
    exact absurd hab.2.2 (by simp [hak, hbk])
  · simp only [hak, hbk, if_true]
    exact (hclear ha hb hak hbk hab.2.2).1
  · simp only [hak, hbk, if_true]
    exact (hclear hb ha hbk hak (hab.2.2.imp Ne.symm Ne.symm)).2
  · simp only [hak, hbk]
    exact Interval.clear_of_precedes hab

/-- A re-booking leaves every interval its rack and its stay. -/
theorem shiftStay_stay (tl : Nat) (e : Entry) (p : Nat) (iv : Interval) :
    (shiftStay tl e p iv).slot = iv.slot ∧ (shiftStay tl e p iv).step = iv.step := by
  unfold shiftStay
  split
  · exact ⟨rfl, rfl⟩
  · split <;> exact ⟨rfl, rfl⟩

/-- The stays a re-booking does not shift stay as they are (R102). -/
theorem shiftStay_of_not_shifted {tl p : Nat} {e : Entry} {iv : Interval} (h : shifted e iv = false) :
    shiftStay tl e p iv = iv := by
  simp only [shifted, Bool.and_eq_false_iff, beq_eq_false_iff_ne, decide_eq_false_iff_not] at h
  unfold shiftStay
  rw [if_neg (by rintro ⟨h1, h2⟩; rcases h with h | h <;> omega), if_neg (by rintro ⟨h1, h2⟩; rcases h with h | h <;> omega)]

/-- A re-booking whose shifted intervals overlap no other one keeps the intervals apart (R102). -/
theorem shiftedLine_precedes {tl p : Nat} {e : Entry} {l : List Interval} (hl : l.Pairwise Interval.precedes)
    (hfits : shiftedFits e (sortIntervals (l.map (shiftStay tl e p))) = true) :
    (sortIntervals (l.map (shiftStay tl e p))).Pairwise Interval.precedes := by
  refine sortIntervals_precedes (List.pairwise_map.mpr (hl.imp_of_mem fun {a b} ha hb hab => ?_))
  obtain ⟨haslot, hastep⟩ := shiftStay_stay tl e p a
  obtain ⟨hbslot, hbstep⟩ := shiftStay_stay tl e p b
  have hmem {x : Interval} (hx : x ∈ l) : shiftStay tl e p x ∈ sortIntervals (l.map (shiftStay tl e p)) :=
    (sortIntervals_perm _).mem_iff.mpr (List.mem_map_of_mem hx)
  have hid : (shiftStay tl e p a).slot ≠ (shiftStay tl e p b).slot ∨ (shiftStay tl e p a).step ≠ (shiftStay tl e p b).step := by
    rw [haslot, hastep, hbslot, hbstep]; exact hab.2.2
  have hmeets {x y : Interval} (hx : shiftStay tl e p x ∈ sortIntervals (l.map (shiftStay tl e p)))
      (hy : shiftStay tl e p y ∈ sortIntervals (l.map (shiftStay tl e p))) (hs : shifted e (shiftStay tl e p x) = true)
      (hxy : (shiftStay tl e p x).slot ≠ (shiftStay tl e p y).slot ∨
        (shiftStay tl e p x).step ≠ (shiftStay tl e p y).step) :
      (shiftStay tl e p x).meets (shiftStay tl e p y) = false := by
    simp only [shiftedFits, List.all_eq_true, List.mem_filter, Bool.not_eq_true', List.any_eq_false] at hfits
    have hstay : (shiftStay tl e p y).isStay (shiftStay tl e p x).slot (shiftStay tl e p x).step = false := by
      simp only [Interval.isStay, Bool.and_eq_false_iff, beq_eq_false_iff_ne]
      exact hxy.imp Ne.symm Ne.symm
    simpa using hfits _ ⟨hx, hs⟩ _ ⟨hy, hstay⟩
  by_cases hsa : shifted e (shiftStay tl e p a) = true
  · exact Interval.clear_of_not_meets (hmeets (hmem ha) (hmem hb) hsa hid) hid
  · by_cases hsb : shifted e (shiftStay tl e p b) = true
    · have h := hmeets (hmem hb) (hmem ha) hsb (hid.imp Ne.symm Ne.symm)
      exact Interval.clear_of_not_meets (by rwa [Interval.meets_comm]) hid
    · have hsame {x : Interval} (h : ¬ shifted e (shiftStay tl e p x) = true) : shiftStay tl e p x = x := by
        refine shiftStay_of_not_shifted ?_
        obtain ⟨hslot, hstep⟩ := shiftStay_stay tl e p x
        unfold shifted at h ⊢
        rw [hslot, hstep] at h
        simpa using h
      rw [hsame hsa, hsame hsb]
      exact Interval.clear_of_precedes hab

end Sys2Proof.Machine
end

section
/-! PROOFS. The placement walk (5.5): what a chain under construction has accepted lies apart from the plans and from itself,
and has room. -/

namespace Sys2Proof.Machine

/-! ### Entries as R75 makes them -/

section
variable {line : LineCfg} {slot index src dst start drain : Nat} {kind : MoveKind} {firm : Bool}

theorem mkEntry_solid {d : Nat → Nat → Nat} (hd : GapIn d line.tp) (htl : 1 ≤ line.tl) (hstart : start ≤ Config.maxSecond) :
    (mkEntry line slot index src dst kind firm start drain).Solid d := by
  have hgap := hd src dst
  constructor
  all_goals
    cases firm <;> simp only [mkEntry, moveDuration, addSec, Config.maxSecond, Bool.false_eq_true, if_true, if_false] at * <;>
      omega

/-- A span lasts at least the duration of its move, and a duration the travel it holds (R7, R75). -/
def Entry.Lasts (tp : Nat) (e : Entry) : Prop :=
  travelTime tp e.src e.dst ≤ e.duration ∧ min (e.spanStart + e.duration) 4294967295 ≤ e.spanEnd

theorem mkEntry_lasts : (mkEntry line slot index src dst kind firm start drain).Lasts line.tp := by
  cases firm <;> simp only [Entry.Lasts, mkEntry, moveDuration, addSec, Config.maxSecond, Bool.false_eq_true, if_true, if_false] <;>
    omega

end

/-! ### One move accepted (R85, R87) -/

/-- The intervals of a list of stays at a station. -/
def staysIn (stays : List (Nat × Interval)) (n : Nat) : List Interval := (stays.filter (·.1 == n)).map (·.2)

theorem Cursor.staysAt_eq (c : Cursor) (n : Nat) : c.staysAt n = staysIn c.stays n := rfl

theorem staysIn_append_same (stays : List (Nat × Interval)) (n : Nat) (iv : Interval) :
    staysIn (stays ++ [(n, iv)]) n = staysIn stays n ++ [iv] := by simp [staysIn]

theorem staysIn_append_other (stays : List (Nat × Interval)) {m n : Nat} (h : m ≠ n) (iv : Interval) :
    staysIn (stays ++ [(m, iv)]) n = staysIn stays n := by simp [staysIn, h]

/-- A stay that fits at its station among stays already there. -/
def State.fitsAmong (v : State) (w : Trip) (stays : List (Nat × Interval)) (n : Nat) (iv : Interval) : Prop :=
  ∀ x ∈ v.foreign w n ++ staysIn stays n, iv.meets x = false

theorem State.stayFits_iff {v : State} {w : Trip} {c : Cursor} {n : Nat} {iv : Interval} :
    v.stayFits w c n iv = true ↔ v.fitsAmong w c.stays n iv := by
  simp [State.stayFits, State.fitsAmong, Cursor.staysAt_eq, or_imp, forall_and]

/-- A chain under construction takes a move to `x`: the entry `m` that fits, the stay `here` it ends, if it began one, and
the hold of the last move. -/
structure State.Laid (v : State) (w : Trip) (c c' : Cursor) (x : Nat) (m : Entry) (here hold : Option Interval) : Prop where
  capacity : v.capacity w c x = none
  made : ∃ kind firm start drain, start ≤ Config.maxSecond ∧
    m = mkEntry v.cfg.line w.slot c.step c.station x kind firm start drain
  fit : fits v.cfg.line.tp v.clock v.carriageAt (v.schedule ++ c.entries) m = true
  entries : c'.entries = c.entries ++ [m]
  step : c'.step = c.step + 1
  from_ : here.isSome = c.stayFrom.isSome
  ofHere : ∀ iv, here = some iv → iv.slot = w.slot ∧ iv.step = c.step ∧ v.fitsAmong w c.stays c.station iv
  ofHold : ∀ iv, hold = some iv → iv.slot = w.slot ∧ iv.step = c.step + 1 ∧
    v.fitsAmong w (c.stays ++ (here.map fun i => (c.station, i)).toList) x iv
  stays : c'.stays = c.stays ++ (here.map fun i => (c.station, i)).toList ++ (hold.map fun i => (x, i)).toList

section
variable {v : State} {w : Trip} {e : Nat} {c c' : Cursor} {last : Bool} {x : Nat}

theorem State.tripStart_le (v : State) (w : Trip) {e : Nat} (he : e ≤ Config.maxSecond) (c : Cursor) (m : Nat) :
    v.tripStart w e c m ≤ Config.maxSecond := by
  have hsec (a b : Nat) : addSec a b ≤ Config.maxSecond := min_le_right _ _
  unfold State.tripStart
  split
  · exact he
  · split
    · exact he
    · split
      · split
        · exact hsec _ _
        · exact max_le he (hsec _ _)
      · split
        · exact max_le (hsec _ _) ((Nat.sub_le _ _).trans (hsec _ _))
        · exact max_le he (min_le_right _ _)

/-- A station tried with success: a move taken, the last one with its hold. -/
theorem State.tryStation_ok (he : e ≤ Config.maxSecond) (h : v.tryStation w e c last x = .ok c') :
    ∃ m here hold, v.Laid w c c' x m here hold ∧ (last = false → hold = none) := by
  unfold State.tryStation at h
  split at h
  · cases h
  next hcap =>
  simp only at h
  split at h
  · cases h
  next hhere =>
  split at h
  · cases h
  next hfit =>
  split at h
  · cases h
  split at h
  · cases h
  next hhold =>
  cases h
  simp only [Bool.not_eq_true', Bool.not_eq_false] at hhere hfit
  have hstays (iv : Interval) (hiv : (c.stayFrom.map fun t => c.stay v.cfg.line.tl w t (v.tripStart w e c
      (moveDuration v.cfg.line c.station x (w.drain c.step))) (w.drain c.step)) = some iv) :
      iv.slot = w.slot ∧ iv.step = c.step ∧ v.fitsAmong w c.stays c.station iv := by
    rw [hiv] at hhere
    obtain ⟨t, -, rfl⟩ := Option.map_eq_some_iff.mp hiv
    exact ⟨rfl, rfl, State.stayFits_iff.mp hhere⟩
  cases last with
  | false =>
    refine ⟨_, _, none, ⟨hcap, ⟨_, _, _, _, State.tripStart_le v w he c _, rfl⟩, hfit, rfl, rfl, by simp, hstays, nofun, ?_⟩,
      fun _ => rfl⟩
    simp
  | true =>
    refine ⟨_, _, some (holdInterval v.cfg.line.hold (mkEntry v.cfg.line w.slot c.step c.station x (w.kind c.step true)
      (w.firm c.step) (v.tripStart w e c (moveDuration v.cfg.line c.station x (w.drain c.step))) (w.drain c.step))), ⟨hcap, ⟨_, _, _, _, State.tripStart_le v w he c _, rfl⟩, hfit, rfl, rfl, by simp, hstays,
      fun iv hiv => ?_, ?_⟩, nofun⟩
    · cases hiv
      simp only [Bool.true_and, Bool.not_eq_true', Bool.not_eq_false] at hhold
      exact ⟨rfl, rfl, State.stayFits_iff.mp hhold⟩
    · simp

theorem State.tryStations_ok {xs : List Nat} {r : WalkReason} (he : e ≤ Config.maxSecond)
    (h : v.tryStations w e c last xs r = .ok c') :
    ∃ x m here hold, v.Laid w c c' x m here hold ∧ (last = false → hold = none) := by
  induction xs generalizing r with
  | nil => cases h
  | cons x xs ih =>
    unfold State.tryStations at h
    split at h
    · next c₁ hc =>
      cases h
      exact ⟨x, State.tryStation_ok he hc⟩
    · exact ih h

/-- A chain that a walk answers has what every move taken keeps: `P` through the moves before the last, `Q` after it. -/
theorem State.walk_keeps {P Q : Cursor → Prop} {t0 : Nat} (h0 : t0 ≤ Config.maxSecond) (h : v.walk w c t0 = .ok c')
    (hmid : ∀ {c c' : Cursor} {x : Nat} {m : Entry} {here : Option Interval}, P c → v.Laid w c c' x m here none → P c')
    (hlast : ∀ {c c' : Cursor} {x : Nat} {m : Entry} {here hold : Option Interval}, P c → v.Laid w c c' x m here hold → Q c')
    (hc : P c) : Q c' := by
  have hbuild (steps : List Step) {e : Nat} (he : e ≤ Config.maxSecond) {c : Cursor} (hc : P c)
      (h : v.buildChain w e steps c = .ok c') : Q c' := by
    induction steps generalizing c with
    | nil =>
      obtain ⟨x, m, here, hold, hlaid, -⟩ := State.tryStations_ok he h
      exact hlast hc hlaid
    | cons st steps ih =>
      unfold State.buildChain at h
      split at h
      · next c₁ h₁ =>
        obtain ⟨x, m, here, hold, hlaid, hnone⟩ := State.tryStations_ok he h₁
        exact ih (hmid hc (hnone rfl ▸ hlaid)) h
      · cases h
  have hwalk (steps : List Step) (n : Nat) {e : Nat} (he : e ≤ Config.maxSecond)
      (h : v.walkFrom w c steps n e = .ok c') : Q c' := by
    induction n generalizing e with
    | zero => exact hbuild steps he hc h
    | succ n ih =>
      unfold State.walkFrom at h
      split at h
      · next h₁ => cases h; exact hbuild steps he hc h₁
      · exact ih (min_le_right _ _) h
  exact hwalk _ _ h0 h

end

/-! ### The stays of a chain -/

/-- The stays of a chain, those below number `lim`: they are its rack's, lie clear of each other and of what stays in the
timelines, and have room. -/
structure State.StaysLaid (v : State) (w : Trip) (lim : Nat) (stays : List (Nat × Interval)) : Prop where
  own : ∀ q ∈ stays, q.2.slot = w.slot ∧ w.first ≤ q.2.step ∧ q.2.step < lim
  clear : ∀ n, (staysIn stays n).Pairwise Interval.clear
  foreign : ∀ n, ∀ x ∈ v.foreign w n, ∀ iv ∈ staysIn stays n, x.clear iv
  room : ∀ n, staysIn stays n = [] ∨ (v.foreign w n).length + (staysIn stays n).length ≤ 8

section
variable {v : State} {w : Trip} {lim lim' n : Nat} {stays : List (Nat × Interval)} {iv : Interval}

theorem mem_staysIn : iv ∈ staysIn stays n ↔ (n, iv) ∈ stays := by simp [staysIn]

theorem State.StaysLaid.nil (v : State) (w : Trip) (lim : Nat) : v.StaysLaid w lim [] :=
  ⟨nofun, fun _ => .nil, fun _ _ _ _ h => (List.not_mem_nil h).elim, fun _ => .inl rfl⟩

theorem State.StaysLaid.mono (h : v.StaysLaid w lim stays) (hle : lim ≤ lim') : v.StaysLaid w lim' stays :=
  ⟨fun q hq => ⟨(h.own q hq).1, (h.own q hq).2.1, (h.own q hq).2.2.trans_le hle⟩, h.clear, h.foreign, h.room⟩

/-- What the chain does not replace is another stay than its own. -/
theorem State.foreign_other {x : Interval} (hx : x ∈ v.foreign w n) (hslot : iv.slot = w.slot) (hstep : w.first ≤ iv.step) :
    x.slot ≠ iv.slot ∨ x.step ≠ iv.step := by
  simp only [State.foreign, List.mem_filter, Bool.not_eq_true', Bool.and_eq_false_iff, beq_eq_false_iff_ne,
    decide_eq_false_iff_not] at hx
  rcases hx.2 with h | h
  · exact .inl (hslot ▸ h)
  · exact .inr (by omega)

/-- A stay that fits and has room joins the chain's. -/
theorem State.StaysLaid.append (h : v.StaysLaid w lim stays) (hfirst : w.first ≤ lim) (hslot : iv.slot = w.slot)
    (hstep : iv.step = lim) (hfit : v.fitsAmong w stays n iv)
    (hroom : (v.foreign w n).length + (staysIn stays n).length + 1 ≤ 8) : v.StaysLaid w (lim + 1) (stays ++ [(n, iv)]) := by
  have hother {x : Interval} (hx : x ∈ v.foreign w n ++ staysIn stays n) : x.slot ≠ iv.slot ∨ x.step ≠ iv.step := by
    rcases List.mem_append.mp hx with hx | hx
    · exact State.foreign_other hx hslot (hstep ▸ hfirst)
    · have hlt : x.step < lim := (h.own _ (mem_staysIn.mp hx)).2.2
      exact .inr (by omega)
  have hclear {x : Interval} (hx : x ∈ v.foreign w n ++ staysIn stays n) : x.clear iv :=
    Interval.clear_of_not_meets (by rw [Interval.meets_comm]; exact hfit x hx) (hother hx)
  refine ⟨fun q hq => ?_, fun m => ?_, fun m x hx jv hjv => ?_, fun m => ?_⟩
  · rcases List.mem_append.mp hq with hq | hq
    · obtain ⟨h1, h2, h3⟩ := h.own q hq
      exact ⟨h1, h2, h3.trans (Nat.lt_succ_self lim)⟩
    · obtain rfl := List.mem_singleton.mp hq
      exact ⟨hslot, hstep ▸ hfirst, by simp [hstep]⟩
  · by_cases hm : n = m
    · subst hm
      rw [staysIn_append_same]
      refine List.pairwise_append.mpr ⟨h.clear n, List.pairwise_singleton _ _, fun x hx y hy => ?_⟩
      obtain rfl := List.mem_singleton.mp hy
      exact hclear (List.mem_append_right _ hx)
    · rw [staysIn_append_other _ hm]; exact h.clear m
  · by_cases hm : n = m
    · subst hm
      rw [staysIn_append_same] at hjv
      rcases List.mem_append.mp hjv with hjv | hjv
      · exact h.foreign n x hx jv hjv
      · obtain rfl := List.mem_singleton.mp hjv
        exact hclear (List.mem_append_left _ hx)
    · rw [staysIn_append_other _ hm] at hjv; exact h.foreign m x hx jv hjv
  · by_cases hm : n = m
    · subst hm
      rw [staysIn_append_same, List.length_append, List.length_singleton]
      exact .inr hroom
    · rw [staysIn_append_other _ hm]; exact h.room m

/-- A move taken by a chain with room leaves room (R88). -/
theorem State.capacity_none {c : Cursor} {x : Nat} (h : v.capacity w c x = none) :
    v.schedule.length + c.entries.length + 1 ≤ 192 ∧
    (v.foreign w c.station).length + (staysIn c.stays c.station).length + (if c.stayFrom.isSome then 1 else 0) ≤ 8 ∧
    (v.foreign w x).length + (staysIn c.stays x).length +
      (if c.station = x then (if c.stayFrom.isSome then 1 else 0) else 0) + 1 ≤ 8 := by
  unfold State.capacity at h
  simp only at h
  generalize (if c.stayFrom.isSome = true then 1 else 0) = here at h ⊢
  generalize (if c.station = x then here else 0) = there at h ⊢
  split at h
  · cases h
  split at h
  · cases h
  split at h
  · cases h
  simp only [Cursor.staysAt_eq, Config.timelineCapacity, Config.scheduleCapacity] at *
  omega

/-- A move taken leaves the stays of the chain laid. -/
theorem State.Laid.stays_laid {c c' : Cursor} {x : Nat} {m : Entry} {here hold : Option Interval}
    (hl : v.Laid w c c' x m here hold) (hfirst : w.first ≤ c.step) (h : v.StaysLaid w c.step c.stays) :
    v.StaysLaid w (c'.step + (if hold.isSome then 1 else 0)) c'.stays := by
  obtain ⟨-, hstation, hx⟩ := State.capacity_none hl.capacity
  rw [← hl.from_] at hstation hx
  have hleft : v.StaysLaid w (c.step + 1) (c.stays ++ (here.map fun i => (c.station, i)).toList) := by
    cases here with
    | none => simpa using h.mono (Nat.le_succ _)
    | some iv =>
      obtain ⟨hslot, hstep, hfit⟩ := hl.ofHere iv rfl
      exact h.append hfirst hslot hstep hfit (by simpa using hstation)
  rw [hl.stays, hl.step]
  cases hold with
  | none => simpa using hleft
  | some iv =>
    obtain ⟨hslot, hstep, hfit⟩ := hl.ofHold iv rfl
    refine hleft.append (hfirst.trans (Nat.le_succ _)) hslot hstep hfit ?_
    cases here with
    | none => simpa using hx
    | some jv =>
      simp only [Option.map_some, Option.toList_some, Option.isSome_some, if_true] at hx ⊢
      by_cases hs : c.station = x
      · subst hs
        rw [staysIn_append_same, List.length_append, List.length_singleton]
        simp only [if_true] at hx
        omega
      · rw [staysIn_append_other _ hs]
        simp only [hs, if_false] at hx
        omega

end

/-! ### The entries of a chain -/

/-- The entries of a chain, those of moves below number `lim`: BOOKED ones of its rack, each another move, with room in the
schedule, lasting long enough, and apart from the schedule and from each other where the schedule's own are apart. -/
structure State.EntriesLaid (v : State) (w : Trip) (lim : Nat) (es : List Entry) : Prop where
  own : ∀ m ∈ es, m.slot = w.slot ∧ m.executing = false ∧ m.index < lim
  indices : es.Pairwise fun a b => a.index ≠ b.index
  room : es = [] ∨ v.schedule.length + es.length ≤ 192
  lasts : ∀ m ∈ es, m.Lasts v.cfg.line.tp
  apart : ∀ d, Gap d → GapIn d v.cfg.line.tp → 1 ≤ v.cfg.line.tl → (∀ e ∈ v.schedule, e.Solid d) →
    v.schedule.Pairwise (Entry.apart d) →
    (v.schedule ++ es).Pairwise (Entry.apart d) ∧ ∀ m ∈ es, m.Solid d ∧ ∀ x ∈ v.schedule, x.executing = true → x.spanStart ≤ m.spanStart

section
variable {v : State} {w : Trip}

theorem State.EntriesLaid.nil (v : State) (w : Trip) (lim : Nat) : v.EntriesLaid w lim [] :=
  ⟨nofun, .nil, .inl rfl, nofun, fun _ _ _ _ _ h => ⟨by rwa [List.append_nil], nofun⟩⟩

theorem State.Laid.entries_laid {c c' : Cursor} {x : Nat} {m : Entry} {here hold : Option Interval}
    (hl : v.Laid w c c' x m here hold) (h : v.EntriesLaid w c.step c.entries) : v.EntriesLaid w c'.step c'.entries := by
  obtain ⟨kind, firm, start, drain, hstart, hm⟩ := hl.made
  have hindex : m.index = c.step := by rw [hm]; rfl
  rw [hl.entries, hl.step]
  refine ⟨fun y hy => ?_, ?_, .inr ?_, fun y hy => ?_, fun d hgap hd htl hsolid hapart => ?_⟩
  · rcases List.mem_append.mp hy with hy | hy
    · obtain ⟨h1, h2, h3⟩ := h.own y hy
      exact ⟨h1, h2, h3.trans (Nat.lt_succ_self _)⟩
    · obtain rfl := List.mem_singleton.mp hy
      rw [hm]
      exact ⟨rfl, rfl, Nat.lt_succ_self _⟩
  · refine List.pairwise_append.mpr ⟨h.indices, List.pairwise_singleton _ _, fun a ha b hb => ?_⟩
    obtain rfl := List.mem_singleton.mp hb
    have := (h.own a ha).2.2
    omega
  · have := (State.capacity_none hl.capacity).1
    rw [List.length_append, List.length_singleton]
    omega
  · rcases List.mem_append.mp hy with hy | hy
    · exact h.lasts y hy
    · obtain rfl := List.mem_singleton.mp hy
      rw [hm]
      exact mkEntry_lasts
  · obtain ⟨hall, hes⟩ := h.apart d hgap hd htl hsolid hapart
    have hsolids : ∀ e ∈ v.schedule ++ c.entries, e.Solid d := by
      intro e he
      rcases List.mem_append.mp he with he | he
      · exact hsolid e he
      · exact (hes e he).1
    refine ⟨?_, fun y hy => ?_⟩
    · rw [← List.append_assoc]
      refine List.pairwise_append.mpr ⟨hall, List.pairwise_singleton _ _, fun a ha b hb => ?_⟩
      obtain rfl := List.mem_singleton.mp hb
      exact fits_apart hl.fit hd hsolids hgap hall ha
    · rcases List.mem_append.mp hy with hy | hy
      · exact hes y hy
      · obtain rfl := List.mem_singleton.mp hy
        refine ⟨hm ▸ mkEntry_solid hd htl hstart, fun x hx hex => ?_⟩
        exact fits_executing hl.fit hd hsolids (List.mem_append_left _ hx) hex

/-- What a walk answers is laid: its entries and its stays. -/
theorem State.Walked.laid {s : State} {slot first : Nat} {c : Cursor} (h : s.Walked slot first c) :
    ∃ (v : State) (w : Trip) (lim : Nat), v.schedule = s.schedule ∧ v.timelines = s.timelines ∧ v.cfg.line = s.cfg.line ∧
      w.slot = slot ∧ w.first = first ∧ v.EntriesLaid w c.step c.entries ∧ v.StaysLaid w lim c.stays := by
  obtain ⟨v, w, cur, e, hs, ht, hl, hslot, hfirst, hstep, hentries, hstays, he, hwalk⟩ := h
  have hlaid : v.EntriesLaid w c.step c.entries ∧ ∃ lim, v.StaysLaid w lim c.stays := by
    refine State.walk_keeps
      (P := fun c => w.first ≤ c.step ∧ v.EntriesLaid w c.step c.entries ∧ v.StaysLaid w c.step c.stays)
      (Q := fun c => v.EntriesLaid w c.step c.entries ∧ ∃ lim, v.StaysLaid w lim c.stays) he hwalk ?_ ?_ ?_
    · rintro c c' x m here ⟨hf, hen, hst⟩ hlaid
      exact ⟨hf.trans (by rw [hlaid.step]; exact Nat.le_succ _), hlaid.entries_laid hen, hlaid.stays_laid hf hst⟩
    · rintro c c' x m here hold ⟨hf, hen, hst⟩ hlaid
      exact ⟨hlaid.entries_laid hen, _, hlaid.stays_laid hf hst⟩
    · rw [hentries, hstays]
      exact ⟨by omega, State.EntriesLaid.nil _ _ _, State.StaysLaid.nil _ _ _⟩
  exact ⟨v, w, hlaid.2.choose, hs, ht, hl, hslot, hfirst, hlaid.1, hlaid.2.choose_spec⟩

end

/-! ### The timelines of a booking (R89) -/

theorem State.timeline_of_mem {s : State} {l : List Interval} (h : l ∈ s.timelines) :
    ∃ n, 1 ≤ n ∧ n ≤ s.timelines.length ∧ l = s.timeline n := by
  obtain ⟨i, hi, rfl⟩ := List.mem_iff_getElem.mp h
  exact ⟨i + 1, by omega, hi, by simp [State.timeline, atStation, hi]⟩

/-- A timeline is one of the table, or, at no station of it, empty. -/
theorem State.timeline_mem_or (s : State) (n : Nat) : s.timeline n ∈ s.timelines ∨ s.timeline n = [] :=
  atStation_mem_or _ _ _

theorem State.timeline_addInterval (s : State) {n : Nat} (m : Nat) (iv : Interval) (h1 : 1 ≤ n)
    (hn : n ≤ s.timelines.length) :
    (s.addInterval m iv).timeline n = if m = n then insertInterval iv (s.timeline n) else s.timeline n := by
  split
  · next h => subst h; exact State.timeline_setTimeline_same s _ h1 hn
  · next h => exact State.timeline_setTimeline_other s _ (Ne.symm h)

/-- Intervals added one after the other take their places each in the timeline of its station. -/
theorem State.timeline_addIntervals (stays : List (Nat × Interval)) (s : State) {n : Nat} (h1 : 1 ≤ n)
    (hn : n ≤ s.timelines.length) :
    (stays.foldl (fun u e => u.addInterval e.1 e.2) s).timeline n =
      (staysIn stays n).foldl (fun l iv => insertInterval iv l) (s.timeline n) := by
  induction stays generalizing s with
  | nil => rfl
  | cons q stays ih =>
    rw [List.foldl_cons, ih _ (by rwa [State.addInterval_timelines_length]), State.timeline_addInterval s _ _ h1 hn]
    by_cases hq : q.1 = n <;> simp [staysIn, hq]

theorem State.timeline_mapTimelines (s : State) (f : List Interval → List Interval) (hf : f [] = []) (n : Nat) :
    (s.mapTimelines f).timeline n = f (s.timeline n) := by
  cases n with
  | zero => exact hf.symm
  | succ n =>
    simp only [State.timeline, State.mapTimelines, atStation, List.getD_eq_getElem?_getD, List.getElem?_map]
    cases s.timelines[n]? <;> simp [hf]

/-- After a booking every timeline holds what the chain does not replace and the chain's stays there (R79, R89). -/
theorem State.bookPlans_timeline {s v : State} {w : Trip} {c : Cursor} {l : List Interval} (ht : v.timelines = s.timelines)
    (hl : l ∈ (s.bookPlans w.slot w.first c).timelines) :
    ∃ n, l = (staysIn c.stays n).foldl (fun l iv => insertInterval iv l) (v.foreign w n) := by
  obtain ⟨n, h1, hn, rfl⟩ := State.timeline_of_mem hl
  rw [State.bookPlans_timelines_length] at hn
  refine ⟨n, ?_⟩
  have htimeline : v.timeline n = s.timeline n := by rw [State.timeline, ht]; rfl
  rw [State.bookPlans, State.timeline_addIntervals _ _ h1 (by simpa [State.removeStaysFrom, State.mapTimelines] using hn),
    State.removeStaysFrom, State.timeline_mapTimelines _ _ rfl, State.foreign, htimeline]
  rfl

end Sys2Proof.Machine
end

section
/-! PROOFS. Every command keeps the plans: their room, their order, and spans, travel, moves and intervals apart (5.1 to
5.3). -/

namespace Sys2Proof.Machine

/-! ### What acts do to the plans -/

/-- The plans an act leaves: as they were; trimmed; with a chain booked; with a firm entry slid; with a chain re-booked;
with the first move begun. -/
inductive State.Replanned (s : State) : List Entry → List (List Interval) → Prop
  | same : Replanned s s.schedule s.timelines
  | trim {l ls} (hs : l.Sublist s.schedule) (ht : List.Forall₂ (List.SublistForall₂ Interval.Eased) ls s.timelines) :
      Replanned s l ls
  | book {slot first c} (hw : s.Walked slot first c) :
      Replanned s (c.entries.foldl (fun l m => insertEntry m l) (dropBooked slot s.schedule))
        (s.bookPlans slot first c).timelines
  | slide {e p} (hf : s.slideFits e p = true) :
      Replanned s (s.schedule.map (slideEntry e p)) (s.slidePlans e p).timelines
  | rebook {e p} (hp : s.rebookPasses e p) (hmax : p ≤ Config.maxSecond) :
      Replanned s (s.rebookPlan e p) (s.rebookLines e p)
  | start : Replanned s s.markExecuting.schedule s.timelines

section
variable {sc : Scope} {s t : State}

/-- An act outside the settings' own leaves the line record, and the plans as `State.Replanned` says. -/
theorem State.Act.replanned (h : State.Act sc s t) (hset : sc.settings = false) :
    t.cfg.line = s.cfg.line ∧ s.Replanned t.schedule t.timelines := by
  cases h with
  | quiet hq => rw [hq.cfg, hq.schedule, hq.timelines]; exact ⟨rfl, .same⟩
  | relink _ hr => rw [hr.eq]; exact ⟨rfl, .same⟩
  | trim _ hs ht => exact ⟨rfl, .trim hs ht⟩
  | book _ hw =>
    have h := State.Replanned.book hw
    rw [State.bookPlans_eq] at h ⊢
    exact ⟨rfl, h⟩
  | slide _ hf => exact ⟨rfl, .slide hf⟩
  | rebook _ hp hmax => exact ⟨rfl, .rebook hp hmax⟩
  | start =>
    have h := State.Replanned.start (s := s)
    rw [State.markExecuting_eq] at h ⊢
    exact ⟨rfl, h⟩
  | set _ h => rw [hset] at h; cases h
  | tune _ h => rw [hset] at h; cases h
  | _ => exact ⟨rfl, .same⟩

/-- Acts that may not plan leave the plans. -/
theorem State.Acts.plans_kept (h : s.Acts sc t) (hp : sc.plans = false) (hst : sc.starts = false) :
    t.schedule = s.schedule ∧ t.timelines = s.timelines := by
  refine h.keeps (P := fun u => u.schedule = s.schedule ∧ u.timelines = s.timelines) (fun {a b} hact ha => ?_) ⟨rfl, rfl⟩
  cases hact with
  | quiet hq => rw [hq.schedule, hq.timelines]; exact ha
  | relink _ hr => rw [hr.eq]; exact ha
  | trim h => rw [hp] at h; cases h
  | book h => rw [hp] at h; cases h
  | slide h => rw [hp] at h; cases h
  | rebook h => rw [hp] at h; cases h
  | start h => rw [hst] at h; cases h
  | _ => exact ha

/-- One change of the plans after the other, the line record as it is. -/
def State.Replans (s t : State) : Prop :=
  Relation.ReflTransGen (fun a b : State => b.cfg.line = a.cfg.line ∧ a.Replanned b.schedule b.timelines) s t

theorem State.Replans.keeps {P : State → Prop} (h : s.Replans t)
    (hstep : ∀ {a b : State}, b.cfg.line = a.cfg.line → a.Replanned b.schedule b.timelines → P a → P b) (hs : P s) :
    P t := by
  induction h with
  | refl => exact hs
  | tail _ hab ih => exact hstep hab.1 hab.2 ih

/-- Plans and line record as they were. -/
theorem State.Replans.of_eq (hl : t.cfg.line = s.cfg.line) (hs : t.schedule = s.schedule)
    (ht : t.timelines = s.timelines) : s.Replans t :=
  Relation.ReflTransGen.single ⟨hl, by rw [hs, ht]; exact .same⟩

theorem State.Replans.trans {u : State} (h : s.Replans t) (h' : t.Replans u) : s.Replans u :=
  Relation.ReflTransGen.trans h h'

theorem State.Acts.replans (h : s.Acts sc t) (hset : sc.settings = false) : s.Replans t :=
  h.keeps (P := fun u => s.Replans u) (fun hact ha => ha.tail (hact.replanned hset)) Relation.ReflTransGen.refl

theorem State.replans_drive (s : State) : s.Replans s.drive :=
  .of_eq (by rw [State.drive_cfg]) s.quiet_drive.schedule s.quiet_drive.timelines

/-- What a command does to the plans: changes one after the other under one line record; none; or it empties them. -/
theorem exec_replans {c : Instr} (h : exec c s = .next t) :
    s.Replans t ∨ (t.schedule = s.schedule ∧ t.timelines = s.timelines) ∨
      (t.schedule = [] ∧ ∀ l ∈ t.timelines, l = []) := by
  have hscope : (plantScope c).settings = false := by unfold plantScope; split <;> rfl
  have hlatch (inp : Inputs) : s.Replans (s.latch inp) := .of_eq rfl rfl rfl
  have hreset (u : State) (run : RunState) (inp : Inputs) : ∀ l ∈ (u.fullReset run inp).timelines, l = [] :=
    fun l hl => List.eq_of_mem_replicate hl
  cases exec_course h with
  | stay => exact .inl Relation.ReflTransGen.refl
  | reset => exact .inr (.inr ⟨rfl, hreset _ _ _⟩)
  | renew => exact .inr (.inr ⟨rfl, hreset _ _ _⟩)
  | halt => right; left; rw [State.halt_frame]; exact ⟨rfl, rfl⟩
  | @load inp u _ hu =>
    right; left
    rw [u.quiet_drive.schedule, u.quiet_drive.timelines]
    exact hu.plans_kept rfl rfl
  | @second order inp u _ _ hu =>
    refine .inl ((hlatch inp).trans (.trans ?_ ((hu.replans hscope).trans u.replans_drive)))
    exact .of_eq rfl rfl rfl
  | @served kind u _ hu =>
    obtain ⟨p, w, hw, -, ht, -⟩ := hu
    have hlink : s.Replans w := (hlatch (Laws.Pins.pinsOf c)).trans (by rw [hw.eq]; exact .of_eq rfl rfl rfl)
    have hend : ((catalogue kind).2 p w).1.Replans u.drive := by
      refine .trans ?_ u.replans_drive
      rw [ht.eq]
      exact .of_eq rfl rfl rfl
    by_cases hset : (scopeOf kind).settings = false
    · left
      refine hlink.trans (.trans ?_ hend)
      rcases owner_acts w kind p with ha | ⟨-, ha⟩
      · exact ha.replans hset
      · exact .trans (t := w.dropCompletions) (.of_eq rfl rfl rfl) (ha.replans hset)
    · have hplans : (scopeOf kind).plans = false ∧ (scopeOf kind).starts = false := by
        unfold scopeOf at hset ⊢
        split at hset <;> simp_all
      right; left
      rw [u.quiet_drive.schedule, u.quiet_drive.timelines, ht.eq]
      rcases owner_acts w kind p with ha | ⟨-, ha⟩
      all_goals
        obtain ⟨h1, h2⟩ := ha.plans_kept hplans.1 hplans.2
        simp only [h1, h2]
        rw [hw.eq]
        exact ⟨rfl, rfl⟩
  | @acts u hu => exact .inl ((hlatch _).trans ((hu.replans hscope).trans u.replans_drive))

end

/-! ### Timelines -/

section
variable {s : State} {l : List Entry} {ls : List (List Interval)}

theorem forall₂_partner {α β : Type} {R : α → β → Prop} {a : List α} {b : List β} (h : List.Forall₂ R a b) {x : α}
    (hx : x ∈ a) : ∃ y ∈ b, R x y := by
  obtain ⟨i, hi, rfl⟩ := List.mem_iff_getElem.mp hx
  exact ⟨b[i]'(h.length_eq ▸ hi), List.getElem_mem _, h.get hi _⟩

/-- A property of pairs that easing keeps, a trimmed timeline keeps. -/
theorem pairwise_of_trimmed {R : Interval → Interval → Prop} {a b : List Interval}
    (hR : ∀ {x x' y y' : Interval}, x'.Eased x → y'.Eased y → R x y → R x' y')
    (h : List.SublistForall₂ Interval.Eased a b) (hb : b.Pairwise R) : a.Pairwise R := by
  obtain ⟨m, hm, hs⟩ := List.sublistForall₂_iff.mp h
  replace hb := hb.sublist hs
  clear h hs
  induction hm with
  | nil => exact .nil
  | @cons x' x a m hx hm ih =>
    obtain ⟨hhead, htail⟩ := List.pairwise_cons.mp hb
    refine List.pairwise_cons.mpr ⟨fun y' hy' => ?_, ih htail⟩
    obtain ⟨y, hy, hyy⟩ := forall₂_partner hm hy'
    exact hR hx hyy (hhead y hy)

theorem Interval.Eased.start_eq {a b : Interval} (h : a.Eased b) : a.start = b.start := by
  rcases h with rfl | rfl <;> rfl

theorem Interval.Eased.inOrder {x x' y y' : Interval} (hx : x'.Eased x) (hy : y'.Eased y) (h : x.inOrder y) :
    x'.inOrder y' := by
  unfold Interval.inOrder at *
  rw [hx.start_eq, hy.start_eq]
  exact h

theorem Interval.Eased.precedes {x x' y y' : Interval} (hx : x'.Eased x) (hy : y'.Eased y) (h : x.precedes y) :
    x'.precedes y' := by
  obtain ⟨hle, hstop, hid⟩ := h
  refine ⟨by rw [hx.start_eq, hy.start_eq]; exact hle, fun z hz => ?_, ?_⟩
  · rw [hy.start_eq]
    rcases hx with rfl | rfl
    · exact hstop z hz
    · cases hz
  · rcases hx with rfl | rfl <;> rcases hy with rfl | rfl <;> exact hid

/-- A timeline after a slide is one of before, or one of before with one stay moved that fits (R101). -/
theorem State.slidePlans_line {e : Entry} {p : Nat} (hf : s.slideFits e p = true) {m : List Interval}
    (h : m ∈ (s.slidePlans e p).timelines) :
    m ∈ s.timelines ∨ ∃ (n step : Nat) (f : Interval → Interval), (∀ iv, (f iv).slot = iv.slot ∧ (f iv).step = iv.step) ∧
      movedFits (·.isStay e.slot step) f (s.timeline n) = true ∧ m = moveStays (·.isStay e.slot step) f (s.timeline n) := by
  simp only [State.slideFits, Bool.and_eq_true, bne_iff_ne] at hf
  obtain ⟨⟨hne, hsrc⟩, hdst⟩ := hf
  rcases mem_setStation h with rfl | h
  · refine .inr ⟨e.dst, e.index + 1, moveDestStay s.cfg.line.hold e.duration p, fun iv => ⟨rfl, rfl⟩, hdst, ?_⟩
    rw [State.timeline_setTimeline_other _ _ (Ne.symm hne)]
    rfl
  · rcases mem_setStation h with rfl | h
    · exact .inr ⟨e.src, e.index, moveSourceStay s.cfg.line.tl e.drain p, fun iv => ⟨rfl, rfl⟩, hsrc, rfl⟩
    · exact .inl h

/-- What the chain does not replace of a timeline stands in it. -/
theorem State.foreign_sublist {v : State} (ht : v.timelines = s.timelines) (w : Trip) (n : Nat) :
    (v.foreign w n).Sublist (s.timeline n) := by
  have htimeline : v.timeline n = s.timeline n := by rw [State.timeline, ht]; rfl
  rw [State.foreign, htimeline]
  exact List.filter_sublist

/-- What every timeline of the table has, and an empty one, the timeline of every station has. -/
theorem State.timeline_has {P : List Interval → Prop} (hnil : P []) (h : ∀ m ∈ s.timelines, P m) (n : Nat) :
    P (s.timeline n) := by
  rcases s.timeline_mem_or n with hm | hm
  · exact h _ hm
  · rw [hm]; exact hnil

/-- Timelines in order stay in order (R80). -/
theorem State.Replanned.lines_inOrder (h : s.Replanned l ls) (hs : ∀ m ∈ s.timelines, m.Pairwise Interval.inOrder) :
    ∀ m ∈ ls, m.Pairwise Interval.inOrder := by
  intro m hm
  cases h with
  | same => exact hs m hm
  | trim _ ht =>
    obtain ⟨b, hb, htrim⟩ := forall₂_partner ht hm
    exact pairwise_of_trimmed Interval.Eased.inOrder htrim (hs b hb)
  | book hw =>
    obtain ⟨v, w, lim, -, ht, -, rfl, rfl, -, -⟩ := hw.laid
    obtain ⟨n, rfl⟩ := State.bookPlans_timeline ht hm
    refine insertIntervals_inOrder _ (List.Pairwise.sublist (State.foreign_sublist ht w n) ?_)
    exact State.timeline_has .nil hs n
  | slide hf =>
    rcases State.slidePlans_line hf hm with hm | ⟨n, step, f, -, -, rfl⟩
    · exact hs m hm
    · exact sortIntervals_inOrder _
  | rebook =>
    obtain ⟨b, -, rfl⟩ := List.mem_map.mp hm
    exact sortIntervals_inOrder _
  | start => exact hs m hm

/-- Timelines with room for no more than eight keep to it (R80, R88). -/
theorem State.Replanned.lines_room (h : s.Replanned l ls) (hs : ∀ m ∈ s.timelines, m.length ≤ 8) :
    ∀ m ∈ ls, m.length ≤ 8 := by
  intro m hm
  cases h with
  | same => exact hs m hm
  | trim _ ht =>
    obtain ⟨b, hb, htrim⟩ := forall₂_partner ht hm
    obtain ⟨q, hq, hsub⟩ := List.sublistForall₂_iff.mp htrim
    exact hq.length_eq.le.trans (hsub.length_le.trans (hs b hb))
  | book hw =>
    obtain ⟨v, w, lim, -, ht, -, rfl, rfl, -, hstays⟩ := hw.laid
    obtain ⟨n, rfl⟩ := State.bookPlans_timeline ht hm
    rw [(insertIntervals_perm _ _).length_eq, List.length_append]
    rcases hstays.room n with h | h
    · have := State.timeline_has (P := fun m => m.length ≤ 8) (Nat.zero_le _) hs n
      have := (State.foreign_sublist ht w n).length_le
      rw [h, List.length_nil]
      omega
    · omega
  | slide hf =>
    rcases State.slidePlans_line hf hm with hm | ⟨n, step, f, -, -, rfl⟩
    · exact hs m hm
    · rw [moveStays, (sortIntervals_perm _).length_eq, List.length_map]
      exact State.timeline_has (P := fun m => m.length ≤ 8) (Nat.zero_le _) hs n
  | rebook =>
    obtain ⟨b, hb, rfl⟩ := List.mem_map.mp hm
    rw [(sortIntervals_perm _).length_eq, List.length_map]
    exact hs b hb
  | start => exact hs m hm

/-- Intervals that lie apart stay apart (R79, R80, R85, R101, R102). -/
theorem State.Replanned.lines_precede (h : s.Replanned l ls) (hs : ∀ m ∈ s.timelines, m.Pairwise Interval.precedes) :
    ∀ m ∈ ls, m.Pairwise Interval.precedes := by
  intro m hm
  cases h with
  | same => exact hs m hm
  | trim _ ht =>
    obtain ⟨b, hb, htrim⟩ := forall₂_partner ht hm
    exact pairwise_of_trimmed Interval.Eased.precedes htrim (hs b hb)
  | book hw =>
    obtain ⟨v, w, lim, -, ht, -, rfl, rfl, -, hstays⟩ := hw.laid
    obtain ⟨n, rfl⟩ := State.bookPlans_timeline ht hm
    refine insertIntervals_precedes (List.Pairwise.sublist (State.foreign_sublist ht w n) ?_) (hstays.clear n)
      (hstays.foreign n)
    exact State.timeline_has .nil hs n
  | slide hf =>
    rcases State.slidePlans_line hf hm with hm | ⟨n, step, f, hfs, hfits, rfl⟩
    · exact hs m hm
    · exact moveStays_precedes hfs (State.timeline_has .nil hs n) hfits
  | rebook hp =>
    have hfits := hp.2 m hm
    obtain ⟨b, hb, rfl⟩ := List.mem_map.mp hm
    exact shiftedLine_precedes (hs b hb) hfits
  | start => exact hs m hm

/-! ### The schedule -/

/-- The schedule of a part is its BOOKED entries of a rack and the others. -/
theorem perm_booked (slot : Nat) (l : List Entry) : (l.filter (Entry.bookedFor slot) ++ dropBooked slot l).Perm l :=
  List.filter_append_perm _ l

theorem State.rebookPlan_perm (s : State) (e : Entry) (p : Nat) :
    (s.rebookPlan e p).Perm (s.rebookMoved e p ++ dropBooked e.slot s.schedule) := insertEntries_perm _ _

/-- The schedule keeps to its room of 192 (R76, R88). -/
theorem State.Replanned.schedule_room (h : s.Replanned l ls) (hs : s.schedule.length ≤ 192) : l.length ≤ 192 := by
  cases h with
  | same => exact hs
  | trim h => exact h.length_le.trans hs
  | @book slot first c hw =>
    obtain ⟨v, w, lim, hv, -, -, -, -, hentries, -⟩ := hw.laid
    rw [(insertEntries_perm _ _).length_eq, List.length_append]
    have hdrop : (dropBooked slot s.schedule).length ≤ s.schedule.length := List.length_filter_le _ _
    rcases hentries.room with h | h
    · rw [h, List.length_nil]; omega
    · rw [hv] at h; omega
  | slide => rw [List.length_map]; exact hs
  | rebook =>
    rw [(s.rebookPlan_perm _ _).length_eq, List.length_append, State.rebookMoved, List.length_map, ← List.length_append,
      (perm_booked _ _).length_eq]
    exact hs
  | start =>
    unfold State.markExecuting
    split
    · next h => rw [h] at hs; exact hs
    · exact hs

/-- The schedule stays in order (R76). -/
theorem State.Replanned.schedule_inOrder (h : s.Replanned l ls) (hs : s.schedule.Pairwise Entry.inOrder) :
    l.Pairwise Entry.inOrder := by
  cases h with
  | same => exact hs
  | trim h => exact hs.sublist h
  | book => exact insertEntries_inOrder _ (hs.sublist List.filter_sublist)
  | @slide e p =>
    refine List.pairwise_map.mpr (hs.imp fun {a b} hab => ?_)
    have hsame (m : Entry) : (slideEntry e p m).spanStart = m.spanStart := by unfold slideEntry; split <;> rfl
    rw [Entry.inOrder, hsame, hsame]
    exact hab
  | rebook => exact insertEntries_inOrder _ (hs.sublist List.filter_sublist)
  | start =>
    unfold State.markExecuting
    split
    · next h =>
      rw [h] at hs
      obtain ⟨hhead, htail⟩ := List.pairwise_cons.mp hs
      exact List.pairwise_cons.mpr ⟨hhead, htail⟩
    · exact hs

/-- Two BOOKED entries are two moves (R74, R77). -/
def Entry.another (a b : Entry) : Prop :=
  a.executing = false → b.executing = false → a.slot ≠ b.slot ∨ a.index ≠ b.index

theorem Entry.another.symm {a b : Entry} (h : a.another b) : b.another a :=
  fun hb ha => (h ha hb).imp Ne.symm Ne.symm

theorem shiftEntry_same (guard : Nat) (e : Entry) (p : Nat) (m : Entry) :
    (shiftEntry guard e p m).slot = m.slot ∧ (shiftEntry guard e p m).index = m.index ∧
      (shiftEntry guard e p m).executing = m.executing := by
  unfold shiftEntry
  split <;> exact ⟨rfl, rfl, rfl⟩

/-- The BOOKED entries stay different moves (R74). -/
theorem State.Replanned.another (h : s.Replanned l ls) (hs : s.schedule.Pairwise Entry.another) :
    l.Pairwise Entry.another := by
  cases h with
  | same => exact hs
  | trim h => exact hs.sublist h
  | book hw =>
    obtain ⟨v, w, lim, -, -, -, rfl, -, hentries, -⟩ := hw.laid
    refine ((insertEntries_perm _ _).pairwise_iff fun {a b} h => Entry.another.symm h).mpr
      (List.pairwise_append.mpr ⟨?_, hs.sublist List.filter_sublist, fun a ha b hb _ hbx => ?_⟩)
    · exact hentries.indices.imp fun h _ _ => .inr h
    · rcases (mem_dropBooked.mp hb).2 with h | h
      · exact .inl (by rw [(hentries.own a ha).1]; exact Ne.symm h)
      · rw [hbx] at h; cases h
  | @slide e p =>
    refine List.pairwise_map.mpr (hs.imp fun {a b} hab => ?_)
    have hsame (m : Entry) : (slideEntry e p m).slot = m.slot ∧ (slideEntry e p m).index = m.index ∧
        (slideEntry e p m).executing = m.executing := by unfold slideEntry; split <;> exact ⟨rfl, rfl, rfl⟩
    obtain ⟨ha1, ha2, ha3⟩ := hsame a
    obtain ⟨hb1, hb2, hb3⟩ := hsame b
    rw [Entry.another, ha1, ha2, ha3, hb1, hb2, hb3]
    exact hab
  | @rebook e p =>
    refine ((s.rebookPlan_perm e p).pairwise_iff fun {a b} h => Entry.another.symm h).mpr ?_
    have hbooked := ((perm_booked e.slot s.schedule).pairwise_iff fun {a b} h => Entry.another.symm h).mpr hs
    obtain ⟨hmoved, hbase, hcross⟩ := List.pairwise_append.mp hbooked
    refine List.pairwise_append.mpr ⟨List.pairwise_map.mpr (hmoved.imp fun {a b} hab => ?_), hbase, fun a ha b hb => ?_⟩
    · obtain ⟨ha1, ha2, ha3⟩ := shiftEntry_same s.cfg.line.guard e p a
      obtain ⟨hb1, hb2, hb3⟩ := shiftEntry_same s.cfg.line.guard e p b
      rw [Entry.another, ha1, ha2, ha3, hb1, hb2, hb3]
      exact hab
    · obtain ⟨m, hm, rfl⟩ := List.mem_map.mp ha
      obtain ⟨h1, h2, h3⟩ := shiftEntry_same s.cfg.line.guard e p m
      rw [Entry.another, h1, h2, h3]
      exact hcross m hm b hb
  | start =>
    unfold State.markExecuting
    split
    · next e rest h =>
      rw [h] at hs
      obtain ⟨-, hrest⟩ := List.pairwise_cons.mp hs
      exact List.pairwise_cons.mpr ⟨fun b _ hx _ => Bool.noConfusion hx, hrest⟩
    · exact hs

section
variable {d : Nat → Nat → Nat}

theorem shiftEntry_solid {guard p : Nat} {e m : Entry} (hp : p ≤ Config.maxSecond) (hm : m.Solid d) :
    (shiftEntry guard e p m).Solid d := by
  have hdur := hm.duration
  have htravel := hm.travel
  unfold shiftEntry
  split
  · constructor <;> simp only [addSec, Config.maxSecond] at * <;> omega
  · have hspan : shiftSec m.spanStart e.start p ≤ Config.maxSecond := min_le_right _ _
    constructor <;> simp only [addSec, Config.maxSecond] at * <;> omega

theorem shiftEntry_lasts {tp guard p : Nat} {e m : Entry} (hm : m.Lasts tp) : (shiftEntry guard e p m).Lasts tp := by
  obtain ⟨htravel, hspan⟩ := hm
  unfold shiftEntry
  split
  · refine ⟨htravel, ?_⟩
    simp only [addSec, Config.maxSecond]
    omega
  · refine ⟨htravel, ?_⟩
    simp only [addSec, Config.maxSecond]
    omega

/-- Entries lasting as long as their moves do so still (R7, R75). -/
theorem State.Replanned.lasts (h : s.Replanned l ls) (hs : ∀ e ∈ s.schedule, e.Lasts s.cfg.line.tp) :
    ∀ e ∈ l, e.Lasts s.cfg.line.tp := by
  intro m hm
  cases h with
  | same => exact hs m hm
  | trim h => exact hs m (h.subset hm)
  | book hw =>
    obtain ⟨v, w, lim, -, -, hline, rfl, -, hentries, -⟩ := hw.laid
    rcases mem_insertAll.mp hm with hm | hm
    · exact hs m (List.mem_of_mem_filter hm)
    · exact hline ▸ hentries.lasts m hm
  | slide =>
    obtain ⟨b, hb, rfl⟩ := List.mem_map.mp hm
    unfold slideEntry
    split
    · exact hs b hb
    · exact hs b hb
  | @rebook e p =>
    rcases mem_insertAll.mp hm with hm | hm
    · exact hs m (List.mem_of_mem_filter hm)
    · obtain ⟨b, hb, rfl⟩ := List.mem_map.mp hm
      exact shiftEntry_lasts (hs b (List.mem_of_mem_filter hb))
  | start =>
    unfold State.markExecuting at hm
    split at hm
    · next e rest h =>
      rcases List.mem_cons.mp hm with rfl | hm
      · exact hs e (by rw [h]; exact List.mem_cons_self)
      · exact hs m (by rw [h]; exact List.mem_cons_of_mem _ hm)
    · exact hs m hm

/-- Entries put in their places among others leave the others as they were. -/
theorem filter_insertEntries {q : Entry → Bool} {ms : List Entry} (hms : ∀ m ∈ ms, q m = false) (l : List Entry) :
    (ms.foldl (fun l m => insertEntry m l) l).filter q = l.filter q := by
  have hone {m : Entry} (hm : q m = false) (l : List Entry) : (insertEntry m l).filter q = l.filter q := by
    induction l with
    | nil => simp [insertEntry, hm]
    | cons e es ih =>
      unfold insertEntry
      split
      · rw [List.filter_cons_of_neg (by simp [hm])]
      · rw [List.filter_cons, List.filter_cons, ih]
  induction ms generalizing l with
  | nil => rfl
  | cons m ms ih =>
    rw [List.foldl_cons, ih (fun x hx => hms x (List.mem_cons_of_mem _ hx)), hone (hms m List.mem_cons_self)]

/-- A re-booking whose every shifted entry fits among the others keeps the spans apart (R76, R102). -/
theorem State.rebookPlan_spaced {e : Entry} {p : Nat} (hgap : Gap d) (hd : GapIn d s.cfg.line.tp)
    (hs : Spaced d s.schedule) (hp : s.rebookPasses e p) (hmax : p ≤ Config.maxSecond) :
    Spaced d (s.rebookPlan e p) := by
  have hbase : Spaced d (dropBooked e.slot s.schedule) := hs.of_sublist List.filter_sublist
  have hmoved : ∀ m ∈ s.rebookMoved e p, m.Solid d ∧ m.executing = false := by
    intro m hm
    obtain ⟨b, hb, rfl⟩ := List.mem_map.mp hm
    refine ⟨shiftEntry_solid hmax (hs.solid b (List.mem_of_mem_filter hb)), ?_⟩
    rw [(shiftEntry_same _ _ _ b).2.2]
    have := List.of_mem_filter hb
    simp only [Entry.bookedFor, Bool.and_eq_true, Bool.not_eq_true'] at this
    exact this.2
  have hsolid : ∀ m ∈ s.rebookPlan e p, m.Solid d := by
    intro m hm
    rcases mem_insertAll.mp hm with hm | hm
    · exact hbase.solid m hm
    · exact (hmoved m hm).1
  refine ⟨hsolid, ?_, ?_⟩
  · refine before_of_fits (p := fun m => m ∈ s.rebookMoved e p) hgap hd hsolid
      (insertEntries_inOrder _ hbase.inOrder) (fun m _ hm => hp.1 m hm) ?_
    rw [State.rebookPlan, filter_insertEntries (fun m hm => by simp [hm])]
    exact hbase.before.sublist List.filter_sublist
  · refine insertEntries_onlyFirstExecutes hbase.first (fun m hm => (hmoved m hm).2) fun m hm x hx hex => ?_
    have hne : x ≠ m := fun h => by rw [h, (hmoved m hm).2] at hex; cases hex
    have hmem : x ∈ (s.rebookPlan e p).erase m := (List.mem_erase_of_ne hne).mpr (mem_insertAll.mpr (.inl hx))
    exact fits_executing (hp.1 m hm) hd (fun y hy => hsolid y (List.mem_of_mem_erase hy)) hmem hex

/-- Spans that lie apart stay apart, the EXECUTING entry first (R75 to R77, R85, R101, R102). -/
theorem State.Replanned.spaced (h : s.Replanned l ls) (hgap : Gap d) (hd : GapIn d s.cfg.line.tp)
    (htl : 1 ≤ s.cfg.line.tl) (hs : Spaced d s.schedule) : Spaced d l := by
  cases h with
  | same => exact hs
  | trim h => exact hs.of_sublist h
  | @book slot first c hw =>
    obtain ⟨v, w, lim, hv, -, hline, rfl, -, hentries, -⟩ := hw.laid
    obtain ⟨hall, hes⟩ := hentries.apart d hgap (hline ▸ hd) (hline ▸ htl) (hv ▸ hs.solid)
      (hv ▸ hs.before.imp Or.inl)
    rw [hv] at hall hes
    have hsub : (dropBooked w.slot s.schedule).Sublist s.schedule := List.filter_sublist
    exact (hs.of_sublist hsub).insert (fun m hm => ⟨(hes m hm).1, (hentries.own m hm).2.1⟩)
      (hall.sublist (hsub.append_right _)) fun m hm x hx hex => (hes m hm).2 x (hsub.subset hx) hex
  | @slide e p =>
    have hsame (m : Entry) : slideEntry e p m = { m with start := (slideEntry e p m).start } := by
      unfold slideEntry; split <;> rfl
    refine ⟨fun m hm => ?_, List.pairwise_map.mpr (hs.before.imp fun {a b} hab => ?_), fun m hm => ?_⟩
    · obtain ⟨b, hb, rfl⟩ := List.mem_map.mp hm
      rw [hsame]
      exact ⟨(hs.solid b hb).duration, (hs.solid b hb).bound, (hs.solid b hb).span, (hs.solid b hb).travel, (hs.solid b hb).reach⟩
    · rw [hsame a, hsame b]
      exact hab
    · rw [← List.map_tail] at hm
      obtain ⟨b, hb, rfl⟩ := List.mem_map.mp hm
      rw [hsame]
      exact hs.first b hb
  | rebook hp hmax => exact State.rebookPlan_spaced hgap hd hs hp hmax
  | start =>
    unfold State.markExecuting
    split
    · next e rest h =>
      rw [h] at hs
      obtain ⟨hhead, htail⟩ := List.pairwise_cons.mp hs.before
      refine ⟨fun m hm => ?_, List.pairwise_cons.mpr ⟨hhead, htail⟩, hs.first⟩
      rcases List.mem_cons.mp hm with rfl | hm
      · have he := hs.solid e List.mem_cons_self
        exact ⟨he.duration, he.bound, he.span, he.travel, he.reach⟩
      · exact hs.solid m (List.mem_cons_of_mem _ hm)
    · exact hs

end

end

/-! ### Commands -/

/-- Spans apart are spans apart without a gap (R75 to R77). -/
theorem State.spansApart_iff {s : State} : s.spansApart ↔ Spaced (fun _ _ => 0) s.schedule := by
  constructor
  · rintro ⟨hbefore, hsolid, hfirst⟩
    have hs : ∀ e ∈ s.schedule, e.Solid fun _ _ => 0 := by
      intro e he
      obtain ⟨hdur, hend, hspan⟩ := hsolid e he
      refine ⟨hdur, hend, hspan, Nat.zero_le _, ?_⟩
      simp only [addSec, Config.maxSecond]
      omega
    refine ⟨hs, hbefore.imp fun h => ?_, hfirst⟩
    exact (min_le_left _ _).trans h
  · rintro ⟨hsolid, hbefore, hfirst⟩
    refine ⟨hbefore.imp_of_mem fun {a b} ha _ hab => hab.spanEnd_le (hsolid a ha), fun e he => ?_, hfirst⟩
    exact ⟨(hsolid e he).duration, (hsolid e he).bound, (hsolid e he).span⟩

/-- Spans and travel apart are spans apart by the travel, every entry lasting long enough (R7, R75, R76). -/
theorem State.travelsApart_iff {s : State} (hspans : s.spansApart) :
    s.travelsApart ↔ Spaced (travelTime s.cfg.line.tp) s.schedule ∧ ∀ e ∈ s.schedule, e.Lasts s.cfg.line.tp := by
  have h0 := State.spansApart_iff.mp hspans
  constructor
  · rintro ⟨hlasts, hnext⟩
    have hs : ∀ e ∈ s.schedule, e.Solid (travelTime s.cfg.line.tp) := by
      intro e he
      obtain ⟨htravel, hspan⟩ := hlasts e he
      refine ⟨(h0.solid e he).duration, (h0.solid e he).bound, (h0.solid e he).span, htravel, ?_⟩
      simp only [addSec, Config.maxSecond]
      omega
    refine ⟨⟨hs, ?_, h0.first⟩, hlasts⟩
    have htrans : IsTrans Entry fun a b => a.Solid (travelTime s.cfg.line.tp) ∧
        a.before (travelTime s.cfg.line.tp) b ∧ b.Solid (travelTime s.cfg.line.tp) :=
      ⟨fun _ _ _ ⟨ha, hab, hb⟩ ⟨_, hbc, hc⟩ => ⟨ha, hab.trans (gap_travelTime _) hb hbc, hc⟩⟩
    have hchain : s.schedule.IsChain fun a b => a.Solid (travelTime s.cfg.line.tp) ∧
        a.before (travelTime s.cfg.line.tp) b ∧ b.Solid (travelTime s.cfg.line.tp) :=
      List.isChain_iff_forall_rel_of_append_cons_cons.mpr fun {a b l₁ l₂} hsplit =>
        ⟨hs a (by simp [hsplit]), hnext l₁.length a b (by simp [hsplit]) (by simp [hsplit]), hs b (by simp [hsplit])⟩
    exact (List.isChain_iff_pairwise.mp hchain).imp fun h => h.2.1
  · rintro ⟨hspaced, hlasts⟩
    refine ⟨hlasts, fun i a b ha hb => ?_⟩
    obtain ⟨hi, rfl⟩ := List.getElem?_eq_some_iff.mp ha
    obtain ⟨hj, rfl⟩ := List.getElem?_eq_some_iff.mp hb
    exact List.pairwise_iff_getElem.mp hspaced.before i (i + 1) hi hj (Nat.lt_succ_self i)

section
variable {c : Instr} {s t : State}

/-- What changes of the plans keep, and is of schedule and timelines alone and holds of empty ones, every command keeps. -/
theorem exec_plans {P : List Entry → List (List Interval) → Prop} (h : exec c s = .next t)
    (hstep : ∀ {a : State} {l ls}, a.Replanned l ls → P a.schedule a.timelines → P l ls)
    (hempty : ∀ ls : List (List Interval), (∀ l ∈ ls, l = []) → P [] ls) (hs : P s.schedule s.timelines) :
    P t.schedule t.timelines := by
  rcases exec_replans h with hr | ⟨hsch, htl⟩ | ⟨hsch, htl⟩
  · exact hr.keeps (P := fun u => P u.schedule u.timelines) (fun _ hab ha => hstep hab ha) hs
  · rw [hsch, htl]; exact hs
  · rw [hsch]; exact hempty _ htl

theorem State.Replans.line (h : s.Replans t) : t.cfg.line = s.cfg.line :=
  h.keeps (P := fun u => u.cfg.line = s.cfg.line) (fun hl _ ha => hl.trans ha) rfl

/-- The spans of changed plans lie apart by a gap that the travel time holds. -/
theorem State.Replans.spaced {d : Nat → Nat → Nat} (h : s.Replans t) (hgap : Gap d) (hd : GapIn d s.cfg.line.tp)
    (htl : 1 ≤ s.cfg.line.tl) (hs : Spaced d s.schedule) : Spaced d t.schedule :=
  (h.keeps (P := fun u => u.cfg.line = s.cfg.line ∧ Spaced d u.schedule)
    (fun {a b} hl hab ⟨ha, hsp⟩ => ⟨hl.trans ha, hab.spaced hgap (by rw [ha]; exact hd) (by rw [ha]; exact htl) hsp⟩)
    ⟨rfl, hs⟩).2

theorem exec_spansApart (h : exec c s = .next t) (htl : 1 ≤ s.cfg.line.tl) (hs : s.spansApart) : t.spansApart := by
  have hs0 := State.spansApart_iff.mp hs
  rw [State.spansApart_iff]
  rcases exec_replans h with hr | ⟨hsch, -⟩ | ⟨hsch, -⟩
  · exact hr.spaced gap_zero (fun _ _ => Nat.zero_le _) htl hs0
  · rw [hsch]; exact hs0
  · rw [hsch]; exact Spaced.nil

theorem exec_travelsApart (h : exec c s = .next t) (htl : 1 ≤ s.cfg.line.tl) (hs : s.spansApart) (ht : s.travelsApart)
    (htp : s.schedule = [] ∨ t.cfg.line.tp = s.cfg.line.tp) : t.travelsApart := by
  obtain ⟨hspaced, hlasts⟩ := (State.travelsApart_iff hs).mp ht
  rw [State.travelsApart_iff (exec_spansApart h htl hs)]
  rcases exec_replans h with hr | ⟨hsch, -⟩ | ⟨hsch, -⟩
  · rw [hr.line]
    refine ⟨hr.spaced (gap_travelTime _) (fun _ _ => le_rfl) htl hspaced, ?_⟩
    exact (hr.keeps (P := fun u => u.cfg.line = s.cfg.line ∧ ∀ e ∈ u.schedule, e.Lasts s.cfg.line.tp)
      (fun {a b} hl hab ⟨ha, hall⟩ => ⟨hl.trans ha, by rw [← ha] at hall ⊢; exact hab.lasts hall⟩) ⟨rfl, hlasts⟩).2
  · rw [hsch]
    rcases htp with hnil | htp
    · rw [hnil]; exact ⟨Spaced.nil, nofun⟩
    · rw [htp]; exact ⟨hspaced, hlasts⟩
  · rw [hsch]; exact ⟨Spaced.nil, nofun⟩

end

/-- A step is a command on the queue's rest, or idles. -/
theorem step_cases {s t : State} (h : step s = .next t) :
    t = s ∨ ∃ c rest, exec c { s with pending := rest } = .next t := by
  unfold step at h
  split at h
  · cases h; exact .inl rfl
  · next c rest _ => exact .inr ⟨c, rest, h⟩

/-- Settles O55: every change of the plans keeps each of the six. -/
theorem stepsKeepThePlans : Obligations.StepsKeepThePlans := by
  have hempty {R : List Interval → Prop} (hnil : R []) (ls : List (List Interval)) (h : ∀ l ∈ ls, l = []) :
      ∀ l ∈ ls, R l := fun l hl => h l hl ▸ hnil
  refine ⟨fun s t hs h => ?_, fun s t hs h => ?_, fun s t htl hs h => ?_, fun s t hs h => ?_,
    fun s t htl hs ht h htp => ?_, fun s t hs h => ?_⟩
  · exact step_keeps (P := State.plansBounded) h (fun _ => id) (fun he hu => exec_plans
      (P := fun l ls => l.length ≤ 192 ∧ ∀ m ∈ ls, m.length ≤ 8) he
      (fun hab ⟨h1, h2⟩ => ⟨hab.schedule_room h1, hab.lines_room h2⟩)
      (fun ls h => ⟨Nat.zero_le _, hempty (R := fun l => l.length ≤ 8) (Nat.zero_le _) ls h⟩) hu) hs
  · exact step_keeps (P := State.plansOrdered) h (fun _ => id) (fun he hu => exec_plans
      (P := fun l ls => l.Pairwise Entry.inOrder ∧ ∀ m ∈ ls, m.Pairwise Interval.inOrder) he
      (fun hab ⟨h1, h2⟩ => ⟨hab.schedule_inOrder h1, hab.lines_inOrder h2⟩)
      (fun ls h => ⟨.nil, hempty .nil ls h⟩) hu) hs
  · rcases step_cases h with rfl | ⟨c, rest, he⟩
    · exact hs
    · exact exec_spansApart he htl hs
  · exact step_keeps (P := State.staysApart) h (fun _ => id) (fun he hu => exec_plans
      (P := fun _ ls => ∀ m ∈ ls, m.Pairwise Interval.precedes) he (fun hab => hab.lines_precede)
      (fun ls h => hempty .nil ls h) hu) hs
  · rcases step_cases h with rfl | ⟨c, rest, he⟩
    · exact ht
    · exact exec_travelsApart he htl hs ht htp
  · exact step_keeps (P := State.movesApart) h (fun _ => id) (fun he hu => exec_plans
      (P := fun l _ => l.Pairwise Entry.another) he (fun hab => hab.another) (fun _ _ => .nil) hu) hs

end Sys2Proof.Machine
end

section
/-! PROOFS. Slots come into use by ADMIT and as orphans, moves begin from the front of the schedule, and a station becomes
current to a second rack by a lowering alone (4.1 to 4.8, 5.2). -/

namespace Sys2Proof.Machine

section
variable {c : Instr} {sc : Scope} {s t u v : State}

/-! ### The rack ADMIT takes, and the orphans of the load -/

theorem State.noteStart_rack (s : State) (k : Nat) :
    (s.noteStart k).rack k = (s.rack k).map fun r => { r with nextStart := nextStartIn s.schedule k } := by
  unfold State.noteStart State.modifyRack
  cases h : s.rack k with
  | none => simpa using h
  | some r => exact State.rack_setRack_same _ _ (State.rack_lt h)

/-- A chain that is booked changes of its rack the planned start alone (R53, R89). -/
theorem State.bookChain_rack (s : State) (k first : Nat) (ch : Cursor) :
    ∃ start, (s.bookChain k first ch).rack k = (s.rack k).map fun r => { r with nextStart := start } := by
  have hbook : s.bookChain k first ch =
      (State.bookPlans { s with deferred := s.deferred.filter (·.slot != k) } k first ch).noteStart k := rfl
  rw [hbook, State.noteStart_rack, State.bookPlans_eq]
  exact ⟨_, rfl⟩

/-- The rack an ADMIT has just taken waits for its entry (R58). -/
theorem State.takeAdmission_phase {slot : Nat} {a : Admission} {ch : Cursor} {q : Rack}
    (h : (s.takeAdmission slot a ch).rack slot = some q) : q.phase = .waitingEntry := by
  have hturn (w : State) : w.turn.rack slot = w.rack slot := State.rack_congr (by rw [State.turn_eq]) slot
  unfold State.takeAdmission at h
  simp only [hturn] at h
  obtain ⟨start, hchain⟩ := State.bookChain_rack
    (s.setRack slot (.fresh a.tag (some a.recipe) a.scale a.load a.loadStation .waitingEntry a.loadStation none s.clock)) slot 0 ch
  rw [hchain] at h
  obtain ⟨r, hr, rfl⟩ := Option.map_eq_some_iff.mp h
  rw [State.rack_setRack_same _ _ (by simpa using State.rack_lt hr)] at hr
  cases hr
  rfl

/-- A slot that comes into use by the start-up load holds an orphan (R70). -/
theorem State.loadDone_rack {cause : ResetCause} {k : Nat} {q : Rack} (h : (s.loadDone cause).rack k = some q)
    (hs : s.rack k = none) : q.phase = .orphan ∧ q.recipe = none := by
  have hfold {α : Type} {f : State → α → State} (hf : ∀ w a, (f w a).slots = w.slots) (l : List α) (w : State) :
      (l.foldl f w).slots = w.slots := by
    induction l generalizing w with
    | nil => rfl
    | cons a l ih => rw [List.foldl_cons, ih, hf]
  have hfound (l : List Nat) (w : State) (hw : ∀ q, w.rack k = some q → q.phase = .orphan ∧ q.recipe = none) :
      ∀ q, (l.foldl State.findOrphan w).rack k = some q → q.phase = .orphan ∧ q.recipe = none := by
    induction l generalizing w with
    | nil => exact hw
    | cons n l ih =>
      refine ih _ fun q hq => ?_
      unfold State.findOrphan at hq
      split at hq
      · next j hj =>
        rw [State.rack_congr (State.post_slots _ _ _ _ _ _)] at hq
        by_cases hk : k = j
        · subst hk
          by_cases hlt : k < w.slots.length
          · rw [State.rack_setRack_same _ _ hlt] at hq
            cases hq
            exact ⟨rfl, rfl⟩
          · exact absurd (by simpa using State.rack_lt hq) hlt
        · rw [State.rack_setRack_other _ _ hk] at hq
          exact hw q hq
      · exact hw q hq
  refine hfound _ _ (fun q hq => ?_) q h
  have hlower (w : State) : w.lowerCradles.slots = w.slots := hfold (f := fun t n => t.beginFalling n 0) (fun _ _ => rfl) _ w
  have hassert (w : State) (n : Nat) (f : Flag) : (w.assertFlag n f).slots = w.slots := by
    unfold State.assertFlag
    simp only
    split
    · rfl
    · split
      · rfl
      · exact State.post_slots _ _ _ _ _ _
  have hdoubt (w : State) : w.doubtExhaustion.slots = w.slots := hfold (fun w n => hassert w n _) _ w
  have hfirst (l : List Nat) (w : State) : (l.foldl State.firstPresence w).slots = w.slots := hfold (f := State.firstPresence) (fun _ _ => rfl) _ w
  rw [State.rack_congr (s := s)] at hq
  · rw [hs] at hq; cases hq
  · rw [hfirst]
    simp only [apply_ite State.slots, State.postLine, State.post_slots, hdoubt, hlower, ite_self]
    rfl

/-! ### The course of a command, as the rack table sees it -/

/-- A command's acts start from the rack table and the schedule as they stand, or from a rack an ADMIT has just given its
slot. -/
inductive State.Started (c : Instr) (s u : State) : Prop
  | same (hslots : u.slots = s.slots) (hschedule : u.schedule = s.schedule)
  | admitted {slot : Nat} {a : Admission} (hbrings : s.brings c 0x0F#8) (hready : s.line.state = .ready)
      (horphan : s.orphanInBath = false) (hfree : s.rack slot = none) (hat : s.rackAt a.loadStation = none)
      (hslots : u.slots = s.slots.set slot (some (.fresh a.tag (some a.recipe) a.scale a.load a.loadStation .waitingEntry
        a.loadStation none s.clock))) (hschedule : u.schedule = s.schedule)

/-- Two states of one rack table, completion queue, schedule and clock. -/
def State.SameRacks (v t : State) : Prop :=
  t.slots = v.slots ∧ t.completions = v.completions ∧ t.schedule = v.schedule ∧ t.clock = v.clock

theorem State.sameRacks_drive (s : State) : s.SameRacks s.drive := by
  rw [State.drive_eq]; exact ⟨rfl, rfl, rfl, rfl⟩

theorem State.Relinked.sameRacks (h : s.Relinked t) : s.SameRacks t := by
  rw [h.eq]; exact ⟨rfl, rfl, rfl, rfl⟩

theorem State.SameRacks.trans (h : s.SameRacks t) (h' : t.SameRacks u) : s.SameRacks u :=
  ⟨h'.1.trans h.1, h'.2.1.trans h.2.1, h'.2.2.1.trans h.2.2.1, h'.2.2.2.trans h.2.2.2⟩

/-- A command begins a move only where it is MOVE_START or a line second whose order names the carriage (R96). -/
def startsMoves (c : Instr) : Prop :=
  (∃ inp, c = .moveStart inp) ∨ ∃ order inp, c = .lineSecond order inp ∧ SecondTask.carriage ∈ order

theorem startsMoves_of_plantScope (h : (plantScope c).starts = true) : startsMoves c := by
  cases c
  case moveStart inp => exact .inl ⟨inp, rfl⟩
  case lineSecond order inp => exact .inr ⟨order, inp, rfl, by simpa [plantScope] using h⟩
  all_goals cases h

theorem scopeOf_starts (kind : Byte) : (scopeOf kind).starts = false ∧ (scopeOf kind).orphans = false := by
  unfold scopeOf; split <;> exact ⟨rfl, rfl⟩

/-- Every command but a full reset is acts on the rack table it finds, or on one that ADMIT has given a rack; no act of it
gives a slot, but those of the start-up load. -/
theorem exec_started (h : exec c s = .next t) :
    (fullResets c = true ∧ (∀ k, t.rack k = none) ∧ t.schedule = []) ∨
    ∃ sc u v, State.Started c s u ∧ u.Acts sc v ∧ v.SameRacks t ∧ sc.admits = false ∧
      (sc.orphans = true → ∃ inp, c = .startupLoadDone inp) ∧ (sc.starts = true → startsMoves c) ∧
      ∀ k q, s.rack k = none → u.rack k ≠ none → v.rack k = some q → q.phase = .waitingEntry := by
  have same {u v : State} (hslots : u.slots = s.slots) (k : Nat) (q : Rack) (hk : s.rack k = none) (hu : u.rack k ≠ none)
      (_ : v.rack k = some q) : q.phase = .waitingEntry := absurd (State.rack_congr hslots k ▸ hk) hu
  have hreset (w : State) (run : RunState) (inp : Inputs) (k : Nat) : (w.fullReset run inp).rack k = none := by
    simp only [State.rack, State.fullReset, State.reset, List.getD_eq_getElem?_getD, List.getElem?_replicate]
    split <;> rfl
  have hplant : (plantScope c).admits = false ∧ (plantScope c).orphans = false := by
    unfold plantScope; split <;> exact ⟨rfl, rfl⟩
  cases exec_course h with
  | stay => exact .inr ⟨{}, s, s, .same rfl rfl, .refl s, ⟨rfl, rfl, rfl, rfl⟩, rfl, nofun, nofun, same rfl⟩
  | reset _ _ _ hr => exact .inl ⟨hr, hreset _ _ _, rfl⟩
  | renew _ _ hr => exact .inl ⟨hr, hreset _ _ _, rfl⟩
  | halt =>
    refine .inr ⟨{}, s, s, .same rfl rfl, .refl s, ?_, rfl, nofun, nofun, same rfl⟩
    rw [State.halt_frame]
    exact ⟨rfl, rfl, rfl, rfl⟩
  | load inp hc hu =>
    exact .inr ⟨{ orphans := true }, (s.latch inp).withSettings, _, .same rfl rfl, hu, State.sameRacks_drive _, rfl, fun _ => ⟨inp, hc⟩, nofun,
      same rfl⟩
  | second order inp hc _ hu =>
    exact .inr ⟨plantScope c, (s.latch inp).tock, _, .same rfl rfl, hu, State.sameRacks_drive _, hplant.1, fun h => absurd h (by simp [hplant.2]),
      startsMoves_of_plantScope, same rfl⟩
  | acts hu =>
    exact .inr ⟨plantScope c, s.latch (Laws.Pins.pinsOf c), _, .same rfl rfl, hu, State.sameRacks_drive _, hplant.1, fun h => absurd h (by simp [hplant.2]),
      startsMoves_of_plantScope, same rfl⟩
  | @served kind w hb hu =>
    obtain ⟨p, w₀, hw, -, ht, -⟩ := hu
    have hend := ht.sameRacks.trans w.sameRacks_drive
    have hw' : (s.latch (Laws.Pins.pinsOf c)).SameRacks w₀ := hw.sameRacks
    obtain ⟨hstarts, horphans⟩ := scopeOf_starts kind
    right
    by_cases hadmit : kind = 0x0F#8
    · subst hadmit
      rcases admitOwner_cases w₀ p with heq | ⟨slot, a, ch, hready, horphan, hfree, hat, hwalk, heq⟩
      · refine ⟨{}, w₀, w₀, .same hw'.1 hw'.2.2.1, .refl w₀, ?_, rfl, nofun, nofun, same hw'.1⟩
        have : ((catalogue 0x0F#8).2 p w₀).1 = w₀ := heq
        rwa [this] at hend
      · have howner : ((catalogue 0x0F#8).2 p w₀).1 = w₀.takeAdmission slot a ch := heq
        rw [howner] at hend
        have hracks (k : Nat) : w₀.rack k = s.rack k := State.rack_congr hw'.1 k
        have hphase (k : Nat) (q : Rack) (hk : s.rack k = none) (hu : (w₀.setRack slot (.fresh a.tag (some a.recipe) a.scale a.load
            a.loadStation .waitingEntry a.loadStation none w₀.clock)).rack k ≠ none)
            (hq : (w₀.takeAdmission slot a ch).rack k = some q) : q.phase = .waitingEntry := by
          by_cases hslot : k = slot
          · subst hslot
            exact State.takeAdmission_phase hq
          · rw [State.rack_setRack_other _ _ hslot, hracks] at hu
            exact absurd hk hu
        refine ⟨{ plans := true }, _, _, ?_, State.acts_takeAdmission_rest (s := w₀) rfl hwalk rfl, hend, rfl, nofun, nofun, hphase⟩
        have hlowest := State.rack_lowestFree hfree
        rw [hw.eq] at hready horphan hat
        refine .admitted (slot := slot) (a := a) hb hready horphan (by rw [← hracks]; exact hlowest) hat ?_ hw'.2.2.1
        simp only [State.setRack]
        rw [hw'.1, hw'.2.2.2]
        rfl
    · have hadmits : (scopeOf kind).admits = false := by
        rw [← BitVec.toNat_inj] at hadmit
        unfold scopeOf
        split <;> first | rfl | exact absurd ‹_› hadmit
      rcases owner_acts w₀ kind p with ha | ⟨-, ha⟩
      · exact ⟨scopeOf kind, w₀, _, .same hw'.1 hw'.2.2.1, ha, hend, hadmits, fun h => absurd h (by simp [horphans]),
          fun h => absurd h (by simp [hstarts]), same hw'.1⟩
      · exact ⟨scopeOf kind, w₀.dropCompletions, _, .same hw'.1 hw'.2.2.1, ha, hend, hadmits,
          fun h => absurd h (by simp [horphans]), fun h => absurd h (by simp [hstarts]), same hw'.1⟩

/-! ### Racks through acts -/

/-- An act adds to the completion queue at its end alone. -/
theorem State.Act.completions_prefix (h : State.Act sc s t) : s.completions <+: t.completions := by
  cases h with
  | quiet hq => rw [hq.completions]
  | relink _ hr => rw [hr.eq]
  | file => exact List.prefix_append _ _
  | book => rw [State.bookPlans_eq]
  | start => rw [State.markExecuting_eq]
  | _ => exact List.prefix_rfl

/-- What an act does to the rack of a slot: its record follows; it is filed and its slot freed; an orphan's slot is freed;
or a rack takes a free slot. -/
theorem State.Act.rack_cases (h : State.Act sc s t) (k : Nat) :
    Option.Rel (Rack.Follows s.clock) (s.rack k) (t.rack k) ∨
    (∃ r, s.rack k = some r ∧ t.rack k = none ∧ (r.completion ∈ t.completions ∨ r.recipe = none ∨ r.phase = .orphan)) ∨
    (∃ r, s.rack k = none ∧ t.rack k = some r ∧
      ((sc.orphans = true ∧ r.phase = .orphan ∧ r.recipe = none) ∨ sc.admits = true)) := by
  have same {a : State} (h : a.slots = s.slots) : Option.Rel (Rack.Follows s.clock) (s.rack k) (a.rack k) := by
    rw [State.rack_congr h]
    exact racks_rel_refl _ s k
  cases h with
  | quiet hq => exact .inl (hq.racks k)
  | relink _ hr => exact .inl (same hr.sameRacks.1)
  | @file j r hr =>
    by_cases hj : k = j
    · subst hj
      exact .inr (.inl ⟨r, hr, State.rack_freeSlot_same _ _, .inl (List.mem_append_right _ List.mem_cons_self)⟩)
    · left
      rw [State.rack_freeSlot_other _ hj]
      exact racks_rel_refl _ s k
  | @free j r hr ho =>
    by_cases hj : k = j
    · subst hj
      exact .inr (.inl ⟨r, hr, State.rack_freeSlot_same _ _, .inr ho⟩)
    · left
      rw [State.rack_freeSlot_other _ hj]
      exact racks_rel_refl _ s k
  | @take j r hfree hr =>
    by_cases hj : k = j
    · subst hj
      by_cases hlt : k < s.slots.length
      · exact .inr (.inr ⟨r, hfree, State.rack_setRack_same _ _ hlt, hr⟩)
      · left
        refine same ?_
        simp only [State.setRack]
        exact List.set_eq_of_length_le (Nat.le_of_not_lt hlt)
    · left
      rw [State.rack_setRack_other _ _ hj]
      exact racks_rel_refl _ s k
  | book => left; rw [State.bookPlans_eq]; exact same rfl
  | start => left; rw [State.markExecuting_eq]; exact same rfl
  | _ => exact .inl (same rfl)

/-- A rack in a slot after an act that gives none was in it before, and its record has followed; or it is an orphan of the
start-up load. -/
theorem State.Act.rack_some (h : State.Act sc s t) (ha : sc.admits = false) {k : Nat} {q : Rack} (hq : t.rack k = some q) :
    (∃ r, s.rack k = some r ∧ r.Follows s.clock q) ∨ (sc.orphans = true ∧ q.phase = .orphan ∧ q.recipe = none) := by
  rcases h.rack_cases k with hrel | ⟨r, -, hnone, -⟩ | ⟨r, -, hr, ho | h⟩
  · rw [hq] at hrel
    cases hs : s.rack k with
    | none => rw [hs] at hrel; cases hrel
    | some r =>
      rw [hs] at hrel
      cases hrel with
      | some hf => exact .inl ⟨r, rfl, hf⟩
  · rw [hq] at hnone; cases hnone
  · rw [hq] at hr; cases hr; exact .inr ho
  · rw [ha] at h; cases h

/-- Acts that give no slot leave a free one free. -/
theorem State.Acts.rack_none (h : u.Acts sc v) (ho : sc.orphans = false) (ha : sc.admits = false) {k : Nat}
    (hk : u.rack k = none) : v.rack k = none := by
  refine h.keeps (P := fun w => w.rack k = none) (fun {a b} hact hab => ?_) hk
  by_contra hb
  obtain ⟨q, hq⟩ := Option.ne_none_iff_exists'.mp hb
  rcases hact.rack_some ha hq with ⟨r, hr, -⟩ | ⟨h, -⟩
  · rw [hab] at hr; cases hr
  · rw [ho] at h; cases h

/-- A rack with a recipe is there still, or its record is in the completion queue (R59, R64). -/
def State.accounted (s : State) (k tag n : Nat) : Prop :=
  (∃ q, s.rack k = some q ∧ q.tag = tag ∧ q.recipe = some n ∧ q.phase ≠ .orphan) ∨
    ∃ x ∈ s.completions, x.tag = tag ∧ x.recipe = n

theorem State.Acts.accounted (h : u.Acts sc v) {k tag n : Nat} (hu : u.accounted k tag n) : v.accounted k tag n := by
  refine h.keeps (P := fun w => w.accounted k tag n) (fun {a b} hact hab => ?_) hu
  rcases hab with ⟨q, hq, rfl, hrec, hph⟩ | ⟨x, hx, hxt, hxn⟩
  · rcases hact.rack_cases k with hrel | ⟨r, hr, -, hend⟩ | ⟨r, hr, -⟩
    · rw [hq] at hrel
      cases hb : b.rack k with
      | none => rw [hb] at hrel; cases hrel
      | some p =>
        rw [hb] at hrel
        cases hrel with
        | some hf =>
          refine .inl ⟨p, hb, hf.tag, hf.recipe.trans hrec, fun hp => ?_⟩
          rcases hf.orphan hp with h | h
          · exact hph h
          · rw [hrec] at h; cases h
    · rw [hq] at hr
      cases hr
      rcases hend with hc | h | h
      · exact .inr ⟨_, hc, rfl, by simp [Rack.completion, hrec]⟩
      · rw [hrec] at h; cases h
      · exact absurd h hph
    · rw [hq] at hr; cases hr
  · exact .inr ⟨x, hact.completions_prefix.subset hx, hxt, hxn⟩

/-- Racks ON_CARRIAGE have current station 0 (R54). -/
def State.carriedNowhere (s : State) : Prop := ∀ k r, s.rack k = some r → r.phase = .onCarriage → r.station = 0

theorem State.Acts.carriedNowhere (h : u.Acts sc v) (ha : sc.admits = false) (hu : u.carriedNowhere) : v.carriedNowhere := by
  refine h.keeps (P := State.carriedNowhere) (fun {a b} hact hab k q hq hph => ?_) hu
  rcases hact.rack_some ha hq with ⟨r, hr, hf⟩ | ⟨-, ho, -⟩
  · rcases hf.carried hph with h0 | ⟨hc, hst⟩
    · exact h0
    · rw [hst]; exact hab k r hr hc
  · rw [hph] at ho; cases ho

/-- Where a rack stands that stood at a station in state `u`: nowhere, there, or where it was lowered in second `now`. -/
def State.standsSince (u : State) (now k : Nat) (q : Rack) : Prop :=
  q.station = 0 ∨ (∃ r, u.rack k = some r ∧ r.station = q.station) ∨ q.immersion = some now ∨ q.unload = some now

theorem State.Acts.standsSince (h : u.Acts sc v) (ho : sc.orphans = false) (ha : sc.admits = false) {k : Nat} {q : Rack}
    (hq : v.rack k = some q) : u.standsSince v.clock k q := by
  have hkeeps : v.clock = u.clock ∧ ∀ q, v.rack k = some q → u.standsSince u.clock k q := by
    refine h.keeps (P := fun w => w.clock = u.clock ∧ ∀ q, w.rack k = some q → u.standsSince u.clock k q)
      (fun {a b} hact hab => ?_) ⟨rfl, fun q hq => .inr (.inl ⟨q, hq, rfl⟩)⟩
    obtain ⟨hclock, hall⟩ := hab
    refine ⟨hact.frame.1.trans hclock, fun q hq => ?_⟩
    rcases hact.rack_some ha hq with ⟨r, hr, hf⟩ | ⟨h, -⟩
    · rw [hclock] at hf
      rcases hf.place with h0 | ⟨hst, himm, hun⟩ | hnow
      · exact .inl h0
      · rw [State.standsSince, hst, himm, hun]; exact hall r hr
      · exact .inr (.inr hnow)
    · rw [ho] at h; cases h
  rw [hkeeps.1]
  exact hkeeps.2 q hq

/-! ### Entries that begin to execute -/

/-- Every EXECUTING entry of one schedule is one of the other (R77). -/
def executesOf (l' l : List Entry) : Prop :=
  ∀ e ∈ l', e.executing = true → ∃ m ∈ l, m.executing = true ∧ m.slot = e.slot ∧ m.index = e.index

theorem executesOf_refl (l : List Entry) : executesOf l l := fun e he hx => ⟨e, he, hx, rfl, rfl⟩

theorem executesOf.trans {a b c : List Entry} (h : executesOf a b) (h' : executesOf b c) : executesOf a c := by
  intro e he hx
  obtain ⟨m, hm, hmx, hslot, hindex⟩ := h e he hx
  obtain ⟨n, hn, hnx, hslot', hindex'⟩ := h' m hm hmx
  exact ⟨n, hn, hnx, hslot'.trans hslot, hindex'.trans hindex⟩

/-- No change of the plans but the beginning of a move makes an entry EXECUTING (R77). -/
theorem State.Act.executesOf (h : State.Act sc s t) (hst : sc.starts = false) : executesOf t.schedule s.schedule := by
  cases h with
  | quiet hq => rw [hq.schedule]; exact executesOf_refl _
  | relink _ hr => rw [hr.eq]; exact executesOf_refl _
  | trim _ hs => exact fun e he hx => ⟨e, hs.subset he, hx, rfl, rfl⟩
  | book _ hw =>
    obtain ⟨w, tr, lim, -, -, -, rfl, -, hentries, -⟩ := hw.laid
    rw [State.bookPlans_eq]
    intro e he hx
    rcases mem_insertAll.mp he with he | he
    · exact ⟨e, List.mem_of_mem_filter he, hx, rfl, rfl⟩
    · rw [(hentries.own e he).2.1] at hx; cases hx
  | @slide f p =>
    intro e he hx
    obtain ⟨m, hm, rfl⟩ := List.mem_map.mp he
    have hsame : slideEntry f p m = { m with start := (slideEntry f p m).start } := by unfold slideEntry; split <;> rfl
    rw [hsame] at hx ⊢
    exact ⟨m, hm, hx, rfl, rfl⟩
  | @rebook f p =>
    intro e he hx
    rcases mem_insertAll.mp he with he | he
    · exact ⟨e, List.mem_of_mem_filter he, hx, rfl, rfl⟩
    · obtain ⟨m, hm, rfl⟩ := List.mem_map.mp he
      obtain ⟨hslot, hindex, hex⟩ := shiftEntry_same s.cfg.line.guard f p m
      exact ⟨m, List.mem_of_mem_filter hm, hex ▸ hx, hslot.symm, hindex.symm⟩
  | start h => rw [hst] at h; cases h
  | _ => exact executesOf_refl _

theorem State.Acts.executesOf (h : u.Acts sc v) (hst : sc.starts = false) : executesOf v.schedule u.schedule :=
  h.keeps (P := fun w => Machine.executesOf w.schedule u.schedule) (fun hact ha => (hact.executesOf hst).trans ha)
    (executesOf_refl _)

/-! ### Commands -/

/-- The rack table a command starts from: a rack in it was there before, or an ADMIT has just given it its slot. -/
theorem State.Started.rack_some (h : State.Started c s u) {k : Nat} {q : Rack} (hq : u.rack k = some q) :
    s.rack k = some q ∨ (s.rack k = none ∧ q.phase = .waitingEntry ∧ (q.station = 0 ∨ s.rackAt q.station = none)) := by
  cases h with
  | same hslots => rw [State.rack_congr hslots] at hq; exact .inl hq
  | @admitted slot a _ _ _ hfree hat hslots =>
    have hset : u.rack k = (s.setRack slot (.fresh a.tag (some a.recipe) a.scale a.load a.loadStation .waitingEntry
        a.loadStation none s.clock)).rack k := State.rack_congr hslots k
    rw [hset] at hq
    by_cases hk : k = slot
    · subst hk
      rw [State.rack_setRack_same _ _ (by simpa using State.rack_lt hq)] at hq
      cases hq
      exact .inr ⟨hfree, rfl, .inr hat⟩
    · rw [State.rack_setRack_other _ _ hk] at hq
      exact .inl hq

theorem State.Started.rack_of (h : State.Started c s u) {k : Nat} {q : Rack} (hq : s.rack k = some q) :
    u.rack k = some q := by
  cases h with
  | same hslots => rw [State.rack_congr hslots]; exact hq
  | @admitted slot a _ _ _ hfree hat hslots =>
    have hset : u.rack k = (s.setRack slot (.fresh a.tag (some a.recipe) a.scale a.load a.loadStation .waitingEntry
        a.loadStation none s.clock)).rack k := State.rack_congr hslots k
    have hk : k ≠ slot := fun h => by rw [h, hfree] at hq; cases hq
    rw [hset, State.rack_setRack_other _ _ hk]
    exact hq

theorem State.Started.schedule (h : State.Started c s u) : u.schedule = s.schedule := by
  cases h <;> assumption

/-- With no rack found at a station, none of the table stands there. -/
theorem State.station_ne_of_rackAt (hlen : s.slots.length = 24) {n k : Nat} {r : Rack} (hn : 1 ≤ n)
    (h : s.rackAt n = none) (hr : s.rack k = some r) : r.station ≠ n := by
  intro heq
  unfold State.rackAt at h
  rw [if_neg (by omega)] at h
  have := List.find?_eq_none.mp h (k, r) (State.mem_racks.mpr ⟨hlen ▸ State.rack_lt hr, hr⟩)
  simp [heq] at this

/-- The racks that STARTUP_LOAD_DONE brings are orphans (R70). -/
theorem exec_startupLoadDone_rack {inp : Inputs} {k : Nat} {q : Rack} (h : exec (.startupLoadDone inp) s = .next t)
    (hs : s.rack k = none) (ht : t.rack k = some q) : q.phase = .orphan ∧ q.recipe = none := by
  rcases event_cases (f := State.endLoad) h with rfl | rfl
  · rw [hs] at ht; cases ht
  rw [State.rack_congr (State.sameRacks_drive _).1, State.endLoad] at ht
  have hlatch : (s.latch inp).rack k = none := hs
  split at ht
  · exact State.loadDone_rack ht hlatch
  all_goals rw [hlatch] at ht; cases ht

/-- A slot comes into use by an ADMIT alone, or as an orphan of the start-up load (R57, R58, R70). -/
theorem exec_admits {k : Nat} {q : Rack} (h : exec c s = .next t) (hs : s.rack k = none) (ht : t.rack k = some q) :
    (((∃ f inp, c = .admitRack f inp) ∨ s.midFrame c) ∧ s.line.state = .ready ∧ q.phase = .waitingEntry ∧
      ∀ e ∈ s.racks, ¬ (e.2.phase = .orphan ∧ s.isBath e.2.station = true)) ∨
    (∃ inp, c = .startupLoadDone inp ∧ q.phase = .orphan ∧ q.recipe = none) := by
  rcases exec_started h with ⟨-, hnone, -⟩ | ⟨sc, u, v, hst, hacts, hend, ha, ho, -, hphase⟩
  · rw [hnone] at ht; cases ht
  rw [State.rack_congr hend.1] at ht
  by_cases hu : u.rack k = none
  · by_cases horphans : sc.orphans = true
    · obtain ⟨inp, rfl⟩ := ho horphans
      rw [← State.rack_congr hend.1] at ht
      exact .inr ⟨inp, rfl, exec_startupLoadDone_rack h hs ht⟩
    · rw [hacts.rack_none (by simpa using horphans) ha hu] at ht
      cases ht
  · cases hst with
    | same hslots => exact absurd (State.rack_congr hslots k ▸ hs) hu
    | admitted hb hready horphan =>
      refine .inl ⟨(hb.of_known rfl).imp_left fun h => (request_of_kind h).2.2.2.2.2.2.2 rfl, hready, hphase k q hs hu ht,
        fun e he hbath => ?_⟩
      simp only [State.orphanInBath, State.someRack, List.any_eq_false] at horphan
      exact horphan e he (by simp [hbath.1, State.standsInBath, hbath.2])

/-- The slot of a rack with a recipe is freed outside full reset only with a record of that rack in the completion queue
(R59, R64). -/
theorem exec_accounts {k n : Nat} {r : Rack} (h : exec c s = .next t) (hreset : fullResets c = false) (hr : s.rack k = some r)
    (hn : r.recipe = some n) (ho : r.phase ≠ .orphan) (ht : t.rack k = none) :
    ∃ x ∈ t.completions, x.tag = r.tag ∧ x.recipe = n := by
  rcases exec_started h with ⟨hres, -⟩ | ⟨sc, u, v, hst, hacts, hend, -⟩
  · rw [hreset] at hres; cases hres
  rw [hend.2.1]
  rw [State.rack_congr hend.1] at ht
  rcases hacts.accounted (.inl ⟨r, hst.rack_of hr, rfl, hn, ho⟩) with ⟨q, hq, -⟩ | hx
  · rw [ht] at hq; cases hq
  · exact hx

/-- Of a schedule whose spans lie apart with the EXECUTING entry first, none but the first is EXECUTING (R75). -/
theorem State.spansApart.head_executing (h : s.spansApart) {e : Entry} (he : e ∈ s.schedule) (hx : e.executing = true) :
    s.schedule.head? = some e := by
  have hspaced := State.spansApart_iff.mp h
  cases hl : s.schedule with
  | nil => rw [hl] at he; cases he
  | cons x l =>
    rw [hl] at he
    rcases List.mem_cons.mp he with rfl | hmem
    · rfl
    · rw [hspaced.first e (by rw [hl]; exact hmem)] at hx
      cases hx

/-- An entry is EXECUTING that was not by the beginning of a move alone, and then it is the first (R77, R96). -/
theorem exec_executes (h : exec c s = .next t) {e : Entry} (he : e ∈ t.schedule) (hx : e.executing = true) :
    (∃ m ∈ s.schedule, m.executing = true ∧ m.slot = e.slot ∧ m.index = e.index) ∨
      ((1 ≤ s.cfg.line.tl → s.spansApart → t.schedule.head? = some e) ∧ startsMoves c) := by
  rcases exec_started h with ⟨-, -, hnone⟩ | ⟨sc, u, v, hst, hacts, hend, -, -, hstarts, -⟩
  · rw [hnone] at he; cases he
  by_cases hsc : sc.starts = true
  · exact .inr ⟨fun htl hs => (exec_spansApart h htl hs).head_executing he hx, hstarts hsc⟩
  · left
    rw [hend.2.2.1] at he
    rw [← hst.schedule]
    exact hacts.executesOf (by simpa using hsc) e he hx

theorem exec_carriedNowhere (h : exec c s = .next t) (hs : s.carriedNowhere) : t.carriedNowhere := by
  intro k q hq hph
  rcases exec_started h with ⟨-, hnone, -⟩ | ⟨sc, u, v, hst, hacts, hend, ha, -⟩
  · rw [hnone] at hq; cases hq
  rw [State.rack_congr hend.1] at hq
  refine hacts.carriedNowhere ha (fun k r hr hcar => ?_) k q hq hph
  rcases hst.rack_some hr with hr | ⟨-, hwait, -⟩
  · exact hs k r hr hcar
  · rw [hcar] at hwait; cases hwait

/-- Two racks at one station stood there both, or one was lowered there now (R54, R57). -/
theorem exec_stands (h : exec c s = .next t) (hlen : s.slots.length = 24) (hload : ∀ inp, c ≠ .startupLoadDone inp)
    {j k : Nat} {q r : Rack} (hjk : j ≠ k) (hq : t.rack j = some q) (hr : t.rack k = some r) (hst : q.station = r.station)
    (h1 : 1 ≤ r.station) :
    (∃ q' r', s.rack j = some q' ∧ s.rack k = some r' ∧ q'.station = r.station ∧ r'.station = r.station) ∨
    ∃ x, (x = q ∨ x = r) ∧ (x.immersion = some t.clock ∨ x.unload = some t.clock) := by
  rcases exec_started h with ⟨-, hnone, -⟩ | ⟨sc, u, v, hstart, hacts, hend, ha, ho, -⟩
  · rw [hnone] at hr; cases hr
  have horphans : sc.orphans = false := by
    by_contra h
    obtain ⟨inp, hc⟩ := ho (by simpa using h)
    exact hload inp hc
  rw [State.rack_congr hend.1] at hq hr
  rw [hend.2.2.2]
  have stood {i : Nat} {x : Rack} (hx : v.rack i = some x) (hx1 : 1 ≤ x.station) :
      (∃ y, u.rack i = some y ∧ y.station = x.station) ∨ x.immersion = some v.clock ∨ x.unload = some v.clock := by
    rcases hacts.standsSince horphans ha hx with h0 | h
    · omega
    · exact h
  rcases stood hq (by omega) with ⟨q', hq', hqs⟩ | hnow
  · rcases stood hr h1 with ⟨r', hr', hrs⟩ | hnow
    · left
      cases hstart with
      | same hslots =>
        rw [State.rack_congr hslots] at hq' hr'
        exact ⟨q', r', hq', hr', hqs.trans hst, hrs⟩
      | @admitted slot a hb hready horphan hfree hat hslots =>
        have hset (i : Nat) : u.rack i = (s.setRack slot (.fresh a.tag (some a.recipe) a.scale a.load a.loadStation
          .waitingEntry a.loadStation none s.clock)).rack i := State.rack_congr hslots i
        have hother {i : Nat} (hi : i ≠ slot) : u.rack i = s.rack i := (hset i).trans (State.rack_setRack_other _ _ hi)
        have hnew {i : Nat} {x y : Rack} (hi : i = slot) (hx : u.rack i = some x) {l : Nat} (hl : u.rack l = some y)
            (hil : l ≠ i) (hxy : y.station = x.station) : ¬ 1 ≤ x.station := by
          subst hi
          rw [hset, State.rack_setRack_same _ _ (by simpa [hslots] using State.rack_lt hx)] at hx
          cases hx
          rw [hother hil] at hl
          exact fun h1 => State.station_ne_of_rackAt hlen h1 hat hl hxy
        by_cases hj : j = slot
        · exact absurd (by omega) (hnew hj hq' hr' hjk.symm (by omega))
        · by_cases hk : k = slot
          · exact absurd (by omega) (hnew hk hr' hq' hjk (by omega))
          · rw [hother hj] at hq'
            rw [hother hk] at hr'
            exact ⟨q', r', hq', hr', hqs.trans hst, hrs⟩
    · exact .inr ⟨r, .inr rfl, hnow⟩
  · exact .inr ⟨q, .inl rfl, hnow⟩

/-- Settles O60. -/
theorem slotsAndMovesComeAndGoByTheRules : Obligations.SlotsAndMovesComeAndGoByTheRules := by
  unfold Obligations.SlotsAndMovesComeAndGoByTheRules
  intro c s t h
  refine ⟨fun k hs q hq => exec_admits h hs hq, fun k r n hr hn ho ht hres => exec_accounts h hres hr hn ho ht,
    fun e he hx => exec_executes h he hx, fun hs => exec_carriedNowhere h hs,
    fun hlen hload j k q r hjk hq hr hst h1 => exec_stands h hlen hload hjk hq hr hst h1⟩

end

end Sys2Proof.Machine
end

section
/-! PROOFS. The receive path (10.3, 10.4): a broken frame is discarded and counted, a foreign one passed over, and a byte is
a field of the frame in progress. -/

namespace Sys2Proof.Machine

/-! ### Events as posted (R166) -/

section
variable {s t u v : State} {k : EventKind} {a b c d : Nat}

theorem State.events_prefix_post (s : State) (k : EventKind) (a b c d : Nat) : s.events <+: (s.post k a b c d).events := by
  rcases s.post_cases k a b c d with ⟨-, h⟩ | ⟨-, h⟩ <;> rw [h]
  exact List.prefix_append _ _

theorem State.events_post_of_room (h : s.events.length < 64) :
    (s.post k a b c d).events = s.events ++ [⟨s.clock, k, a, b, c, d⟩] := by
  rcases s.post_cases k a b c d with ⟨-, heq⟩ | ⟨hle, -⟩
  · rw [heq]
  · omega

/-- An event that has been posted stands in the queue, unless the queue was full. -/
theorem State.posted_post (hc : u.clock = s.clock) : s.posted (u.post k a b c d) k a b c d := by
  rcases u.post_cases k a b c d with ⟨-, h⟩ | ⟨hle, h⟩
  · left; rw [h, ← hc]; simp
  · right; rw [h]; exact hle

theorem State.posted.of_prefix (h : s.posted t k a b c d) (hp : t.events <+: v.events) : s.posted v k a b c d :=
  h.imp (hp.subset ·) (le_trans · hp.length_le)

theorem State.posted.congr (h : s.posted t k a b c d) (hp : v.events = t.events) : s.posted v k a b c d :=
  h.of_prefix (by rw [hp])

end

/-- Driving changes the outputs alone, whatever the state is known to be. -/
theorem State.drive_of_eq {u v : State} (h : u = v) : u.drive = { v with out := u.drive.out } := by
  rw [← h]; exact u.drive_eq

/-- A command of a running part leads to the driven state of its effect on the part with the pins latched. -/
theorem exec_of_effect {c : Instr} {s v : State} {inp : Inputs} {f : State → State} (hrun : s.run = .running)
    (hexec : exec c s = event inp f s) (hv : f (s.latch inp) = v) : exec c s = .next v.drive := by
  rw [hexec, event_running hrun, hv]

/-! ### Discarded frames (R158) -/

section
variable (s : State)

/-- A discard hunts with an empty buffer, counts, and judges LINK_DEGRADED. -/
theorem State.discard_eq :
    s.discard = { s with
      link := { s.link with
        path := .hunting, rx := [], discards := min (s.link.discards + 1) 65535,
        degraded := s.link.degraded || decide (s.cfg.line.threshold ≤ min (s.link.discards + 1) 65535) }
      events := s.discard.events
      lost := s.discard.lost } := by
  unfold State.discard
  simp only [State.postLine]
  split
  · next h =>
    conv_lhs => rw [State.post_eq]
    simp [h.1]
  · next h =>
    cases hd : s.link.degraded
    · have hlt : ¬ s.cfg.line.threshold ≤ min (s.link.discards + 1) 65535 := fun hle => h ⟨hle, hd⟩
      simp only [hlt, decide_false, Bool.or_self]
    · simp only [Bool.true_or]

theorem State.discard_events_of_reached (hd : s.link.degraded = false)
    (hn : s.cfg.line.threshold ≤ min (s.link.discards + 1) 65535) (hroom : s.events.length < 64) :
    s.discard.events = s.events ++ [⟨s.clock, .linkDegraded, 0, 255, 0, s.cfg.line.threshold⟩] := by
  unfold State.discard
  simp only [State.postLine]
  rw [if_pos ⟨hn, hd⟩]
  exact State.events_post_of_room hroom

theorem State.discard_events_of_quiet
    (h : s.link.degraded = true ∨ min (s.link.discards + 1) 65535 < s.cfg.line.threshold) :
    s.discard.events = s.events ∧ s.discard.lost = s.lost := by
  have hnot : ¬ (s.cfg.line.threshold ≤ min (s.link.discards + 1) 65535 ∧ s.link.degraded = false) := by
    rintro ⟨hle, hd⟩
    rcases h with h | h
    · rw [h] at hd; cases hd
    · omega
  unfold State.discard
  simp only
  rw [if_neg hnot]
  exact ⟨rfl, rfl⟩

end

/-! ### Commands of a broken frame -/

section
variable {s : State} {inp : Inputs}

theorem State.breakFrame_receiving (h : s.link.path = .receiving) : s.breakFrame = s.discard := by
  rw [State.breakFrame, if_pos h]

theorem State.receiveByte_overlong {b : Byte} (h : s.link.path = .receiving) (hrx : s.link.rx.length = 4)
    (hb : 200 < b.toNat) : s.receiveByte b = s.discard := by
  have hlen : u8 (s.link.rx ++ [b]) 4 = b.toNat := by simp [u8, hrx]
  simp [State.receiveByte, h, hrx, hlen, hb]

theorem State.lengthByte_discards {b : Byte} (h : s.link.path = .hunting ∨ (s.link.path = .receiving ∧ s.link.rx.length < 5))
    (hb : 200 < b.toNat) : s.lengthByte b = s.discard := by
  unfold State.lengthByte
  rw [if_neg, if_neg]
  · rintro ⟨hp, hle⟩
    rcases h with h | ⟨-, hlt⟩
    · rw [hp] at h; cases h
    · omega
  · rintro (hp | hle)
    · rcases h with h | ⟨h, -⟩ <;> rw [hp] at h <;> cases h
    · omega

theorem State.checkFailed_discards {kind : Byte} {f : Frame} (h : s.takes kind f) (hbad : frameIntact kind f = false) :
    s.checkFailed kind f = s.discard := by
  rw [State.checkFailed, hbad, State.takeFrame_taken h]
  rfl

/-- A command that has done nothing but latch the pins leaves all but the outputs. -/
theorem State.drive_latch_eq (s : State) (inp : Inputs) :
    (s.latch inp).drive = { s with pins := inp, out := (s.latch inp).drive.out } := State.drive_eq _

/-- What the discard of a frame leaves (R156, R158). -/
theorem State.discard_drive_broken (s : State) (inp : Inputs) (t : State) (ht : t = (s.latch inp).discard.drive) :
    t.link.path = .hunting ∧ t.link.rx = [] ∧ t.link.discards = min (s.link.discards + 1) 65535 ∧
    (t.link.degraded = true ↔ s.link.degraded = true ∨ s.cfg.line.threshold ≤ t.link.discards) ∧
    (s.link.degraded = false → s.cfg.line.threshold ≤ t.link.discards → s.events.length < 64 →
      t.events = s.events ++ [⟨s.clock, .linkDegraded, 0, 255, 0, s.cfg.line.threshold⟩]) ∧
    (s.link.degraded = true ∨ t.link.discards < s.cfg.line.threshold → t.events = s.events ∧ t.lost = s.lost) ∧
    t = { s with pins := inp, out := t.out, events := t.events, lost := t.lost,
                 link := { s.link with path := .hunting, rx := [], discards := t.link.discards,
                                       degraded := t.link.degraded } } := by
  have hlink : t.link = { s.link with
      path := .hunting, rx := [], discards := min (s.link.discards + 1) 65535,
      degraded := s.link.degraded || decide (s.cfg.line.threshold ≤ min (s.link.discards + 1) 65535) } := by
    rw [ht, State.drive_link, State.discard_eq]
    rfl
  have hevents : t.events = (s.latch inp).discard.events := by rw [ht, State.drive_events]
  have hlost : t.lost = (s.latch inp).discard.lost := by rw [ht, State.drive_lost]
  refine ⟨by rw [hlink], by rw [hlink], by rw [hlink], by rw [hlink]; simp, ?_, ?_, ?_⟩
  · intro hd hn hroom
    rw [hlink] at hn
    rw [hevents]
    exact (s.latch inp).discard_events_of_reached hd hn hroom
  · intro h
    rw [hlink] at h
    rw [hevents, hlost]
    exact (s.latch inp).discard_events_of_quiet h
  · rw [ht] at hlink ⊢
    refine (State.drive_of_eq (s.latch inp).discard_eq).trans ?_
    simp only [hlink, State.drive_events, State.drive_lost]
    rfl

end

/-- Settles O24. -/
theorem brokenFramesAreDiscarded : Obligations.BrokenFramesAreDiscarded := by
  unfold Obligations.BrokenFramesAreDiscarded
  intro s c inp hrun hc
  refine ⟨?_, fun c' hc' hp => ?_⟩
  · have hexec : exec c s = .next (s.latch inp).discard.drive := by
      rcases hc with ⟨hp, rfl | rfl⟩ | ⟨hp, hrx, b, hb, rfl⟩ | ⟨hp, b, hb, rfl⟩ | ⟨kind, f, ht, hbad, rfl⟩
      · exact exec_of_effect hrun rfl (State.breakFrame_receiving hp)
      · exact exec_of_effect hrun rfl (State.breakFrame_receiving hp)
      · exact exec_of_effect (f := fun t => t.receiveByte b) hrun rfl (State.receiveByte_overlong (s := s.latch inp) hp hrx hb)
      · exact exec_of_effect (f := fun t => t.lengthByte b) hrun rfl (State.lengthByte_discards (s := s.latch inp) hp hb)
      · exact exec_of_effect (f := fun t => t.checkFailed kind f) hrun rfl
          (State.checkFailed_discards (s := s.latch inp) ht hbad)
    exact ⟨_, hexec, s.discard_drive_broken inp _ rfl⟩
  · have hexec : exec c' s = .next (s.latch inp).drive := by
      have hbreak : (s.latch inp).breakFrame = s.latch inp := if_neg hp
      rcases hc' with rfl | rfl <;> exact exec_of_effect hrun rfl (hbreak)
    exact ⟨_, hexec, s.drive_latch_eq inp⟩

end Sys2Proof.Machine
end

section
/-! PROOFS. Bytes, foreign frames and unknown kinds (10.3, 10.5): the last byte of a frame does what the frame's own
command does. -/

namespace Sys2Proof.Machine

/-! ### The bytes of a frame (12.1) -/

section
variable (f : Frame) (kind : Byte)

theorem frameBytes_length : (frameBytes f.addr f.tag kind f.payload f.check).length = 7 + f.payload.length := by
  simp [frameBytes, checkedBytes, checkBytes]
  omega

variable {f kind}

theorem u8_frameBytes_length (h : f.payload.length ≤ 200) :
    u8 (frameBytes f.addr f.tag kind f.payload f.check) 4 = f.payload.length := by
  simp only [u8, frameBytes, checkedBytes, List.cons_append, List.getD_cons_succ, List.getD_cons_zero,
    BitVec.toNat_ofNat]
  omega

/-- The bytes of a frame spell it (10.2). -/
theorem frameOf_frameBytes (h : f.payload.length ≤ 200) :
    frameOf (frameBytes f.addr f.tag kind f.payload f.check) = (kind, f) := by
  have hcheck : u16 (frameBytes f.addr f.tag kind f.payload f.check) (5 + f.payload.length) = f.check.toNat := by
    have hsplit : frameBytes f.addr f.tag kind f.payload f.check =
        (0xA9#8 :: checkedBytes f.addr f.tag kind f.payload) ++ wordBytes f.check.toNat := rfl
    have hlen : (0xA9#8 :: checkedBytes f.addr f.tag kind f.payload).length = 5 + f.payload.length := by
      simp [checkedBytes]; omega
    rw [hsplit, u16_append_right _ _ (by omega), hlen, Nat.sub_self, u16_wordBytes]
    exact Nat.mod_eq_of_lt f.check.isLt
  unfold frameOf
  rw [u8_frameBytes_length h, hcheck]
  simp [frameBytes, checkedBytes]

end

/-! ### Bytes (R155, R156) -/

section
variable {s : State} {b : Byte}

theorem State.receiveByte_hunting (h : s.link.path = .hunting) :
    s.receiveByte b = if b = 0xA9#8 then s.collect [b] else s := by
  simp [State.receiveByte, h]

/-- A byte that neither ends the frame in progress nor breaks it is a field of it (R156). -/
theorem State.receiveByte_field (h : s.link.path = .receiving)
    (hb : s.link.rx.length < 4 ∨ (s.link.rx.length = 4 ∧ b.toNat ≤ 200) ∨
      (5 ≤ s.link.rx.length ∧ u8 s.link.rx 4 ≤ 200 ∧ s.link.rx.length + 1 < 7 + u8 s.link.rx 4)) :
    s.receiveByte b = s.collect (s.link.rx ++ [b]) := by
  simp only [State.receiveByte, h, List.length_append, List.length_singleton, frameSize]
  rcases hb with hlt | ⟨hrx, hb⟩ | ⟨hrx, hlen, hmore⟩
  · rw [if_pos (by omega)]
  · have hu : u8 (s.link.rx ++ [b]) 4 = b.toNat := by simp [u8, hrx]
    rw [if_neg (by omega), hu, if_neg (by omega), if_pos (by omega)]
  · have hu : u8 (s.link.rx ++ [b]) 4 = u8 s.link.rx 4 := u8_append_left _ _ (by omega)
    rw [if_neg (by omega), hu, if_neg (by omega), if_pos hmore]

/-- The last check byte of a frame ends it (R156). -/
theorem State.receiveByte_last {kind : Byte} {f : Frame} (h : s.link.path = .receiving) (hf : f.payload.length ≤ 200)
    (hrx : s.link.rx ++ [b] = frameBytes f.addr f.tag kind f.payload f.check) :
    s.receiveByte b = s.judgeFrame kind f := by
  have hlen := frameBytes_length f kind
  simp only [State.receiveByte, h, hrx, frameSize, u8_frameBytes_length hf, hlen, frameOf_frameBytes hf]
  rw [if_neg (by omega), if_neg (by omega), if_neg (by omega)]

theorem State.takes_of_last {kind : Byte} {f : Frame} (h : s.link.path = .receiving)
    (hrx : s.link.rx ++ [b] = frameBytes f.addr f.tag kind f.payload f.check) : s.takes kind f :=
  .inr ⟨h, hrx ▸ List.prefix_append _ _⟩

end

/-! ### Frames as they end (R156, R157, R160) -/

/-- A kind outside the catalogue is answered BAD_KIND whatever its length (R160). -/
theorem catalogue_unknown {kind : Byte} (h : kind.toNat = 0 ∨ 28 ≤ kind.toNat) :
    catalogue kind = (fun _ => true, fun _ t => refuse .badKind t) := by
  unfold catalogue
  split <;> first | omega | rfl

section
variable {s : State} {kind : Byte} {f : Frame} {inp : Inputs}

theorem State.judgeFrame_broken (h : frameIntact kind f = false) : s.judgeFrame kind f = s.discard := by
  rw [State.judgeFrame, State.endFrame, if_pos (.inr h)]

theorem State.judgeFrame_foreign (hl : f.payload.length ≤ 200) (hi : frameIntact kind f = true)
    (h : f.addr.toNat ≠ s.link.addr ∨ 128 ≤ kind.toNat) : s.judgeFrame kind f = s.hunt := by
  have hforeign : (s.addressed f && isRequestKind kind) = false := by
    rcases h with h | h
    · simp [State.addressed, h]
    · simp [isRequestKind, h]
  rw [State.judgeFrame, State.endFrame, if_neg (by simp [hi, hl]), hforeign]
  rfl

theorem State.passOver_foreign (ht : s.takes kind f) (hi : frameIntact kind f = true)
    (h : f.addr.toNat ≠ s.link.addr ∨ 128 ≤ kind.toNat) : s.passOver kind f = s.hunt := by
  have hforeign : (s.addressed f && isRequestKind kind) = false := by
    rcases h with h | h
    · simp [State.addressed, h]
    · simp [isRequestKind, h]
  rw [State.passOver, hi, hforeign, State.takeFrame_taken ht]
  rfl

theorem State.telegram_taken (ht : s.takes kind f) : s.telegram kind f = s.judgeFrame kind f :=
  State.takeFrame_taken ht _

theorem State.unknownKind_eq (h : kind.toNat = 0 ∨ (28 ≤ kind.toNat ∧ kind.toNat ≤ 127)) :
    s.unknownKind kind f = s.telegram kind f := by
  unfold State.unknownKind
  rw [if_pos]
  simp only [isRequestKind, isKnownKind, within, decide_eq_true_eq, Bool.and_eq_false_iff, decide_eq_false_iff_not]
  omega

/-- A request is a telegram of its kind, whose length check is that of the catalogue (12.2). -/
theorem exec_request {c : Instr} {lengthOk : List Byte → Bool} (h : requestOf c = some (kind, lengthOk, f, inp)) :
    exec c s = event inp (fun t => t.telegram kind f) s ∧ (catalogue kind).1 = lengthOk ∧ isRequestKind kind = true ∧
      isKnownKind kind = true := by
  cases c <;> cases h <;> exact ⟨rfl, rfl, rfl, rfl⟩

end

/-- Settles O25. -/
theorem bytesForeignFramesAndSentReplies : Obligations.BytesForeignFramesAndSentReplies := by
  unfold Obligations.BytesForeignFramesAndSentReplies
  refine ⟨fun s inp hrun => ⟨fun b => ⟨fun hb => ?_, fun kind f hp hf hrx => ?_⟩, fun kind f ht hi hfor => ?_⟩,
    fun s inp => ⟨fun kind f hh hk => ?_, fun hrun hreply hrestart => ?_⟩⟩
  · have hexec {v : State} (hv : (s.latch inp).receiveByte b = v) : exec (.leadByteReceived b inp) s = .next v.drive :=
      exec_of_effect (f := fun t => t.receiveByte b) hrun rfl hv
    cases hp : s.link.path with
    | hunting =>
      have hbyte := State.receiveByte_hunting (s := s.latch inp) (b := b) hp
      by_cases hlead : b = 0xA9#8
      · subst hlead
        rw [if_pos rfl] at hbyte
        refine ⟨_, hexec hbyte, by simp [State.collect], by simp, by simp, by simp, ?_⟩
        refine (State.drive_eq _).trans ?_
        simp [State.collect]
      · rw [if_neg hlead] at hbyte
        refine ⟨_, hexec hbyte, by simp [hlead], by simp, by simp, by simp, ?_⟩
        refine (State.drive_eq _).trans ?_
        simp [State.latch]
    | receiving =>
      have hbyte := State.receiveByte_field (s := s.latch inp) (b := b) hp (by simpa [hp] using hb)
      refine ⟨_, hexec hbyte, by simp, by simp, by simp [State.collect], by simp, ?_⟩
      refine (State.drive_eq _).trans ?_
      simp [State.collect, State.latch]
    | closed =>
      have hbyte := State.receiveByte_closed (s := s.latch inp) hp b
      refine ⟨_, hexec hbyte, by simp, by simp, by simp, by simp, ?_⟩
      refine (State.drive_eq _).trans ?_
      simp [State.latch]
  · have ht : (s.latch inp).takes kind f := State.takes_of_last (s := s.latch inp) hp hrx
    have hexec {c : Instr} {g : State → State} (hc : exec c s = event inp g s)
        (hg : g (s.latch inp) = (s.latch inp).judgeFrame kind f) : exec (.leadByteReceived b inp) s = exec c s :=
      (exec_of_effect (f := fun t => t.receiveByte b) hrun rfl (State.receiveByte_last (s := s.latch inp) hp hf hrx)).trans
        (exec_of_effect hrun hc hg).symm
    refine ⟨fun hbad => ?_, fun c lengthOk hreq => ?_, fun hi hk => ?_, fun hi hfor => ?_⟩
    · exact hexec (g := fun t => t.checkFailed kind f) rfl
        ((State.checkFailed_discards ht hbad).trans (State.judgeFrame_broken hbad).symm)
    · exact hexec (exec_request hreq).1 (State.telegram_taken ht)
    · exact hexec (g := fun t => t.unknownKind kind f) rfl ((State.unknownKind_eq hk).trans (State.telegram_taken ht))
    · exact hexec (g := fun t => t.passOver kind f) rfl
        ((State.passOver_foreign (s := s.latch inp) ht hi hfor).trans (State.judgeFrame_foreign (s := s.latch inp) hf hi hfor).symm)
  · refine ⟨_, exec_of_effect (f := fun t => t.passOver kind f) hrun rfl
      (State.passOver_foreign (s := s.latch inp) ht hi hfor), (State.drive_eq _).trans ?_⟩
    simp [State.hunt, State.latch]
  · have hreqkind : isRequestKind kind = true := by simp [isRequestKind]; omega
    have hheard := State.telegram_heard hh hreqkind inp
    rw [catalogue_unknown (by omega), if_pos rfl] at hheard
    have hunknown : exec (.unknownRequestKind kind f inp) s = event inp (fun t => t.telegram kind f) s := by
      rw [← funext fun t : State => State.unknownKind_eq (s := t) (f := f) hk]
      rfl
    exact ⟨_, hunknown.trans hheard, s.onlyAnswered_refuse _ _ _ _⟩
  · have hsent : (s.latch inp).replySent inp = { s.latch inp with link := { s.link with
        path := .hunting, rx := [], reply := none, baud := s.cfg.line.baud,
        addr := unitAddress s.cfg.line.override s.link.straps } } := by
      obtain ⟨r, hr⟩ := Option.ne_none_iff_exists'.mp hreply
      simp [State.replySent, hr, hrestart]
    refine ⟨_, exec_of_effect (f := fun t => t.replySent inp) hrun rfl hsent, (State.drive_eq _).trans ?_⟩
    simp [State.latch, unitAddress]

end Sys2Proof.Machine
end

section
/-! PROOFS. What every request goes through (10.3, 10.5, 10.6): the checks of the link before its owner, the reply, the
watchdog, and the refusals BUSY and LOCKED. -/

namespace Sys2Proof.Machine

/-! ### The checks of the link (R156, R157, R160) -/

section
variable {c : Instr} {kind : Byte} {lengthOk : List Byte → Bool} {f : Frame} {inp : Inputs} {s : State}

theorem State.telegram_closed (h : s.link.path = .closed) : s.telegram kind f = s := if_pos h

/-- A request of an allowed length that is heard is answered by its owner (R160, R161). -/
theorem exec_owner (hreq : requestOf c = some (kind, lengthOk, f, inp)) (hh : s.hears kind f)
    (hlen : lengthOk f.payload = true) :
    exec c s = .next (((catalogue kind).2 f.payload (s.taken kind f inp)).1.answer kind f
      ((catalogue kind).2 f.payload (s.taken kind f inp)).2).drive := by
  obtain ⟨hexec, hcat, hk, -⟩ := exec_request (s := s) hreq
  rw [hexec, State.telegram_heard hh hk, hcat, if_pos hlen]

/-- A request of another length is answered BAD_LENGTH (R160). -/
theorem exec_badLength (hreq : requestOf c = some (kind, lengthOk, f, inp)) (hh : s.hears kind f)
    (hlen : lengthOk f.payload = false) :
    exec c s = .next ((s.taken kind f inp).answer kind f (resultByte .badLength)).drive := by
  obtain ⟨hexec, hcat, hk, -⟩ := exec_request (s := s) hreq
  rw [hexec, State.telegram_heard hh hk, hcat, if_neg (by simp [hlen])]

/-- An owner that leaves the part as it finds it makes a command that only answers. -/
theorem exec_refused {payload : List Byte} (hreq : requestOf c = some (kind, lengthOk, f, inp)) (hh : s.hears kind f)
    (hlen : lengthOk f.payload = true)
    (ho : (catalogue kind).2 f.payload (s.taken kind f inp) = (s.taken kind f inp, payload)) :
    ∃ t, exec c s = .next t ∧ s.onlyAnswered t kind f inp payload :=
  ⟨_, (exec_owner hreq hh hlen).trans (by rw [ho]), s.onlyAnswered_refuse _ _ _ _⟩

/-- An owner that leaves the link as it finds it makes a command that leads to its state with the reply. -/
theorem exec_granted {u : State} {payload : List Byte} (hreq : requestOf c = some (kind, lengthOk, f, inp))
    (hh : s.hears kind f) (hlen : lengthOk f.payload = true)
    (ho : (catalogue kind).2 f.payload (s.taken kind f inp) = (u, payload)) (hl : u.link = (s.taken kind f inp).link) :
    ∃ t, exec c s = .next t ∧ t = { u with link := s.replying kind f inp payload, out := t.out } :=
  ⟨_, (exec_owner hreq hh hlen).trans (by rw [ho]), State.drive_answer_eq hl payload⟩

end

/-- Settles O26. -/
theorem requestsPassTheLinkChecks : Obligations.RequestsPassTheLinkChecks := by
  unfold Obligations.RequestsPassTheLinkChecks
  intro c kind lengthOk f inp s hreq hrun hpay
  have hexec {v : State} (hv : (s.latch inp).telegram kind f = v) : exec c s = .next v.drive :=
    exec_of_effect hrun (exec_request hreq).1 hv
  refine ⟨fun hp => ?_, fun ht hbad => ?_, fun ht hi hfor => ?_, fun hh hlen => ?_⟩
  · exact ⟨_, hexec (State.telegram_closed (s := s.latch inp) hp), s.drive_latch_eq inp⟩
  · have hdiscard : (s.latch inp).telegram kind f = (s.latch inp).discard :=
      (State.telegram_taken (s := s.latch inp) ht).trans (State.judgeFrame_broken hbad)
    refine ⟨_, hexec hdiscard, ?_⟩
    simp only [State.drive_link, State.drive_cfg, State.drive_slots, State.drive_line, State.drive_schedule]
    rw [State.discard_eq]
    exact ⟨rfl, rfl, rfl, rfl, rfl, rfl, rfl⟩
  · have hforeign : (s.latch inp).telegram kind f = (s.latch inp).hunt :=
      (State.telegram_taken (s := s.latch inp) ht).trans (State.judgeFrame_foreign (s := s.latch inp) hpay hi (.inl hfor))
    exact ⟨_, hexec hforeign, State.drive_eq _⟩
  · exact ⟨_, exec_badLength hreq hh hlen, s.onlyAnswered_refuse _ _ _ _⟩

/-! ### The watchdog (R162) -/

/-- The link as the acceptance of a frame leaves it, but for the reply and what CLEAR LINK and RESTART do to it: the path
closed, LINK_LOST clear, the watchdog started in second `now` with the timeout of the settings. -/
def State.linkHeld (s : State) (now addr : Nat) (baud : Baud) : Prop :=
  s.link.path = .closed ∧ s.link.lost = false ∧ s.link.addr = addr ∧ s.link.baud = baud ∧ s.clock = now ∧
    s.link.watchdog = .start s.cfg.line.linkTimeout now

section
variable {s t u : State} {sc : Scope} {now addr : Nat} {baud : Baud}

theorem State.linkHeld.congr (h : s.linkHeld now addr baud) (hl : t.link = s.link) (hc : t.cfg.line = s.cfg.line)
    (hclock : t.clock = s.clock) : t.linkHeld now addr baud := by
  unfold State.linkHeld at h ⊢
  rw [hl, hc, hclock]
  exact h

theorem State.Act.linkHeld (h : State.Act sc s t) (hsc : sc.links = false) (hs : s.linkHeld now addr baud) :
    t.linkHeld now addr baud := by
  cases h with
  | quiet hq =>
    obtain ⟨hpath, hlost, haddr, hbaud, hnow, hdog⟩ := hs
    obtain ⟨wlost, waddr, wbaud, wdog⟩ : t.link.lost = s.link.lost ∧ t.link.addr = s.link.addr ∧
      t.link.baud = s.link.baud ∧ t.link.watchdog = s.link.watchdog := by simpa only [Prod.mk.injEq] using hq.wire
    exact ⟨hq.path.trans hpath, wlost.trans hlost, waddr.trans haddr, wbaud.trans hbaud, hq.clock.trans hnow,
      by rw [wdog, hdog, hq.cfg]⟩
  | relink hl _ => rw [hsc] at hl; cases hl
  | book => rw [State.bookPlans_eq]; exact hs
  | start => rw [State.markExecuting_eq]; exact hs
  | set c _ _ hc => exact hs.congr rfl hc rfl
  | tune c _ _ =>
    obtain ⟨hpath, hlost, haddr, hbaud, rfl, -⟩ := hs
    exact ⟨hpath, hlost, haddr, hbaud, rfl, rfl⟩
  | _ => exact hs.congr rfl rfl rfl

theorem State.Act.posts (h : State.Act sc s t) (hsc : sc.reads = false) : s.events <+: t.events := by
  cases h with
  | quiet hq => exact hq.posts
  | relink _ hr => exact hr.posts
  | book => rw [State.bookPlans_eq]
  | start => rw [State.markExecuting_eq]
  | read hr => rw [hsc] at hr; cases hr
  | _ => exact List.prefix_rfl

/-- Events are posted at the end of the queue, and but by READ EVENTS none is taken away. -/
theorem State.Acts.posts (h : s.Acts sc t) (hsc : sc.reads = false) : s.events <+: t.events :=
  h.keeps (P := fun u => s.events <+: u.events) (fun hact ha => ha.trans (hact.posts hsc)) List.prefix_rfl

theorem owner_linkHeld (kind : Byte) (p : List Byte) (hs : s.linkHeld now addr baud) :
    ((catalogue kind).2 p s).1.linkHeld now addr baud := by
  have hlinks : (scopeOf kind).links = false := by unfold scopeOf; split <;> rfl
  rcases owner_acts s kind p with h | ⟨-, h⟩
  · exact h.keeps (P := fun u => u.linkHeld now addr baud) (fun hact => hact.linkHeld hlinks) hs
  · exact h.keeps (P := fun u => u.linkHeld now addr baud) (fun hact => hact.linkHeld hlinks) (hs.congr rfl rfl rfl)

theorem owner_posts {kind : Byte} (hk : kind ≠ 0x19#8) (p : List Byte) : s.events <+: ((catalogue kind).2 p s).1.events := by
  have hreads : (scopeOf kind).reads = false := by
    rw [ne_eq, ← BitVec.toNat_inj] at hk
    unfold scopeOf
    split <;> first | rfl | exact absurd ‹_› hk
  rcases owner_acts s kind p with h | ⟨-, h⟩
  · exact h.posts hreads
  · exact h.posts hreads

theorem State.taken_linkHeld (s : State) (kind : Byte) (f : Frame) (inp : Inputs) :
    (s.taken kind f inp).linkHeld s.clock s.link.addr s.link.baud := by
  unfold State.linkHeld State.taken
  rw [State.accept_eq]
  exact ⟨rfl, rfl, rfl, rfl, rfl, rfl⟩

/-- With LINK_LOST set, the acceptance of a frame posts LINK_RESTORED (R162). -/
theorem State.taken_posted (kind : Byte) (f : Frame) (inp : Inputs) (hlost : s.link.lost = true) {x : Nat}
    (hx : s.link.watchdog = .expired x) :
    s.posted (s.taken kind f inp) .linkRestored 0 255 0 (min (s.clock - x) 65535) := by
  unfold State.taken State.accept State.touchWatchdog
  simp only [State.latch_link, hlost, if_true, State.postLine, State.sinceExpiry, hx]
  have hpost (w : State) (hw : w.clock = s.clock) : s.posted
      (w.post .linkRestored 0 255 0 (min (s.clock - x) 65535)).restartWatchdog .linkRestored 0 255 0
      (min (s.clock - x) 65535) := (State.posted_post hw).congr rfl
  exact hpost _ rfl

/-- Every owner answers: in each of its branches the payload begins with its result. -/
theorem owner_answers (kind : Byte) (p : List Byte) (s : State) : ((catalogue kind).2 p s).2 ≠ [] := by
  unfold catalogue
  split
  all_goals simp only [setLineOwner, setStationOwner, stationServiceOwner, setCurveOwner, setRecipeOwner, setPatternOwner,
    setBurstsOwner, setExhaustionOwner, readSettingOwner, storeOwner, restartOwner, modeOwner, admitOwner, abandonOwner,
    evacuateOwner, carriageClearOwner, clearFlagsOwner, readRackOwner, readStationOwner, readScheduleOwner,
    readTimelineOwner, setRouteOwner]
  all_goals repeat' split
  all_goals nofun

end

/-- Settles O27: the acceptance of the frame leaves the link as it must stand, and no owner but READ EVENTS takes an event
away. -/
theorem acceptedFramesTouchTheWatchdog : Obligations.AcceptedFramesTouchTheWatchdog := by
  unfold Obligations.AcceptedFramesTouchTheWatchdog
  intro c kind lengthOk f inp s hreq hh
  have haddr : s.link.addr < 256 := by rw [← hh.2.2.2.2]; exact f.addr.isLt
  have conclude {w : State} {payload : List Byte} (hexec : exec c s = .next (w.answer kind f payload).drive)
      (hw : w.linkHeld s.clock s.link.addr s.link.baud) (hpay : payload ≠ [])
      (hposts : c ≠ .readEvents f inp → (s.taken kind f inp).events <+: w.events) :
      ∃ t reply, exec c s = .next t ∧ t.link.path = .closed ∧ t.link.reply = some reply ∧
        reply.addr.toNat = s.link.addr ∧ reply.tag = f.tag ∧ reply.kind = kind + 0x80#8 ∧ reply.payload ≠ [] ∧
        t.link.lost = false ∧ t.link.addr = s.link.addr ∧ t.link.baud = s.link.baud ∧
        t.link.watchdog = (if t.cfg.line.linkTimeout = 0 then .off
          else .running (min (s.clock + t.cfg.line.linkTimeout) 4294967295)) ∧
        (s.link.lost = true → ∀ x, s.link.watchdog = .expired x → c ≠ .readEvents f inp →
          s.posted t .linkRestored 0 255 0 (min (s.clock - x) 65535)) := by
    obtain ⟨hpath, hlost, ha, hbaud, -, hdog⟩ := hw
    refine ⟨_, _, hexec, by simpa [State.answer] using hpath, by rw [State.drive_link]; rfl, ?_, rfl, rfl, hpay, ?_⟩
    · simp only [ha, BitVec.toNat_ofNat]
      omega
    · simp only [State.drive_link, State.drive_cfg, State.answer]
      exact ⟨hlost, ha, hbaud, hdog, fun hl x hx hne =>
        ((s.taken_posted kind f inp hl hx).of_prefix (hposts hne)).congr (State.drive_events _)⟩
  by_cases hlen : lengthOk f.payload = true
  · refine conclude (exec_owner hreq hh hlen) (owner_linkHeld _ _ (s.taken_linkHeld _ _ _)) (owner_answers _ _ _)
      fun hne => owner_posts ?_ _
    rintro rfl
    cases c <;> cases hreq
    exact hne rfl
  · exact conclude (exec_badLength hreq hh (by simpa using hlen)) (s.taken_linkHeld _ _ _) nofun fun _ => List.prefix_rfl

/-! ### BUSY and LOCKED (R13, R19) -/

/-- The ten requests that change settings look at the store before anything else (R19). -/
theorem owner_busy {c : Instr} {kind : Byte} {lengthOk : List Byte → Bool} {f : Frame} {inp : Inputs} {s : State}
    (hreq : requestOf c = some (kind, lengthOk, f, inp)) (hc : changesSettings c = true) (hb : s.storeBusy = true)
    (p : List Byte) : (catalogue kind).2 p s = (s, if kind = 0x07#8 then [6#8, 0#8] else [6#8]) := by
  cases c
  case setLine | setStation | stationService | setCurve | setRecipe | setPattern | setBursts | setRoute | store | restart =>
    cases hreq
    exact if_pos hb
  all_goals cases hc

/-- SET LINE, SET STATION and SET CURVE look at the lock next (R13). -/
theorem owner_locked {c : Instr} {kind : Byte} {lengthOk : List Byte → Bool} {f : Frame} {inp : Inputs} {s : State}
    (hreq : requestOf c = some (kind, lengthOk, f, inp)) (hc : c = .setLine f inp ∨ c = .setStation f inp ∨ c = .setCurve f inp)
    (hb : s.storeBusy = false) (hl : s.pins.lock = true) (p : List Byte) : (catalogue kind).2 p s = (s, [5#8]) := by
  have hnot : ¬ s.storeBusy = true := by simp [hb]
  rcases hc with rfl | rfl | rfl <;> cases hreq <;> exact (if_neg hnot).trans (if_pos hl)

/-- Settles O28. -/
theorem busyAndLockedRequestsAreRefused : Obligations.BusyAndLockedRequestsAreRefused := by
  unfold Obligations.BusyAndLockedRequestsAreRefused
  intro c kind lengthOk f inp s hreq hh hlen
  refine ⟨fun hbusy hc => ?_, fun hfree hlock hc => ?_⟩
  · exact exec_refused hreq hh hlen
      (owner_busy hreq hc (by simpa [State.storeBusy, Option.isSome_iff_ne_none] using hbusy) _)
  · refine exec_refused hreq hh hlen (owner_locked hreq hc (by simp [State.storeBusy, hfree]) ?_ _)
    rw [State.taken, State.accept_eq]
    exact hlock

end Sys2Proof.Machine
end

section
/-! PROOFS. Applies of a burst map (R121), and the passages of the line state with what follows them (R118, R144, R146). -/

namespace Sys2Proof.Machine

/-- A further event changes nothing but the event queue and the lost count of what is known of a state. -/
theorem State.post_of_eq {t x : State} {k : EventKind} {a b c d : Nat}
    (h : t = { x with events := t.events, lost := t.lost }) :
    t.post k a b c d = { x with events := (t.post k a b c d).events, lost := (t.post k a b c d).lost } :=
  (State.post_eq t k a b c d).trans (congrArg (fun u : State =>
    { u with events := (t.post k a b c d).events, lost := (t.post k a b c d).lost }) h)

/-- What an event leaves of the queue follows from the queue, the lost count and the clock. -/
theorem State.post_same {s u : State} {k : EventKind} {a b c d : Nat} (he : u.events = s.events) (hl : u.lost = s.lost)
    (hc : u.clock = s.clock) :
    (u.post k a b c d).events = (s.post k a b c d).events ∧ (u.post k a b c d).lost = (s.post k a b c d).lost := by
  unfold State.post
  rw [he, hl, hc]
  split <;> exact ⟨rfl, rfl⟩

/-! ### The lowest pair of a map (R121) -/

theorem mem_allStations {n : Nat} : n ∈ allStations ↔ 1 ≤ n ∧ n ≤ 16 := by
  simp [allStations]; omega

theorem allStations_sorted : allStations.Pairwise (· < ·) := by decide

/-- Of an ascending list that is cut at an element, the ones above it stand behind it. -/
theorem lt_of_mem_right {l₁ l₂ : List Nat} {a x : Nat} (h : (l₁ ++ a :: l₂).Pairwise (· < ·)) (hx : x ∈ l₂) : a < x :=
  List.rel_of_pairwise_cons (List.pairwise_append.mp h).2.1 hx

section
variable {tick : Burst → Nat} {m : List Burst} {i j : Nat}

/-- The search finds the lowest pair (R121). -/
theorem lowestShared_of_lowestPair (h : lowestPair tick m = some (i, j)) : lowestShared tick m i j := by
  obtain ⟨l₁, a, l₂, hrows, hrow, hbefore⟩ := List.findSome?_eq_some_iff.mp h
  obtain ⟨b, hb, hab⟩ := Option.map_eq_some_iff.mp hrow
  obtain ⟨rfl, rfl⟩ : a = i ∧ b = j := by simpa using hab
  obtain ⟨htest, k₁, k₂, hcols, hless⟩ := List.find?_eq_some_iff_append.mp hb
  simp only [Bool.and_eq_true, decide_eq_true_eq, beq_iff_eq] at htest
  obtain ⟨⟨⟨hlt, hea⟩, heb⟩, htick⟩ := htest
  have hrowsSorted := hrows ▸ allStations_sorted
  have hcolsSorted := hcols ▸ allStations_sorted
  have ha : a ∈ allStations := by rw [hrows]; simp
  have hb' : b ∈ allStations := by rw [hcols]; simp
  rw [mem_allStations] at ha hb'
  refine ⟨⟨ha.1, hlt, hb'.2, hea, heb, htick⟩, fun x y hxy => ?_⟩
  obtain ⟨hx1, hxylt, hy16, hex, hey, hxytick⟩ := hxy
  have hy : y ∈ allStations := mem_allStations.mpr ⟨by omega, hy16⟩
  have hx : x ∈ allStations := mem_allStations.mpr ⟨hx1, by omega⟩
  have htest : (decide (x < y) && (burstOf m x).enabled && (burstOf m y).enabled &&
      tick (burstOf m x) == tick (burstOf m y)) = true := by simp [hxylt, hex, hey, hxytick]
  rw [hrows, List.mem_append, List.mem_cons] at hx
  rcases hx with hx | rfl | hx
  · have hnone := Option.map_eq_none_iff.mp (hbefore x hx)
    exact absurd htest (List.find?_eq_none.mp hnone y hy)
  · right
    refine ⟨rfl, ?_⟩
    rw [hcols, List.mem_append, List.mem_cons] at hy
    rcases hy with hy | rfl | hy
    · have := hless y hy
      rw [htest] at this
      cases this
    · exact le_rfl
    · exact (lt_of_mem_right hcolsSorted hy).le
  · exact .inl (lt_of_mem_right hrowsSorted hx)

theorem lowestPair_iff : lowestPair tick m = some (i, j) ↔ lowestShared tick m i j := by
  refine ⟨lowestShared_of_lowestPair, fun h => ?_⟩
  cases hp : lowestPair tick m with
  | none => exact absurd h.1 (lowestPair_none hp)
  | some p =>
    have hp' := lowestShared_of_lowestPair (i := p.1) (j := p.2) hp
    have h1 := h.2 _ _ hp'.1
    have h2 := hp'.2 _ _ h.1
    obtain ⟨a, b⟩ := p
    simp only [Option.some.injEq, Prod.mk.injEq] at *
    omega

/-- A map is clear exactly where the search finds no clash (R121). -/
theorem clash_eq_none_iff : clash m = none ↔ mapClear m := by
  refine ⟨mapClear_of_clash, fun h => ?_⟩
  cases hp : clash m with
  | none => rfl
  | some p =>
    obtain ⟨⟨hi, hij, hj, hei, hej, htick⟩, -⟩ := lowestShared_of_lowestPair (i := p.1) (j := p.2) hp
    exact absurd htick (h _ _ hi hij hj hei hej)

theorem clash_of_not_mapClear (h : ¬ mapClear m) : ∃ i j, clash m = some (i, j) ∧ lowestShared (·.onTick) m i j := by
  cases hp : clash m with
  | none => exact absurd (clash_eq_none_iff.mp hp) h
  | some p => exact ⟨p.1, p.2, rfl, lowestShared_of_lowestPair hp⟩

end

/-! ### An apply (R121) -/

section
variable (s : State)

/-- The part with no apply pending. -/
def State.unpend (s : State) : State := { s with manifold := { s.manifold with applyPending := false } }

/-- The part with the staged map live. -/
def State.golive (s : State) : State := { s with cfg := { s.cfg with live := s.manifold.staged } }

/-- The courses an apply can take. -/
theorem State.applyBursts_cases :
    (∃ i j, clash s.manifold.staged = some (i, j) ∧ s.applyBursts = s.unpend.postLine .burstClash i j) ∨
    (clash s.manifold.staged = none ∧ ∃ i j, lowestPair (·.offTick) s.manifold.staged = some (i, j) ∧
      s.applyBursts = (s.unpend.golive.postLine .burstOffShared i j).postLine .burstApplied 0
        (burstChanges s.cfg.live s.manifold.staged)) ∨
    (clash s.manifold.staged = none ∧ lowestPair (·.offTick) s.manifold.staged = none ∧
      s.applyBursts = s.unpend.golive.postLine .burstApplied 0 (burstChanges s.cfg.live s.manifold.staged)) := by
  unfold State.applyBursts
  simp only
  split
  · next i j h => exact .inl ⟨i, j, h, rfl⟩
  · next h =>
    cases hp : lowestPair (·.offTick) s.manifold.staged with
    | some p => exact .inr (.inl ⟨h, p.1, p.2, rfl, rfl⟩)
    | none => exact .inr (.inr ⟨h, rfl, rfl⟩)

theorem State.applyBursts_eq :
    s.applyBursts = { s with
      cfg := { s.cfg with live := s.applyBursts.cfg.live }
      manifold := { s.manifold with applyPending := false }
      events := s.applyBursts.events
      lost := s.applyBursts.lost } := by
  rcases s.applyBursts_cases with ⟨i, j, -, h⟩ | ⟨-, i, j, -, h⟩ | ⟨-, -, h⟩ <;> rw [h]
  · exact (State.post_of_eq (x := s.unpend) rfl).trans (by simp [State.postLine, State.unpend])
  · exact (State.post_of_eq (State.post_of_eq (x := s.unpend.golive) rfl)).trans
      (by simp [State.postLine, State.unpend, State.golive])
  · exact (State.post_of_eq (x := s.unpend.golive) rfl).trans (by simp [State.postLine, State.unpend, State.golive])

variable {s}

/-- An apply of a map with a clash leaves the live map and posts the lowest pair. -/
theorem State.applyBursts_of_clash {i j : Nat} (h : clash s.manifold.staged = some (i, j)) :
    s.applyBursts.cfg = s.cfg ∧ s.posted s.applyBursts .burstClash i 255 0 j := by
  rcases s.applyBursts_cases with ⟨x, y, hc, heq⟩ | ⟨hc, -⟩ | ⟨hc, -⟩
  · obtain ⟨rfl, rfl⟩ : i = x ∧ j = y := by simpa [h] using hc
    rw [heq]
    exact ⟨State.post_cfg _ _ _ _ _ _, State.posted_post rfl⟩
  · rw [h] at hc; cases hc
  · rw [h] at hc; cases hc

/-- An apply of a clear map makes it live and posts what R121 asks for. -/
theorem State.applyBursts_of_clear (h : clash s.manifold.staged = none) :
    s.applyBursts.cfg.live = s.manifold.staged ∧ s.burstsApplied s.applyBursts s.manifold.staged := by
  rcases s.applyBursts_cases with ⟨x, y, hc, -⟩ | ⟨-, i, j, hp, heq⟩ | ⟨-, hp, heq⟩
  · rw [h] at hc; cases hc
  · rw [heq]
    refine ⟨by simp [State.postLine, State.unpend, State.golive], State.posted_post (State.post_clock _ _ _ _ _ _),
      fun x y hxy => ?_⟩
    obtain ⟨rfl, rfl⟩ : i = x ∧ j = y := by simpa [lowestPair_iff.mpr hxy, eq_comm] using hp
    exact State.posted.of_prefix (State.posted_post (u := s.unpend.golive) rfl) (State.events_prefix_post _ _ _ _ _ _)
  · rw [heq]
    refine ⟨by simp [State.postLine, State.unpend, State.golive], State.posted_post rfl, fun x y hxy => ?_⟩
    rw [lowestPair_iff.mpr hxy] at hp
    cases hp

end

/-! ### The manifold after the line state (R118) -/

section
variable (s : State)

/-- The manifold at rest at tick 0, before a pending apply. -/
def State.manifoldStopped : State :=
  { s with manifold := { s.manifold with running := false, tick := 0, valves := s.manifold.valves.map fun _ => false } }

theorem State.stopManifold_cases :
    s.stopManifold = if s.manifold.applyPending = true then s.manifoldStopped.applyBursts else s.manifoldStopped := rfl

theorem State.stopManifold_eq :
    s.stopManifold = { s with
      cfg := { s.cfg with live := s.stopManifold.cfg.live }
      manifold := { s.manifold with
        running := false, tick := 0, applyPending := false, valves := s.manifold.valves.map fun _ => false }
      events := s.stopManifold.events
      lost := s.stopManifold.lost } := by
  rw [State.stopManifold_cases]
  split
  · exact State.applyBursts_eq _
  · next h => simp [show s.manifold.applyPending = false by simpa using h, State.manifoldStopped]

theorem State.followLineState_eq (st : LineState) :
    s.followLineState st = { s with
      cfg := { s.cfg with live := (s.followLineState st).cfg.live }
      manifold := (s.followLineState st).manifold
      events := (s.followLineState st).events
      lost := (s.followLineState st).lost } := by
  unfold State.followLineState
  split
  · split <;> rfl
  · split
    · conv_lhs => rw [State.stopManifold_eq]
      rw [State.stopManifold_eq]
    · rfl

theorem State.followLineState_running (st : LineState) : (s.followLineState st).manifold.running = st.runsManifold := by
  unfold State.followLineState
  split
  · next h => split <;> simp_all [State.startManifold]
  · next h => split
              · rw [State.stopManifold_eq]; simpa using h
              · simp_all

theorem State.followLineState_of_runs {st : LineState} (h : st.runsManifold = true) :
    s.followLineState st = { s with manifold := { s.manifold with
      running := true, tick := if s.manifold.running = true then s.manifold.tick else 0 } } := by
  unfold State.followLineState
  rw [if_pos h]
  split
  · next hr =>
    have hrun : s.manifold = { s.manifold with running := true } := by rw [← hr]
    exact congrArg (fun m : Manifold => { s with manifold := m }) hrun
  · rfl

/-! ### Passages (R143, R144, R146) -/

/-- The part after the event of a passage. -/
def State.notified (st : LineState) (cause : LineCause) : State :=
  (s.entered st).postLine .lineState 0 (st.code * 256 + cause.code)

/-- A passage changes the line, the manifold with the live map, the fault-cleared indication, the event queue and, into
DORMANT, the pump. -/
theorem State.enterLine_frame (st : LineState) (cause : LineCause) :
    s.enterLine st cause = { s with
      cfg := { s.cfg with live := (s.enterLine st cause).cfg.live }
      line := (s.entered st).line
      driver := (s.entered st).driver
      manifold := (s.enterLine st cause).manifold
      deliveries := if st = .dormant then s.deliveries.map (fun d => { d with running := false }) else s.deliveries
      pump := if st = .dormant then none else s.pump
      events := (s.enterLine st cause).events
      lost := (s.enterLine st cause).lost } := by
  have hnotified : s.notified st cause = { s.entered st with
      events := (s.notified st cause).events, lost := (s.notified st cause).lost } := State.post_eq _ _ _ _ _ _
  have hannounced : s.announced st cause = { s.entered st with
      cfg := { s.cfg with live := (s.announced st cause).cfg.live }
      manifold := (s.announced st cause).manifold
      events := (s.announced st cause).events
      lost := (s.announced st cause).lost } := by
    refine ((s.notified st cause).followLineState_eq st).trans ?_
    have hcfg : (s.notified st cause).cfg = s.cfg := State.post_cfg _ _ _ _ _ _
    rw [hcfg]
    exact congrArg (fun u : State => { u with
      cfg := { s.cfg with live := (s.announced st cause).cfg.live }
      manifold := (s.announced st cause).manifold
      events := (s.announced st cause).events
      lost := (s.announced st cause).lost }) hnotified
  by_cases h : st = .dormant
  · simp only [State.enterLine_eq, if_pos h]
    exact congrArg State.stopPump hannounced
  · simp only [State.enterLine_eq, if_neg h]
    exact hannounced

variable {s}

theorem State.enterLine_running (st : LineState) (cause : LineCause) :
    (s.enterLine st cause).manifold.running = st.runsManifold := by
  have hrunning : (s.announced st cause).manifold.running = st.runsManifold := State.followLineState_running _ st
  by_cases h : st = .dormant
  · rw [State.enterLine_eq, if_pos h]; exact hrunning
  · rw [State.enterLine_eq, if_neg h]; exact hrunning

/-- A passage posts LINE_STATE with the state entered and the cause (R143). -/
theorem State.enterLine_posted (st : LineState) (cause : LineCause) :
    s.posted (s.enterLine st cause) .lineState 0 255 0 (st.code * 256 + cause.code) := by
  have hnotified : s.posted (s.notified st cause) .lineState 0 255 0 (st.code * 256 + cause.code) := State.posted_post rfl
  have hfollow : (s.notified st cause).events <+: (s.announced st cause).events := by
    have hst : (s.notified st cause).line.state = st := congrArg (·.state) (State.post_line _ _ _ _ _ _)
    have h := (State.acts_followLineState (sc := {}) (s.notified st cause)).posts rfl
    rwa [hst] at h
  by_cases h : st = .dormant
  · rw [State.enterLine_eq, if_pos h]; exact hnotified.of_prefix hfollow
  · rw [State.enterLine_eq, if_neg h]; exact hnotified.of_prefix hfollow

/-- A passage into a state in which the manifold runs leaves the maps and the valves (R118). -/
theorem State.enterLine_of_runs {st : LineState} (h : st.runsManifold = true) (cause : LineCause) :
    s.enterLine st cause = { s with
      line := (s.entered st).line
      driver := (s.entered st).driver
      manifold := { s.manifold with running := true, tick := if s.manifold.running = true then s.manifold.tick else 0 }
      events := (s.post .lineState 0 255 0 (st.code * 256 + cause.code)).events
      lost := (s.post .lineState 0 255 0 (st.code * 256 + cause.code)).lost } := by
  have hne : st ≠ .dormant := by rintro rfl; cases h
  have hpost := State.post_same (u := s.entered st) (k := .lineState) (a := 0) (b := 255) (c := 0)
    (d := st.code * 256 + cause.code) (s := s) rfl rfl rfl
  have hfollow : s.announced st cause = { s.notified st cause with manifold := { s.manifold with
      running := true, tick := if s.manifold.running = true then s.manifold.tick else 0 } } := by
    have hmanifold : (s.notified st cause).manifold = s.manifold := State.post_manifold _ _ _ _ _ _
    rw [← hmanifold]
    exact State.followLineState_of_runs _ h
  rw [State.enterLine_eq, if_neg hne, hfollow, ← hpost.1, ← hpost.2]
  exact congrArg (fun u : State => { u with manifold := { s.manifold with
      running := true, tick := if s.manifold.running = true then s.manifold.tick else 0 } })
    (State.post_eq (s.entered st) .lineState 0 255 0 (st.code * 256 + cause.code))

end

end Sys2Proof.Machine
end

section
/-! PROOFS. LINK_WATCHDOG_EXPIRY and MODE: the passages a command of the link and a request make (9.2, 9.6, 10.6). -/

namespace Sys2Proof.Machine

section
variable {s t u : State}

theorem State.posted.of_clock {k : EventKind} {a b c d : Nat} (h : u.posted t k a b c d) (hc : u.clock = s.clock) :
    s.posted t k a b c d := by
  unfold State.posted at h ⊢
  rwa [← hc]

/-! ### Passages and drains, field by field -/

variable (s) (st : LineState) (cause : LineCause)

@[simp] theorem State.enterLine_link : (s.enterLine st cause).link = s.link := by rw [State.enterLine_frame]
@[simp] theorem State.enterLine_slots : (s.enterLine st cause).slots = s.slots := by rw [State.enterLine_frame]
@[simp] theorem State.enterLine_schedule : (s.enterLine st cause).schedule = s.schedule := by rw [State.enterLine_frame]
@[simp] theorem State.enterLine_clock : (s.enterLine st cause).clock = s.clock := by rw [State.enterLine_frame]
@[simp] theorem State.enterLine_line : (s.enterLine st cause).line = (s.entered st).line := by rw [State.enterLine_frame]
@[simp] theorem State.enterLine_driver : (s.enterLine st cause).driver = (s.entered st).driver := by
  rw [State.enterLine_frame]

/-- A drain that is asked for is a passage with its target set, or a passage to the target at once (R149). -/
theorem State.beginDrain_eq (target : LineState) :
    s.beginDrain target cause =
      if s.someRack s.countsForDrain = true then (s.setDrainTarget (some target)).enterLine .draining cause
      else (s.setDrainTarget none).enterLine target cause := rfl

theorem State.beginDrain_frame (target : LineState) :
    (s.beginDrain target cause).link = s.link ∧ (s.beginDrain target cause).slots = s.slots ∧
    (s.beginDrain target cause).schedule = s.schedule := by
  rw [State.beginDrain_eq]
  split <;> simp [State.setDrainTarget]

end

/-! ### The watchdog expires (R151, R162) -/

/-- The part with the expiry noted and posted, before the link-lost action. -/
def State.linkLost (s : State) : State :=
  { s with link := { s.link with watchdog := .expired s.clock, lost := true } }.postLine .linkLost 0 s.cfg.line.linkTimeout

section
variable {s : State} {x : Nat}

theorem State.watchdogExpiry_of_running (h : s.link.watchdog = .running x) :
    s.watchdogExpiry = if x ≤ s.clock then s.linkLost.linkLostAction else s := by
  simp [State.watchdogExpiry, h, State.linkLost]

theorem State.linkLost_eq (s : State) : s.linkLost = { s with
    link := { s.link with watchdog := .expired s.clock, lost := true }
    events := s.linkLost.events
    lost := s.linkLost.lost } := State.post_eq _ _ _ _ _ _

theorem State.linkLostAction_frame (s : State) :
    s.linkLostAction.link = s.link ∧ s.linkLostAction.slots = s.slots ∧ s.linkLostAction.schedule = s.schedule := by
  unfold State.linkLostAction
  split
  · exact s.beginDrain_frame _ _
  · simp
  · exact ⟨rfl, rfl, rfl⟩

theorem State.linkLostAction_of_other
    (h : s.cfg.line.lostAction = .continue ∨ (s.line.state ≠ .ready ∧ s.line.state ≠ .warmup)) : s.linkLostAction = s := by
  unfold State.linkLostAction
  split
  · next ha hl => rcases h with h | h <;> simp_all
  · next ha hl => rcases h with h | h <;> simp_all
  · rfl

theorem State.linkLostAction_of_warmup (ha : s.cfg.line.lostAction = .drain) (h : s.line.state = .warmup) :
    s.linkLostAction = s.enterLine .standby .linkLost := by
  simp [State.linkLostAction, ha, h]

theorem State.linkLostAction_of_ready (ha : s.cfg.line.lostAction = .drain) (h : s.line.state = .ready) :
    s.linkLostAction = s.beginDrain .standby .linkLost := by
  simp [State.linkLostAction, ha, h]

end

/-- Settles O23. -/
theorem watchdogExpires : Obligations.WatchdogExpires := by
  unfold Obligations.WatchdogExpires
  intro inp s x hrun hdog
  have hexpiry := State.watchdogExpiry_of_running (s := s.latch inp) (x := x) hdog
  refine ⟨fun hlt => ?_, fun hle => ?_⟩
  · rw [if_neg (by simpa using hlt)] at hexpiry
    exact ⟨_, exec_of_effect hrun rfl hexpiry, s.drive_latch_eq inp⟩
  rw [if_pos (show x ≤ (s.latch inp).clock from hle)] at hexpiry
  have hlost := (s.latch inp).linkLost_eq
  obtain ⟨hlink, hslots, hschedule⟩ := (s.latch inp).linkLost.linkLostAction_frame
  have hclock : (s.latch inp).linkLost.clock = s.clock := by rw [hlost]; rfl
  have hline : (s.latch inp).linkLost.line = s.line := by rw [hlost]; rfl
  have haction : (s.latch inp).linkLost.cfg = s.cfg := by rw [hlost]; rfl
  have hposted : s.posted (s.latch inp).linkLost .linkLost 0 255 0 s.cfg.line.linkTimeout := State.posted_post rfl
  have hposts := (State.acts_linkLostAction (sc := {}) (s.latch inp).linkLost).posts rfl
  refine ⟨_, exec_of_effect hrun rfl hexpiry, ?_, ?_, (hposted.of_prefix hposts).congr (State.drive_events _), fun h => ?_,
    fun ha h => ?_, fun ha h => ?_, ?_, ?_⟩
  · rw [State.drive_link, hlink, hlost]
  · rw [State.drive_link, hlink, hlost]; rfl
  · rw [State.linkLostAction_of_other (by rwa [hline, haction])]
    refine (State.drive_of_eq hlost).trans ?_
    simp [State.latch]
  · rw [State.linkLostAction_of_warmup (by rwa [haction]) (by rwa [hline])]
    refine ⟨by simp [State.entered], by simp [State.entered], by simp [State.enterLine_running, LineState.runsManifold], ?_⟩
    exact ((State.enterLine_posted .standby .linkLost).of_clock hclock).congr (State.drive_events _)
  · rw [State.linkLostAction_of_ready (by rwa [haction]) (by rwa [hline]), State.beginDrain_eq]
    have hcounts : (s.latch inp).linkLost.someRack (s.latch inp).linkLost.countsForDrain = s.someRack s.countsForDrain := by
      rw [hlost]; rfl
    rw [hcounts]
    split
    · refine ⟨by simp [State.entered], by simp [State.entered, State.setDrainTarget], ?_⟩
      exact ((State.enterLine_posted .draining .linkLost).of_clock (by exact hclock)).congr (State.drive_events _)
    · refine ⟨by simp [State.entered], by simp [State.enterLine_running, LineState.runsManifold], ?_⟩
      exact ((State.enterLine_posted .standby .linkLost).of_clock (by exact hclock)).congr (State.drive_events _)
  · rw [State.drive_slots, hslots, hlost]; rfl
  · rw [State.drive_schedule, hschedule, hlost]; rfl

end Sys2Proof.Machine
end

section
/-! PROOFS. The end of a rack (4.4, 4.5) and what it brings about for the line (6.11, 9.4, 9.5). -/

namespace Sys2Proof.Machine

/-! ### What the end of a rack or of a move brings about for the line -/

/-- Nothing has changed but the line, the manifold with the live map, the fault-cleared indication, the pump with its queue,
the evacuation order and the event queue, which has only grown. -/
inductive State.Settled (s : State) : State → Prop
  | mk (live : List Burst) (line : Line) (cleared : Bool) (manifold : Manifold) (deliveries : List Delivery)
      (pump : Option PumpRun) (events : List Event) (lost : Nat) (order : List Nat) (h : s.events <+: events) :
      Settled s { s with
        cfg := { s.cfg with live := live }, line := line, driver := { s.driver with faultCleared := cleared },
        manifold := manifold, deliveries := deliveries, pump := pump, events := events, lost := lost, evacOrder := order }

section
variable {s t u : State}

theorem State.Settled.refl (s : State) : s.Settled s :=
  .mk s.cfg.live s.line s.driver.faultCleared s.manifold s.deliveries s.pump s.events s.lost s.evacOrder List.prefix_rfl

theorem State.Settled.trans (h : s.Settled t) (h' : t.Settled u) : s.Settled u := by
  obtain ⟨live, line, cleared, manifold, deliveries, pump, events, lost, order, hev⟩ := h
  obtain ⟨live', line', cleared', manifold', deliveries', pump', events', lost', order', hev'⟩ := h'
  exact .mk live' line' cleared' manifold' deliveries' pump' events' lost' order' (hev.trans hev')

theorem State.Settled.slots (h : s.Settled t) : t.slots = s.slots := by cases h; rfl
theorem State.Settled.completions (h : s.Settled t) : t.completions = s.completions := by cases h; rfl
theorem State.Settled.schedule (h : s.Settled t) : t.schedule = s.schedule := by cases h; rfl
theorem State.Settled.timelines (h : s.Settled t) : t.timelines = s.timelines := by cases h; rfl
theorem State.Settled.link (h : s.Settled t) : t.link = s.link := by cases h; rfl
theorem State.Settled.clock (h : s.Settled t) : t.clock = s.clock := by cases h; rfl
theorem State.Settled.posts (h : s.Settled t) : s.events <+: t.events := by cases h; assumption

theorem State.settled_post (s : State) (k : EventKind) (a b c d : Nat) : s.Settled (s.post k a b c d) := by
  rw [State.post_eq]
  exact .mk s.cfg.live s.line s.driver.faultCleared s.manifold s.deliveries s.pump _ _ s.evacOrder
    (State.events_prefix_post _ _ _ _ _ _)

theorem State.settled_enterLine (s : State) (st : LineState) (cause : LineCause) : s.Settled (s.enterLine st cause) := by
  have hposts := (s.acts_enterLine (sc := { modes := true }) (.inl rfl) st cause).posts rfl
  have hframe := s.enterLine_frame st cause
  generalize (s.enterLine st cause) = t at hposts hframe
  rw [hframe]
  exact .mk t.cfg.live (s.entered st).line (s.entered st).driver.faultCleared t.manifold _ _ t.events t.lost s.evacOrder hposts

theorem State.settled_setDrainTarget (s : State) (target : Option LineState) : s.Settled (s.setDrainTarget target) :=
  .mk s.cfg.live { s.line with drainTarget := target } s.driver.faultCleared s.manifold s.deliveries s.pump s.events s.lost
    s.evacOrder List.prefix_rfl

theorem State.settled_leaveEvacuation (s : State) (k : Nat) : s.Settled (s.leaveEvacuation k) := by
  unfold State.leaveEvacuation
  have hleft : s.Settled { s with evacOrder := s.evacOrder.filter (· != k) } :=
    .mk s.cfg.live s.line s.driver.faultCleared s.manifold s.deliveries s.pump s.events s.lost _ List.prefix_rfl
  split
  · simp only
    split
    · exact hleft.trans (State.settled_post _ _ _ _ _ _)
    · exact hleft
  · exact .refl s

theorem State.settled_judgeRecovery (s : State) : s.Settled s.judgeRecovery := by
  unfold State.judgeRecovery
  split
  · exact s.settled_enterLine _ _
  · exact .refl s

theorem State.settled_judgeDrain (s : State) : s.Settled s.judgeDrain := by
  unfold State.judgeDrain
  split
  · exact (s.settled_setDrainTarget none).trans (State.settled_enterLine _ _ _)
  · exact .refl s

theorem State.settled_settleLine (s : State) (k : Nat) : s.Settled (s.settleLine k) :=
  (s.settled_leaveEvacuation k).trans ((State.settled_judgeRecovery _).trans (State.settled_judgeDrain _))

/-- A line FAULTED with the fault not cleared, and no evacuation taken, has nothing to settle. -/
theorem State.settleLine_of_fault {k : Nat} (hl : s.line.state = .faulted) (hc : s.driver.faultCleared = false)
    (he : s.evacOrder = []) : s.settleLine k = s := by
  have hleave : s.leaveEvacuation k = s := by simp [State.leaveEvacuation, he]
  have hrecovery : s.judgeRecovery = s := by simp [State.judgeRecovery, State.recoverable, hc]
  have hdrain : s.judgeDrain = s := by simp [State.judgeDrain, hl]
  rw [State.settleLine, hleave, hrecovery, hdrain]

/-! ### The end of a rack (R59) -/

/-- The part with the rack of a slot ended and its record filed, before what that brings about for the line. -/
def State.rackEnds (s : State) (k n : Nat) (r : Rack) (outcome : RackOutcome) : State :=
  (((s.forgetRack k r).setRack k (r.endedWith outcome s.clock)).post .rackRemoved n k r.tag outcome.code).fileRack k
    (r.endedWith outcome s.clock)

theorem State.endRack_eq {k n : Nat} {r : Rack} {outcome : RackOutcome} (h : s.rack k = some r) :
    s.endRack k n outcome = (s.rackEnds k n r outcome).settleLine k := by
  simp [State.endRack, h, State.rackEnds]

/-- Forgetting a rack takes its bookings, its intervals, its plan and its deferred place, and closes its valve. -/
theorem State.forgetRack_eq (s : State) (k : Nat) (r : Rack) :
    s.forgetRack k r = { s with
      schedule := dropBooked k s.schedule
      timelines := s.timelines.map fun l => l.filter (·.slot != k)
      deferred := s.deferred.filter (·.slot != k)
      driver := (s.removeBooked k).driver
      plans := s.plans.filter (·.slot != k)
      manifold := { s.manifold with valves := setStation s.manifold.valves r.station false } } := by
  simp only [State.forgetRack, State.dropPlan, State.removeIntervals, State.mapTimelines, State.removeBooked, State.setValve]
  congr 1

/-- Filing a record touches the slot and the completion queue alone. -/
theorem State.fileRack_eq (s : State) (k : Nat) (r : Rack) :
    s.fileRack k r = { s with slots := (s.fileRack k r).slots, completions := (s.fileRack k r).completions } := by
  unfold State.fileRack
  split <;> rfl

theorem State.rackEnds_eq (s : State) (k n : Nat) (r : Rack) (outcome : RackOutcome) :
    s.rackEnds k n r outcome = { s.forgetRack k r with
      slots := (s.rackEnds k n r outcome).slots
      completions := (s.rackEnds k n r outcome).completions
      events := (s.post .rackRemoved n k r.tag outcome.code).events
      lost := (s.post .rackRemoved n k r.tag outcome.code).lost } := by
  have hpost := State.post_same (u := (s.forgetRack k r).setRack k (r.endedWith outcome s.clock)) (k := .rackRemoved) (a := n)
    (b := k) (c := r.tag) (d := outcome.code) (s := s) (by rw [State.setRack_events, State.forgetRack_eq])
    (by rw [State.setRack_lost, State.forgetRack_eq]) (by rw [State.setRack_clock, State.forgetRack_eq])
  refine (State.fileRack_eq _ _ _).trans ?_
  rw [← hpost.1, ← hpost.2]
  exact congrArg (fun u : State => { u with
      slots := (s.rackEnds k n r outcome).slots, completions := (s.rackEnds k n r outcome).completions })
    (State.post_eq _ _ _ _ _ _)

variable {k n : Nat} {r : Rack} {outcome : RackOutcome}

/-- The end of a rack touches no other slot. -/
theorem State.rackEnds_rack_other {j : Nat} (hj : j ≠ k) : (s.rackEnds k n r outcome).rack j = s.rack j := by
  unfold State.rackEnds State.fileRack
  split
  · rw [State.rack_freeSlot_other _ hj]
    refine (State.rack_congr (State.post_slots _ _ _ _ _ _) j).trans ?_
    rw [State.rack_setRack_other _ _ hj]
    exact State.rack_congr (s.forgetRack_slots k r) j
  · rw [State.rack_setRack_other _ _ hj]
    refine (State.rack_congr (State.post_slots _ _ _ _ _ _) j).trans ?_
    rw [State.rack_setRack_other _ _ hj]
    exact State.rack_congr (s.forgetRack_slots k r) j

/-- The end of a rack leaves its record in the completion queue and its slot free, or the rack AWAITING_REPORT (R59, R64). -/
theorem State.rackEnds_ended (h : s.rack k = some r) : s.rackEnded (s.rackEnds k n r outcome) k r outcome := by
  unfold State.rackEnds State.fileRack
  have hcompletions : (((s.forgetRack k r).setRack k (r.endedWith outcome s.clock)).post .rackRemoved n k r.tag
      outcome.code).completions = s.completions := by
    rw [State.post_completions, State.setRack_completions, State.forgetRack_eq]
  have hslots : (((s.forgetRack k r).setRack k (r.endedWith outcome s.clock)).post .rackRemoved n k r.tag
      outcome.code).slots.length = s.slots.length := by simp [State.forgetRack_slots]
  split
  · left
    exact ⟨State.rack_freeSlot_same _ _, _, List.mem_append_right _ List.mem_cons_self, rfl, rfl, rfl, rfl, rfl⟩
  · next hfull =>
    right
    refine ⟨?_, _, State.rack_setRack_same _ _ (by rw [hslots]; exact State.rack_lt h), rfl, rfl, rfl, rfl, rfl⟩
    simp only [hcompletions, Config.completionCapacity] at hfull
    simp only [State.setRack_completions, hcompletions]
    omega

theorem State.rackEnds_completions : s.completions <+: (s.rackEnds k n r outcome).completions := by
  have hcompletions : (((s.forgetRack k r).setRack k (r.endedWith outcome s.clock)).post .rackRemoved n k r.tag
      outcome.code).completions = s.completions := by
    rw [State.post_completions, State.setRack_completions, State.forgetRack_eq]
  unfold State.rackEnds State.fileRack
  split
  · simp only [State.freeSlot_completions, hcompletions]
    exact List.prefix_append _ _
  · simp only [State.setRack_completions, hcompletions]
    exact List.prefix_rfl

theorem State.rackEnds_posted : s.posted (s.rackEnds k n r outcome) .rackRemoved n k r.tag outcome.code := by
  rw [State.rackEnds_eq]
  exact (State.posted_post (u := s) rfl).congr rfl

theorem State.rackEnded.congr (h : s.rackEnded t k r outcome) (hr : u.rack k = t.rack k)
    (hc : t.completions <+: u.completions) : s.rackEnded u k r outcome := by
  rcases h with ⟨hnone, c, hmem, hrec⟩ | ⟨hfull, q, hq, hrec⟩
  · exact .inl ⟨hr.trans hnone, c, hc.subset hmem, hrec⟩
  · exact .inr ⟨hfull.trans hc.length_le, q, hr.trans hq, hrec⟩

end

end Sys2Proof.Machine
end

section
/-! PROOFS. A carriage fault (4.7, 6.9, 9.5): what it leaves of the Driver, the line, the plans and every rack. -/

namespace Sys2Proof.Machine

/-! ### The racks at a fault (R69) -/

/-- The line is FAULTED with the fault not cleared, and nothing is planned (R108, R109). -/
structure State.FaultHeld (s : State) : Prop where
  state : s.line.state = .faulted
  cleared : s.driver.faultCleared = false
  evacOrder : s.evacOrder = []
  schedule : s.schedule = []
  timelines : ∀ l ∈ s.timelines, l = []
  deferred : s.deferred = []

/-- Nothing has changed but racks with the completion queue, plans of dunks, valves, the event queue, and the entry the Driver
works on, which may be gone. -/
inductive State.RackWork (s : State) : State → Prop
  | mk (slots : List (Option Rack)) (completions : List Completion) (plans : List DunkPlan) (valves : List Bool)
      (entry : Option (Nat × Nat)) (events : List Event) (lost : Nat) (hc : s.completions <+: completions)
      (hen : entry = none ∨ entry = s.driver.entry) (hev : s.events <+: events) :
      RackWork s { s with
        slots := slots, completions := completions, plans := plans, manifold := { s.manifold with valves := valves },
        driver := { s.driver with entry := entry }, events := events, lost := lost }

section
variable {s t u v : State} {k : Nat} {r : Rack}

theorem State.RackWork.refl (s : State) : s.RackWork s :=
  .mk s.slots s.completions s.plans s.manifold.valves s.driver.entry s.events s.lost List.prefix_rfl (.inr rfl) List.prefix_rfl

theorem State.RackWork.trans (h : s.RackWork t) (h' : t.RackWork u) : s.RackWork u := by
  obtain ⟨slots, completions, plans, valves, entry, events, lost, hc, hen, hev⟩ := h
  obtain ⟨slots', completions', plans', valves', entry', events', lost', hc', hen', hev'⟩ := h'
  refine .mk slots' completions' plans' valves' entry' events' lost' (hc.trans hc') ?_ (hev.trans hev')
  rcases hen' with h | h
  · exact .inl h
  · rcases hen with h' | h'
    · exact .inl (h.trans h')
    · exact .inr (h.trans h')

theorem State.RackWork.clock (h : s.RackWork t) : t.clock = s.clock := by cases h; rfl
theorem State.RackWork.cfg (h : s.RackWork t) : t.cfg = s.cfg := by cases h; rfl
theorem State.RackWork.line (h : s.RackWork t) : t.line = s.line := by cases h; rfl
theorem State.RackWork.driver (h : s.RackWork t) : t.driver = { s.driver with entry := t.driver.entry } := by cases h; rfl
theorem State.RackWork.entry (h : s.RackWork t) : t.driver.entry = none ∨ t.driver.entry = s.driver.entry := by
  cases h; assumption
theorem State.RackWork.posts (h : s.RackWork t) : s.events <+: t.events := by cases h; assumption
theorem State.RackWork.completions (h : s.RackWork t) : s.completions <+: t.completions := by cases h; assumption

theorem State.RackWork.standsInBath (h : s.RackWork t) (r : Rack) : t.standsInBath r = s.standsInBath r := by
  cases h; rfl

theorem State.RackWork.held (h : s.RackWork t) (hs : s.FaultHeld) : t.FaultHeld := by
  cases h
  exact ⟨hs.state, hs.cleared, hs.evacOrder, hs.schedule, hs.timelines, hs.deferred⟩

theorem State.rackWork_setRack (s : State) (k : Nat) (r : Rack) : s.RackWork (s.setRack k r) :=
  .mk _ s.completions s.plans s.manifold.valves s.driver.entry s.events s.lost List.prefix_rfl (.inr rfl) List.prefix_rfl

/-- With nothing planned, forgetting a rack touches its plan of dunks and its valve. -/
theorem State.FaultHeld.forgetRack (hs : s.FaultHeld) (k : Nat) (r : Rack) :
    s.forgetRack k r = { s with
      driver := (s.removeBooked k).driver
      plans := s.plans.filter (·.slot != k)
      manifold := { s.manifold with valves := setStation s.manifold.valves r.station false } } := by
  have htimelines : (s.timelines.map fun l => l.filter (·.slot != k)) = s.timelines := by
    conv_rhs => rw [← List.map_id s.timelines]
    exact List.map_congr_left fun l hl => by rw [hs.timelines l hl]; rfl
  have hschedule : dropBooked k s.schedule = s.schedule := by rw [hs.schedule]; rfl
  have hdeferred : s.deferred.filter (·.slot != k) = s.deferred := by rw [hs.deferred]; rfl
  rw [State.forgetRack_eq, htimelines, hschedule, hdeferred]

theorem State.FaultHeld.endRack (hs : s.FaultHeld) {n : Nat} {outcome : RackOutcome} (h : s.rack k = some r) :
    s.endRack k n outcome = s.rackEnds k n r outcome ∧ s.RackWork (s.rackEnds k n r outcome) := by
  have hwork : s.RackWork (s.rackEnds k n r outcome) := by
    have hc := State.rackEnds_completions (s := s) (k := k) (n := n) (r := r) (outcome := outcome)
    have hframe := s.rackEnds_eq k n r outcome
    have hev := s.events_prefix_post .rackRemoved n k r.tag outcome.code
    rw [hs.forgetRack] at hframe
    generalize s.rackEnds k n r outcome = t at hc hframe
    rw [hframe]
    refine .mk t.slots t.completions _ _ (s.removeBooked k).driver.entry _ _ hc ?_ hev
    simp only [State.removeBooked]
    split
    · exact .inl rfl
    · exact .inr rfl
  have hheld := hwork.held hs
  rw [State.endRack_eq h, State.settleLine_of_fault hheld.state hheld.cleared hheld.evacOrder]
  exact ⟨rfl, hwork⟩

/-! ### One slot at a fault -/

theorem State.interruptRack_of_marked (h : s.rack k = some r)
    (hr : r.phase = .inBath ∨ r.phase = .onCarriage ∨ (r.phase = .orphan ∧ s.standsInBath r = true)) :
    s.interruptRack k = s.setRack k r.interrupt := by
  rcases hr with hp | hp | ⟨hp, hb⟩ <;> simp [State.interruptRack, h, hp]
  intro hb'
  rw [hb] at hb'
  cases hb'

theorem State.interruptRack_of_waiting (h : s.rack k = some r) (hr : r.phase = .waitingEntry) :
    s.interruptRack k = s.endRack k r.station .withdrawn := by
  simp [State.interruptRack, h, hr]

theorem State.interruptRack_of_left (h : s.rack k = some r)
    (hr : r.phase = .atUnload ∨ r.phase = .awaitingReport ∨ (r.phase = .orphan ∧ s.standsInBath r = false)) :
    s.interruptRack k = s := by
  rcases hr with hp | hp | ⟨hp, hb⟩ <;> simp [State.interruptRack, h, hp]
  intro hb'
  rw [hb] at hb'
  cases hb'

/-- The courses of one slot at a fault. -/
theorem State.FaultHeld.interruptRack (hs : s.FaultHeld) (k : Nat) :
    s.RackWork (s.interruptRack k) ∧ ∀ j, j ≠ k → (s.interruptRack k).rack j = s.rack j := by
  cases h : s.rack k with
  | none =>
    have hnone : s.interruptRack k = s := by simp [State.interruptRack, h]
    rw [hnone]
    exact ⟨.refl s, fun _ _ => rfl⟩
  | some r =>
    have mark (heq : s.interruptRack k = s.setRack k r.interrupt) :
        s.RackWork (s.interruptRack k) ∧ ∀ j, j ≠ k → (s.interruptRack k).rack j = s.rack j := by
      rw [heq]
      exact ⟨s.rackWork_setRack _ _, fun j hj => State.rack_setRack_other _ _ hj⟩
    have leave (heq : s.interruptRack k = s) :
        s.RackWork (s.interruptRack k) ∧ ∀ j, j ≠ k → (s.interruptRack k).rack j = s.rack j := by
      rw [heq]
      exact ⟨.refl s, fun _ _ => rfl⟩
    cases hp : r.phase with
    | waitingEntry =>
      obtain ⟨heq, hwork⟩ := hs.endRack (n := r.station) (outcome := .withdrawn) h
      rw [State.interruptRack_of_waiting h hp, heq]
      exact ⟨hwork, fun j hj => State.rackEnds_rack_other hj⟩
    | inBath => exact mark (State.interruptRack_of_marked h (.inl hp))
    | onCarriage => exact mark (State.interruptRack_of_marked h (.inr (.inl hp)))
    | atUnload => exact leave (State.interruptRack_of_left h (.inl hp))
    | awaitingReport => exact leave (State.interruptRack_of_left h (.inr (.inl hp)))
    | orphan =>
      cases hb : s.standsInBath r with
      | true => exact mark (State.interruptRack_of_marked h (.inr (.inr ⟨hp, hb⟩)))
      | false => exact leave (State.interruptRack_of_left h (.inr (.inr ⟨hp, hb⟩)))

/-- The slots of a list are taken one by one: each is found as it was at first, and no later one touches it. -/
theorem State.FaultHeld.interruptAll (hs : s.FaultHeld) {l : List Nat} (hl : l.Nodup) :
    s.RackWork (l.foldl State.interruptRack s) ∧
    (∀ j, j ∉ l → (l.foldl State.interruptRack s).rack j = s.rack j) ∧
    ∀ k ∈ l, ∃ w, s.RackWork w ∧ w.rack k = s.rack k ∧
      (l.foldl State.interruptRack s).rack k = (w.interruptRack k).rack k ∧
      (w.interruptRack k).RackWork (l.foldl State.interruptRack s) := by
  induction l generalizing s with
  | nil => exact ⟨.refl s, fun _ _ => rfl, nofun⟩
  | cons a l ih =>
    obtain ⟨ha, hnodup⟩ := List.nodup_cons.mp hl
    obtain ⟨hwork, hother⟩ := hs.interruptRack a
    obtain ⟨hrest, hout, hin⟩ := ih (hwork.held hs) hnodup
    rw [List.foldl_cons]
    refine ⟨hwork.trans hrest, fun j hj => ?_, fun k hk => ?_⟩
    · rw [List.mem_cons, not_or] at hj
      exact (hout j hj.2).trans (hother j hj.1)
    · rcases List.mem_cons.mp hk with rfl | hk
      · exact ⟨s, .refl s, rfl, hout k ha, hrest⟩
      · obtain ⟨w, hw, hrack, hsame, hafter⟩ := hin k hk
        have hne : k ≠ a := fun h => ha (h ▸ hk)
        exact ⟨w, hwork.trans hw, hrack.trans (hother k hne), hsame, hafter⟩

/-! ### The fault notice -/

theorem State.rack_clearPlanner (s : State) (k : Nat) :
    s.clearPlanner.rack k = (s.rack k).map fun r => { r with nextStart := none } := by
  simp only [State.rack, State.clearPlanner, List.getD_eq_getElem?_getD, List.getElem?_map]
  cases s.slots[k]? <;> rfl

/-- The part FAULTED and its plans cleared, before the racks are taken. -/
def State.faulted (s : State) : State := ((s.setDrainTarget none).enterLine .faulted .fault).clearPlanner

theorem State.faulted_held (s : State) : s.faulted.FaultHeld where
  state := by simp [State.faulted, State.clearPlanner, State.entered]
  cleared := by simp [State.faulted, State.clearPlanner, State.entered]
  evacOrder := rfl
  schedule := rfl
  timelines := by simp [State.faulted, State.clearPlanner]
  deferred := rfl

theorem State.rack_faulted (s : State) (k : Nat) :
    s.faulted.rack k = (s.rack k).map fun r => { r with nextStart := none } := by
  refine (State.rack_clearPlanner _ k).trans ?_
  rw [State.rack_congr (State.enterLine_slots _ _ _) k]
  rfl

theorem State.faulted_posts (s : State) : s.events <+: s.faulted.events :=
  (State.settled_enterLine (s.setDrainTarget none) .faulted .fault).posts

theorem State.isBath_faulted (s : State) (n : Nat) : s.faulted.isBath n = s.isBath n := by
  unfold State.faulted
  rw [State.enterLine_frame]
  rfl

theorem State.faultNotice_of_runs (h : s.line.state = .ready ∨ s.line.state = .draining ∨ s.line.state = .warmup) :
    s.faultNotice = allSlots.foldl State.interruptRack s.faulted := by
  rcases h with h | h | h <;> simp [State.faultNotice, h, State.faulted]

theorem State.faultNotice_work (h : s.line.state = .ready ∨ s.line.state = .draining ∨ s.line.state = .warmup) :
    s.faulted.RackWork s.faultNotice := by
  rw [State.faultNotice_of_runs h]
  exact (s.faulted_held.interruptAll (l := allSlots) List.nodup_range).1

theorem State.faultNotice_of_faulted (h : s.line.state = .faulted) :
    s.faultNotice = { s with driver := { s.driver with faultCleared := false } }.clearPlanner := by
  simp [State.faultNotice, h]

theorem State.faultNotice_of_off (h : s.line.state = .dormant ∨ s.line.state = .standby) : s.faultNotice = s := by
  rcases h with h | h <;> simp [State.faultNotice, h]

theorem State.faultNotice_clock (s : State) : s.faultNotice.clock = s.clock := by
  cases h : s.line.state with
  | dormant => rw [State.faultNotice_of_off (.inl h)]
  | standby => rw [State.faultNotice_of_off (.inr h)]
  | faulted => rw [State.faultNotice_of_faulted h]; rfl
  | warmup | ready | draining =>
    rw [(State.faultNotice_work (by simp [h])).clock]
    simp [State.faulted, State.clearPlanner, State.setDrainTarget]

/-- The fault notice leaves the Driver but its entry and the fault-cleared indication, and the indication of the fault. -/
theorem State.faultNotice_driver (s : State) (hentry : s.driver.entry = none) :
    s.faultNotice.driver = { s.driver with faultCleared := s.faultNotice.driver.faultCleared } := by
  cases h : s.line.state with
  | dormant => rw [State.faultNotice_of_off (.inl h)]
  | standby => rw [State.faultNotice_of_off (.inr h)]
  | faulted => rw [State.faultNotice_of_faulted h]; rfl
  | warmup | ready | draining =>
    have hwork := State.faultNotice_work (s := s) (by simp [h])
    have hfaulted : s.faulted.driver = { s.driver with faultCleared := false } := by
      simp [State.faulted, State.clearPlanner, State.setDrainTarget, State.entered]
    have hnone : s.faultNotice.driver.entry = none := by
      rcases hwork.entry with h | h
      · exact h
      · rw [h, hfaulted]; exact hentry
    rw [hwork.driver, hnone, hfaulted, ← hentry]

theorem State.faultNotice_carriageFault (s : State) : s.faultNotice.line.carriageFault = s.line.carriageFault := by
  cases h : s.line.state with
  | dormant => rw [State.faultNotice_of_off (.inl h)]
  | standby => rw [State.faultNotice_of_off (.inr h)]
  | faulted => rw [State.faultNotice_of_faulted h]; rfl
  | warmup | ready | draining =>
    rw [(State.faultNotice_work (by simp [h])).line]
    simp [State.faulted, State.clearPlanner, State.setDrainTarget, State.entered]

theorem State.faultNotice_posts (s : State) : s.events <+: s.faultNotice.events := by
  cases h : s.line.state with
  | dormant => rw [State.faultNotice_of_off (.inl h)]
  | standby => rw [State.faultNotice_of_off (.inr h)]
  | faulted => rw [State.faultNotice_of_faulted h]; exact List.prefix_rfl
  | warmup | ready | draining =>
    exact s.faulted_posts.trans (State.faultNotice_work (by simp [h])).posts

/-- After the notice a line that ran is FAULTED with nothing planned. -/
theorem State.faultNotice_held (h : s.line.state ≠ .dormant ∧ s.line.state ≠ .standby) : s.faultNotice.FaultHeld := by
  cases hl : s.line.state with
  | dormant => exact absurd hl h.1
  | standby => exact absurd hl h.2
  | faulted =>
    rw [State.faultNotice_of_faulted hl]
    exact ⟨hl, rfl, rfl, rfl, by simp [State.clearPlanner], rfl⟩
  | warmup | ready | draining =>
    exact (State.faultNotice_work (by simp [hl])).held s.faulted_held

section
variable (hl : s.line.state = .ready ∨ s.line.state = .draining ∨ s.line.state = .warmup) (hk : k < 24)
  (h : s.rack k = some r)
include hl hk h

/-- The turn of one slot in the fault notice: the part `w` it finds, and what it leaves of the slot. -/
theorem State.faultNotice_slot :
    ∃ w, s.faulted.RackWork w ∧ w.rack k = some { r with nextStart := none } ∧
      s.faultNotice.rack k = (w.interruptRack k).rack k ∧ (w.interruptRack k).RackWork s.faultNotice := by
  obtain ⟨-, -, hslot⟩ := s.faulted_held.interruptAll (l := allSlots) List.nodup_range
  obtain ⟨w, hw, hrack, hsame, hafter⟩ := hslot k (List.mem_range.mpr hk)
  rw [← State.faultNotice_of_runs hl] at hsame hafter
  exact ⟨w, hw, hrack.trans (by rw [State.rack_faulted, h]; rfl), hsame, hafter⟩

/-- A rack in a bath or on the carriage is marked INTERRUPTED at the fault (R69). -/
theorem State.faultNotice_marks
    (hr : r.phase = .inBath ∨ r.phase = .onCarriage ∨ (r.phase = .orphan ∧ s.isBath r.station = true)) :
    s.faultNotice.rack k = some { r with nextStart := none }.interrupt := by
  obtain ⟨w, hw, hrack, hsame, -⟩ := State.faultNotice_slot hl hk h
  have hbath : w.standsInBath { r with nextStart := none } = s.isBath r.station :=
    (hw.standsInBath _).trans (s.isBath_faulted r.station)
  rw [hsame, State.interruptRack_of_marked hrack (by rwa [hbath]), State.rack_setRack_same _ _ (State.rack_lt hrack)]

/-- A rack at UNLOAD or awaiting its report, and an orphan at an UNLOAD station, keep their record at the fault. -/
theorem State.faultNotice_leaves
    (hr : r.phase = .atUnload ∨ r.phase = .awaitingReport ∨ (r.phase = .orphan ∧ s.isBath r.station = false)) :
    s.faultNotice.rack k = some { r with nextStart := none } := by
  obtain ⟨w, hw, hrack, hsame, -⟩ := State.faultNotice_slot hl hk h
  have hbath : w.standsInBath { r with nextStart := none } = s.isBath r.station :=
    (hw.standsInBath _).trans (s.isBath_faulted r.station)
  rw [hsame, State.interruptRack_of_left hrack (by rwa [hbath]), hrack]

/-- A rack that waits for its entry ends WITHDRAWN at the fault (R69). -/
theorem State.faultNotice_withdraws (hr : r.phase = .waitingEntry) :
    s.rackEnded s.faultNotice k r .withdrawn ∧ s.posted s.faultNotice .rackRemoved r.station k r.tag 4 := by
  obtain ⟨w, hw, hrack, hsame, hafter⟩ := State.faultNotice_slot hl hk h
  have hclock : w.clock = s.clock := by
    rw [hw.clock]; simp [State.faulted, State.clearPlanner, State.setDrainTarget]
  rw [State.interruptRack_of_waiting hrack hr, ((hw.held s.faulted_held).endRack hrack).1] at hsame hafter
  have hended := (State.rackEnds_ended (n := r.station) (outcome := .withdrawn) hrack).congr hsame hafter.completions
  have hposted := (State.rackEnds_posted (s := w) (k := k) (n := r.station) (r := { r with nextStart := none })
    (outcome := .withdrawn)).of_prefix hafter.posts
  exact ⟨by simpa [State.rackEnded, hclock] using hended, hposted.of_clock hclock⟩

end

/-! ### The fault itself (R108) -/

/-- The part stopped, with the event of the fault, before the fault notice. -/
def State.stoppedAt (s : State) (code : FaultCode) (n : Nat) : State :=
  { s with driver := s.driver.rest .stopped, line := { s.line with carriageFault := true } }.post .carriageFault n
    s.faultRack.1 s.faultRack.2 code.code

theorem State.carriageFault_eq (code : FaultCode) (n : Nat) : s.carriageFault code n = (s.stoppedAt code n).faultNotice := rfl

theorem State.stoppedAt_eq (code : FaultCode) (n : Nat) : s.stoppedAt code n = { s with
    driver := s.driver.rest .stopped
    line := { s.line with carriageFault := true }
    events := (s.stoppedAt code n).events
    lost := (s.stoppedAt code n).lost } := State.post_eq _ _ _ _ _ _

variable {code : FaultCode} {n : Nat}

theorem State.carriageFault_posted :
    s.posted (s.carriageFault code n) .carriageFault n s.faultRack.1 s.faultRack.2 code.code :=
  have hposted : s.posted (s.stoppedAt code n) .carriageFault n s.faultRack.1 s.faultRack.2 code.code := State.posted_post rfl
  hposted.of_prefix (State.faultNotice_posts _)

theorem State.rackEnded.of_clock {outcome : RackOutcome} (h : u.rackEnded t k r outcome) (hc : u.clock = s.clock) :
    s.rackEnded t k r outcome := by
  unfold State.rackEnded at h ⊢
  rwa [← hc]

/-- What a carriage fault leaves (4.7, 6.9, 9.5). -/
theorem State.carriageFault_stopped (s : State) (code : FaultCode) (n : Nat) :
    s.carriageStopped (s.carriageFault code n) code n := by
  have hstopped := State.stoppedAt_eq (s := s) code n
  have hdriver : (s.stoppedAt code n).driver = s.driver.rest .stopped := by rw [hstopped]
  have hline : (s.stoppedAt code n).line = { s.line with carriageFault := true } := by rw [hstopped]
  have hstate : (s.stoppedAt code n).line.state = s.line.state := by rw [hline]
  have hclock : (s.stoppedAt code n).clock = s.clock := by rw [hstopped]
  have hslots : (s.stoppedAt code n).slots = s.slots := by rw [hstopped]
  have hrack (k : Nat) : (s.stoppedAt code n).rack k = s.rack k := State.rack_congr hslots k
  have hbath (m : Nat) : (s.stoppedAt code n).isBath m = s.isBath m := by rw [hstopped]; rfl
  have hrest := (s.stoppedAt code n).faultNotice_driver (by rw [hdriver]; rfl)
  have hposted := State.carriageFault_posted (s := s) (code := code) (n := n)
  rw [State.carriageFault_eq] at hposted ⊢
  refine ⟨?_, ?_, ⟨fun e he => ?_, fun he k r hc => ?_, fun he hc => ?_⟩, fun hl => ⟨?_, ?_, ?_, ?_, ?_⟩, fun hl => ?_, fun hl => ?_,
    fun hl => ?_⟩
  · rw [hrest, hdriver]
    exact ⟨rfl, rfl, rfl, rfl, rfl, rfl⟩
  · rw [State.faultNotice_carriageFault, hline]
  · simpa [State.faultRack, he] using hposted
  · simpa [State.faultRack, he, hc] using hposted
  · simpa [State.faultRack, he, hc] using hposted
  · exact (State.faultNotice_held (by rw [hstate]; rcases hl with h | h | h <;> simp [h])).state
  · exact (State.faultNotice_held (by rw [hstate]; rcases hl with h | h | h <;> simp [h])).cleared
  · intro k r hk hr hp
    exact ⟨_, State.faultNotice_marks (by rwa [hstate]) hk (by rwa [hrack]) (by rwa [hbath]), rfl, rfl, rfl, rfl, rfl, rfl⟩
  · intro k r hk hr hp
    obtain ⟨hended, hremoved⟩ := State.faultNotice_withdraws (by rwa [hstate]) hk ((hrack k).trans hr) hp
    exact ⟨hended.of_clock hclock, hremoved.of_clock hclock⟩
  · intro k r hk hr hp
    exact State.faultNotice_leaves (by rwa [hstate]) hk (by rwa [hrack]) (by rwa [hbath])
  · have hheld := State.faultNotice_held (s := s.stoppedAt code n) (by rw [hstate]; simp [hl])
    refine ⟨hheld.state, hheld.cleared, fun k => ?_⟩
    rw [State.faultNotice_of_faulted (by rw [hstate, hl]), State.rack_clearPlanner, ← hrack k]
    rfl
  · have hheld := State.faultNotice_held (s := s.stoppedAt code n) (by rw [hstate]; rcases hl with h | h | h | h <;> simp [h])
    exact ⟨hheld.schedule, hheld.timelines, hheld.deferred, hheld.evacOrder⟩
  · rw [State.faultNotice_of_off (by rwa [hstate])]
    exact ⟨hstate, by rw [hstopped], hslots⟩

/-- The claim does not speak of the pins before nor of the outputs after. -/
theorem State.carriageStopped.drive {inp : Inputs} (h : (s.latch inp).carriageStopped t code n) :
    s.carriageStopped t.drive code n := by
  rw [State.drive_eq]
  exact h

/-- A command whose effect is a carriage fault. -/
theorem exec_fault {c : Instr} {inp : Inputs} {f : State → State} (hrun : s.run = .running) (hexec : exec c s = event inp f s)
    (hv : f (s.latch inp) = (s.latch inp).carriageFault code n) :
    ∃ t, exec c s = .next t ∧ s.carriageStopped t code n :=
  ⟨_, exec_of_effect hrun hexec hv, ((s.latch inp).carriageFault_stopped code n).drive⟩

end

end Sys2Proof.Machine
end

section
/-! PROOFS. The carriage events: falls of the hook and timeouts, arrivals, the ends of RAISE and DRAIN (6.2, 6.4, 6.9). -/

namespace Sys2Proof.Machine

section
variable {s : State} {inp : Inputs} {e : Entry}

/-- A command whose effect is a new state of the Driver alone. -/
theorem exec_driver {c : Instr} {f : State → State} {d : Driver} (hrun : s.run = .running) (hexec : exec c s = event inp f s)
    (hv : f (s.latch inp) = { s.latch inp with driver := d }) :
    ∃ t, exec c s = .next t ∧ t.driver = d ∧ t = { s with pins := inp, out := t.out, driver := t.driver } ∧
      (t.out.raise = true ↔ d.state = .raise) ∧ (t.out.lower = true ↔ d.state = .lower) := by
  refine ⟨_, exec_of_effect hrun hexec hv, State.drive_driver _, ?_, ?_⟩
  · rw [State.drive_driver]
    exact State.drive_eq _
  · obtain ⟨hraise, hlower, -⟩ := State.drive_outputsFollow { s.latch inp with driver := d } (by simpa using hrun)
    rw [State.drive_driver] at hraise hlower
    exact ⟨hraise, hlower⟩

/-- A command without effect on anything but the pins. -/
theorem exec_idle {c : Instr} {f : State → State} (hrun : s.run = .running) (hexec : exec c s = event inp f s)
    (hv : f (s.latch inp) = s.latch inp) : ∃ t, exec c s = .next t ∧ t = { s with pins := inp, out := t.out } :=
  ⟨_, exec_of_effect hrun hexec hv, s.drive_latch_eq inp⟩

theorem travelTime_eq (tp a b : Nat) : travelTime tp a b = (((a - b) + (b - a)) * tp + 9) / 10 := rfl

theorem State.configured_iff {n : Nat} : s.configured n = true ↔ 1 ≤ n ∧ n ≤ s.cfg.line.count := by
  simp [State.configured]

theorem State.standsAt_iff {n : Nat} : s.standsAt n = true ↔ s.pins.atStation = n ∧ 1 ≤ n ∧ n ≤ s.cfg.line.count := by
  simp [State.standsAt, State.configured_iff]

end

/-- Settles O17: each command's cases are the states of the Driver in which it finds an entry to judge. -/
theorem carriageFaultsStopTheDriver : Obligations.CarriageFaultsStopTheDriver := by
  unfold Obligations.CarriageFaultsStopTheDriver
  intro inp s hrun
  refine ⟨fun e he hhook => ⟨fun hd => ?_, fun hd => ?_⟩, fun k r hhook he hd hc => ?_, fun d hd hle => ⟨fun ha => ?_, fun e he =>
    ⟨fun ha => ?_, fun ha => ?_⟩⟩, fun d hd hlt => ?_⟩
  · exact exec_fault (f := State.hookFall) hrun rfl (by
      simp [State.hookFall, hhook, hd, show (s.latch inp).executing = some e from he])
  · exact exec_fault (f := State.hookFall) hrun rfl (by
      simp [State.hookFall, hhook, hd, show (s.latch inp).executing = some e from he])
  · have heff : (s.latch inp).hookFall = (s.latch inp).carriageFault .dropped s.driver.position := by
      have hex : (s.latch inp).executing = none := he
      have hcarried : (s.latch inp).carried = some (k, r) := hc
      cases hst : s.driver.state <;> simp [State.hookFall, hhook, hst, hex, hcarried]
      exact absurd hst hd
    exact exec_fault (f := State.hookFall) hrun rfl heff
  · exact exec_fault (f := State.phaseTimeout) hrun rfl (by simp [State.phaseTimeout, hd, hle, ha])
  · exact exec_fault (f := State.phaseTimeout) hrun rfl (by
      simp [State.phaseTimeout, hd, hle, ha, show (s.latch inp).executing = some e from he])
  · have heff : (s.latch inp).phaseTimeout = (s.latch inp).carriageFault .phaseTimeout e.dst := by
      rcases ha with ha | ha <;>
        simp [State.phaseTimeout, hd, hle, ha, show (s.latch inp).executing = some e from he]
    exact exec_fault (f := State.phaseTimeout) hrun rfl heff
  · exact exec_idle (f := State.phaseTimeout) hrun rfl (if_neg (by simp [hd, Nat.not_le.mpr hlt]))

section
variable {s : State} {e : Entry}

/-- An approach that ends over the source of the first entry, for which it was made, leaves the Driver waiting there. -/
theorem State.endApproach_turn (hhead : s.schedule.head? = some e) (hentry : s.driver.entry = some (e.slot, e.index))
    (hsrc : e.src = s.driver.goTo) :
    s.endApproach.turn = { s with driver := { s.driver.rest .waiting with position := s.driver.goTo, entry := s.driver.entry } } := by
  have hend : s.endApproach =
      { s with driver := { s.driver.rest .waiting with position := s.driver.goTo, entry := s.driver.entry } } := by
    simp [State.endApproach, hentry]
  rw [hend]
  simp [State.turn, Driver.rest, hhead, hsrc, hentry]

theorem State.endTravel_of_up (h : s.pins.hoistDown = false) :
    s.endTravel e = { s with driver := { s.driver with
      position := e.dst, state := .lower, phaseStart := some s.clock,
      deadline := some (addSec s.clock (s.cfg.line.tw + s.cfg.line.margin)) } } := by
  simp [State.endTravel, State.beginPhase, h]

theorem State.endDrain_of_away (h : s.standsAt e.src = true) (hne : e.dst ≠ e.src) :
    s.endDrain e = { s with driver := { s.driver with
      goTo := e.dst, state := .travel, phaseStart := some s.clock,
      deadline := some (addSec s.clock (travelTime s.cfg.line.tp e.src e.dst + s.cfg.line.margin)) } } := by
  have haway : s.standsAt e.dst = false := by
    rw [Bool.eq_false_iff]
    exact fun hd => hne ((State.standsAt_iff.mp hd).1.symm.trans (State.standsAt_iff.mp h).1)
  rw [State.endDrain, if_neg (by simp [h])]
  exact if_neg (Bool.eq_false_iff.mp haway)

theorem State.endRaise_of_missed (h : s.standsAt e.src = true) (hhook : s.pins.hook = false) :
    s.endRaise e = s.carriageFault .missedPick e.src := by
  simp [State.endRaise, h, hhook]

theorem State.endRaise_of_drain (h : s.standsAt e.src = true) (hhook : s.pins.hook = true) (hd : e.drain ≠ 0) :
    s.endRaise e = { s with driver := { s.driver with
      upSecond := some s.clock, state := .drain, phaseStart := some s.clock,
      deadline := some (addSec s.clock (e.drain + s.cfg.line.margin)) } } := by
  simp [State.endRaise, h, hhook, hd, State.beginPhase]

theorem State.endRaise_of_dry (h : s.standsAt e.src = true) (hhook : s.pins.hook = true) (hd : e.drain = 0)
    (hne : e.dst ≠ e.src) :
    s.endRaise e = { s with driver := { s.driver with
      upSecond := some s.clock, goTo := e.dst, state := .travel, phaseStart := some s.clock,
      deadline := some (addSec s.clock (travelTime s.cfg.line.tp e.src e.dst + s.cfg.line.margin)) } } := by
  have hpinned : ({ s with driver := { s.driver with upSecond := some s.clock } }.beginPhase .drain e.drain).standsAt e.src
      = true := h
  simp only [State.endRaise, h, hhook, if_pos hd, State.endDrain_of_away hpinned hne]
  rfl

end

/-- Settles O14. -/
theorem arrivalEndsApproachAndTravel : Obligations.ArrivalEndsApproachAndTravel := by
  unfold Obligations.ArrivalEndsApproachAndTravel
  intro inp s e hrun
  refine ⟨fun hd hhead hentry hsrc hat hlo hhi => ?_, fun hd he hat hlo hhi hdown => ?_, fun hd hat => ?_, fun hd he hat => ?_,
    fun hd hat hoff => ?_, fun hd he hat hoff => ?_⟩
  · have hstands : (s.latch inp).standsAt s.driver.goTo = true := State.standsAt_iff.mpr ⟨hat, hat ▸ hlo, hat ▸ hhi⟩
    have heff : (s.latch inp).carriageArrival = _ := (show _ = (s.latch inp).endApproach.turn by
      simp [State.carriageArrival, hd, hstands]).trans (State.endApproach_turn (s := s.latch inp) hhead hentry hsrc)
    obtain ⟨t, hexec, hdriver, hframe, -⟩ := exec_driver (c := .carriageArrival inp) (f := State.carriageArrival) hrun rfl heff
    exact ⟨t, hexec, hdriver.trans (by simp [Driver.rest, hat]), hframe⟩
  · have hstands : (s.latch inp).standsAt e.dst = true := State.standsAt_iff.mpr ⟨hat, hlo, hhi⟩
    have heff : (s.latch inp).carriageArrival = _ := (show _ = (s.latch inp).endTravel e by
      simp [State.carriageArrival, hd, hstands, show (s.latch inp).executing = some e from he]).trans
        (State.endTravel_of_up (s := s.latch inp) hdown)
    obtain ⟨t, hexec, hdriver, hframe, hraise, hlower⟩ := exec_driver (c := .carriageArrival inp) (f := State.carriageArrival) hrun rfl heff
    exact ⟨t, hexec, hdriver, hlower.mpr rfl, by simpa using hraise, hframe⟩
  · have hoff : (s.latch inp).standsAt s.driver.goTo = false := by
      rw [Bool.eq_false_iff]
      intro h
      have := State.standsAt_iff.mp h
      simp only [State.latch_pins] at this
      omega
    obtain ⟨t, hexec, hframe⟩ := exec_idle (c := .carriageArrival inp) (f := State.carriageArrival) hrun rfl (by
      simp [State.carriageArrival, hd, hoff, hat])
    exact ⟨t, hexec, by rw [hframe], by rw [hframe]⟩
  · obtain ⟨t, hexec, hframe⟩ := exec_idle (c := .carriageArrival inp) (f := State.carriageArrival) hrun rfl (by
      have hoff : (s.latch inp).standsAt e.dst = false := by
        rw [Bool.eq_false_iff]
        intro h
        have := State.standsAt_iff.mp h
        simp only [State.latch_pins] at this
        omega
      simp [State.carriageArrival, hd, hoff, hat, show (s.latch inp).executing = some e from he])
    exact ⟨t, hexec, by rw [hframe], by rw [hframe]⟩
  · have hstands : (s.latch inp).standsAt s.driver.goTo = false := by
      rw [Bool.eq_false_iff]
      intro h
      have := State.standsAt_iff.mp h
      simp only [State.latch_pins, State.latch_cfg] at this
      omega
    exact exec_fault (f := State.carriageArrival) hrun rfl (by simp [State.carriageArrival, hd, hstands, hat])
  · have hstands : (s.latch inp).standsAt e.dst = false := by
      rw [Bool.eq_false_iff]
      intro h
      have := State.standsAt_iff.mp h
      simp only [State.latch_pins, State.latch_cfg] at this
      omega
    exact exec_fault (f := State.carriageArrival) hrun rfl (by
      simp [State.carriageArrival, hd, hstands, hat, show (s.latch inp).executing = some e from he])

/-- Settles O15. -/
theorem raiseAndDrainEnd : Obligations.RaiseAndDrainEnd := by
  unfold Obligations.RaiseAndDrainEnd
  intro inp s e hrun he stands hstands
  have hex : (s.latch inp).executing = some e := he
  have hat : (s.latch inp).standsAt e.src = true ↔ stands := State.standsAt_iff.trans hstands.symm
  have hoff (h : ¬ stands) : (s.latch inp).standsAt e.src = false := Bool.eq_false_iff.mpr fun h' => h (hat.mp h')
  refine ⟨fun hd hup => ?_, fun u hd hu => ?_⟩
  · have hraise : (s.latch inp).upLimit = (s.latch inp).endRaise e := by simp [State.upLimit, hd, hex, hup]
    refine ⟨fun h => ?_, fun h hhook => ?_, fun h hhook hdrain => ?_, fun h hhook hdrain hne => ?_⟩
    · exact exec_fault (f := State.upLimit) hrun rfl (hraise.trans (by simp [State.endRaise, hoff h]))
    · exact exec_fault (f := State.upLimit) hrun rfl (hraise.trans (State.endRaise_of_missed (hat.mpr h) hhook))
    · obtain ⟨t, hexec, hdriver, hframe, hr, hl⟩ := exec_driver (c := .hoistUpLimit inp) (f := State.upLimit) hrun rfl
        (hraise.trans (State.endRaise_of_drain (hat.mpr h) hhook hdrain))
      exact ⟨t, hexec, by simpa using hr, by simpa using hl, hdriver, hframe⟩
    · obtain ⟨t, hexec, hdriver, hframe, hr, hl⟩ := exec_driver (c := .hoistUpLimit inp) (f := State.upLimit) hrun rfl
        (hraise.trans (State.endRaise_of_dry (hat.mpr h) hhook hdrain hne))
      refine ⟨t, hexec, by simpa using hr, by simpa using hl, ?_, ?_, hframe⟩
      · rw [hdriver]; rfl
      · rw [hdriver, ← travelTime_eq, Nat.add_assoc]; rfl
  · have hdue : (s.latch inp).drainDue =
        if addSec u e.drain ≤ s.clock then (s.latch inp).endDrain e else s.latch inp := by
      simp only [State.drainDue, State.latch_driver, hd, hex, hu]
      rfl
    refine ⟨fun hle h hne => ?_, fun hle h => ?_, fun hlt => ?_⟩
    · rw [if_pos (show addSec u e.drain ≤ s.clock from hle), State.endDrain_of_away (hat.mpr h) hne] at hdue
      obtain ⟨t, hexec, hdriver, hframe, -⟩ := exec_driver (c := .drainEnd inp) (f := State.drainDue) hrun rfl hdue
      refine ⟨t, hexec, ?_, ?_, hframe⟩
      · rw [hdriver]; rfl
      · rw [hdriver, ← travelTime_eq, Nat.add_assoc]; rfl
    · rw [if_pos (show addSec u e.drain ≤ s.clock from hle)] at hdue
      exact exec_fault (f := State.drainDue) hrun rfl (hdue.trans (by simp [State.endDrain, hoff h]))
    · rw [if_neg (show ¬ addSec u e.drain ≤ s.clock from Nat.not_le.mpr hlt)] at hdue
      exact exec_idle (f := State.drainDue) hrun rfl hdue

end Sys2Proof.Machine
end

section
/-! PROOFS. MODE (9.2): its owner's refusals, and the passages of its table. -/

namespace Sys2Proof.Machine

section
variable {s : State} {p : List Byte} {md : Mode}

/-! ### The owner of MODE (R145) -/

theorem LineState.b1_code (st : LineState) : b1 st.code = [BitVec.ofNat 8 st.code] := by cases st <;> rfl

theorem modeReply_eq (r : Result) (cause : Nat) (s : State) :
    modeReply r cause s = (s, resultByte r ++ [BitVec.ofNat 8 s.line.state.code] ++ b1 cause) := by
  rw [modeReply, LineState.b1_code]

theorem modeOwner_unlisted (h : Mode.parse p = none) :
    modeOwner p s = (s, [3#8, BitVec.ofNat 8 s.line.state.code, 0#8]) := by
  simp only [modeOwner, h]
  exact modeReply_eq _ _ _

theorem modeOwner_noPassage (h : Mode.parse p = some md) (hpass : md.passage s.line.state = none) :
    modeOwner p s = (s, [4#8, BitVec.ofNat 8 s.line.state.code, 1#8]) := by
  simp only [modeOwner, h, hpass]
  exact modeReply_eq _ _ _

theorem modeOwner_noConfig (h : Mode.parse p = some md) (hpass : md.passage s.line.state ≠ none)
    (hneeds : md.needsConfig s.line.state = true) (hvalid : s.validConfig = false) :
    modeOwner p s = (s, [4#8, BitVec.ofNat 8 s.line.state.code, 2#8]) := by
  simp only [modeOwner, h, Option.isNone_iff_eq_none, if_neg hpass, hneeds, hvalid]
  exact modeReply_eq _ _ _

theorem modeOwner_racks (h : Mode.parse p = some md) (hpass : md.passage s.line.state ≠ none)
    (hconfig : md.needsConfig s.line.state = true → s.validConfig = true) (hracks : s.racksHold md = true) :
    modeOwner p s = (s, [4#8, BitVec.ofNat 8 s.line.state.code, 3#8]) := by
  have hserves : ¬ (md.needsConfig s.line.state && !s.validConfig) = true := by simpa using hconfig
  simp only [modeOwner, h, Option.isNone_iff_eq_none, if_neg hpass, if_neg hserves, if_pos hracks]
  exact modeReply_eq _ _ _

theorem modeOwner_granted (h : Mode.parse p = some md) (hpass : md.passage s.line.state ≠ none)
    (hconfig : md.needsConfig s.line.state = true → s.validConfig = true) (hracks : s.racksHold md = false) :
    modeOwner p s = (s.applyMode md, [0#8, BitVec.ofNat 8 (s.applyMode md).line.state.code, 0#8]) := by
  have hserves : ¬ (md.needsConfig s.line.state && !s.validConfig) = true := by simpa using hconfig
  simp only [modeOwner, h, Option.isNone_iff_eq_none, if_neg hpass, if_neg hserves, hracks]
  exact modeReply_eq _ _ _

/-! ### The link at a passage -/

theorem State.RackWork.link {t : State} (h : s.RackWork t) : t.link = s.link := by cases h; rfl

theorem State.faultNotice_link (s : State) : s.faultNotice.link = s.link := by
  cases h : s.line.state with
  | dormant => rw [State.faultNotice_of_off (.inl h)]
  | standby => rw [State.faultNotice_of_off (.inr h)]
  | faulted => rw [State.faultNotice_of_faulted h]; rfl
  | warmup | ready | draining =>
    rw [(State.faultNotice_work (by simp [h])).link]
    simp [State.faulted, State.clearPlanner, State.setDrainTarget]

theorem State.enterWarmup_link (s : State) : s.enterWarmup.link = s.link := by
  simp only [State.enterWarmup]
  split
  · rw [State.faultNotice_link, State.enterLine_link]
  · exact State.enterLine_link _ _ _

theorem State.dropFaultCleared_eq (s : State) :
    s.dropFaultCleared = { s with driver := { s.driver with
      faultCleared := if s.line.state = .faulted then false else s.driver.faultCleared } } := by
  unfold State.dropFaultCleared
  split <;> rfl

theorem State.applyMode_link (s : State) (md : Mode) : (s.applyMode md).link = s.link := by
  cases md with
  | standby => exact State.enterLine_link _ _ _
  | run =>
    simp only [State.applyMode]
    split
    · rfl
    · rw [State.enterLine_link]; rfl
    · exact s.enterWarmup_link
  | drain target => exact (s.beginDrain_frame .mode target).1
  | dormant =>
    refine (State.enterLine_link _ _ _).trans ?_
    rw [State.dropFaultCleared_eq]

/-! ### What stands in the way -/

theorem State.validConfig_iff : s.validConfig = true ↔ s.line.configDefaulted = false ∧
    ∀ want, want = Role.load ∨ want = .unload ∨ want = .develop → ∃ n, 1 ≤ n ∧ n ≤ 16 ∧ s.role n = want := by
  have hpresent {want : Role} (hw : want ≠ .unused) :
      s.stations.any (fun n => s.role n == want) = true ↔ ∃ n, 1 ≤ n ∧ n ≤ 16 ∧ s.role n = want := by
    simp only [List.any_eq_true, beq_iff_eq, State.mem_stations]
    constructor
    · rintro ⟨n, ⟨hlo, hhi, -⟩, hrole⟩
      exact ⟨n, hlo, hhi, hrole⟩
    · rintro ⟨n, hlo, hhi, hrole⟩
      exact ⟨n, ⟨hlo, hhi, State.configured_of_role (hrole ▸ hw)⟩, hrole⟩
  simp only [State.validConfig, State.rolesPresent, Bool.and_eq_true, Bool.not_eq_true', hpresent (want := .load) nofun,
    hpresent (want := .unload) nofun, hpresent (want := .develop) nofun]
  constructor
  · rintro ⟨⟨⟨hload, hunload⟩, hdevelop⟩, hdefaulted⟩
    refine ⟨hdefaulted, fun want hw => ?_⟩
    rcases hw with rfl | rfl | rfl
    · exact hload
    · exact hunload
    · exact hdevelop
  · rintro ⟨hdefaulted, hroles⟩
    exact ⟨⟨⟨hroles _ (.inl rfl), hroles _ (.inr (.inl rfl))⟩, hroles _ (.inr (.inr rfl))⟩, hdefaulted⟩

theorem State.someRack_iff {p : Rack → Bool} : s.someRack p = true ↔ ∃ e ∈ s.racks, p e.2 = true := by
  simp [State.someRack]

theorem State.countsForDrain_iff {r : Rack} : s.countsForDrain r = true ↔
    r.phase = .waitingEntry ∨ r.phase = .inBath ∨ r.phase = .onCarriage ∨ (r.phase = .orphan ∧ s.isBath r.station = true) := by
  unfold State.countsForDrain
  split <;> simp_all [State.standsInBath]

theorem State.inFlight_iff {r : Rack} : s.inFlight r = true ↔
    s.isBath r.station = true ∨ r.phase = .onCarriage ∨ r.phase = .waitingEntry := by
  simp [State.inFlight, State.standsInBath, or_assoc]

theorem State.remains_iff {r : Rack} : s.remains r = true ↔ s.isBath r.station = true ∨ r.phase = .onCarriage := by
  simp [State.remains, State.standsInBath]

end

/-! ### The command -/

section
variable {s : State} {f : Frame} {inp : Inputs} {m d : Byte} {md : Mode}

theorem State.taken_validConfig {kind : Byte} : (s.taken kind f inp).validConfig = s.validConfig := by
  rw [State.taken, State.accept_eq]; rfl

theorem State.taken_racksHold {kind : Byte} : (s.taken kind f inp).racksHold md = s.racksHold md := by
  rw [State.taken, State.accept_eq]; rfl

theorem State.taken_someRack_countsForDrain {kind : Byte} :
    (s.taken kind f inp).someRack (s.taken kind f inp).countsForDrain = s.someRack s.countsForDrain := by
  rw [State.taken, State.accept_eq]; rfl

/-- A MODE that is taken applies its mode and answers the line state it leaves. -/
theorem exec_mode (hh : s.hears 0x0E#8 f) (hp : f.payload = [m, d]) (hmd : Mode.parse [m, d] = some md)
    (hpass : md.passage s.line.state ≠ none) (hconfig : md.needsConfig s.line.state = true → s.validConfig = true)
    (hracks : s.racksHold md = false) :
    ∃ t, exec (.mode f inp) s = .next t ∧ t = { (s.taken 0x0E#8 f inp).applyMode md with
      link := s.replying 0x0E#8 f inp [0#8, BitVec.ofNat 8 ((s.taken 0x0E#8 f inp).applyMode md).line.state.code, 0#8]
      out := t.out } := by
  refine exec_granted (c := .mode f inp) rfl hh (by rw [hp]; rfl) ?_ (State.applyMode_link _ _)
  rw [hp]
  exact modeOwner_granted hmd (by rwa [State.taken_line]) (by rwa [State.taken_line, State.taken_validConfig])
    (by rwa [State.taken_racksHold])

/-- A MODE refused for a cause changes nothing. -/
theorem exec_mode_refused {payload : List Byte} (hh : s.hears 0x0E#8 f) (hp : f.payload = [m, d])
    (ho : modeOwner [m, d] (s.taken 0x0E#8 f inp) = (s.taken 0x0E#8 f inp, payload)) :
    ∃ t, exec (.mode f inp) s = .next t ∧ s.onlyAnswered t 0x0E#8 f inp payload := by
  refine exec_refused (c := .mode f inp) rfl hh (by rw [hp]; rfl) ?_
  rw [hp]
  exact ho

/-- The reading of the two bytes of MODE. -/
theorem Mode.parse_standby : Mode.parse [0#8, d] = some .standby := rfl
theorem Mode.parse_run : Mode.parse [1#8, d] = some .run := rfl
theorem Mode.parse_dormant : Mode.parse [3#8, d] = some .dormant := rfl

theorem Mode.parse_unlisted (h : 4 ≤ m.toNat ∨ (m = 2#8 ∧ 2 ≤ d.toNat)) : Mode.parse [m, d] = none := by
  have hm : u8 [m, d] 0 = m.toNat := rfl
  have hd : u8 [m, d] 1 = d.toNat := rfl
  unfold Mode.parse
  rw [hm, hd]
  split
  case h_6 => rfl
  all_goals
    exfalso
    rcases h with h | ⟨rfl, h⟩
    · omega
    · simp_all

/-! ### The passages of the table (R145, R146) -/

section
variable (hh : s.hears 0x0E#8 f) (hp : f.payload = [m, d])
include hh hp

/-- Into STANDBY, out of DORMANT or WARMUP. -/
theorem exec_mode_standby (hm : m = 0#8) (h : (s.line.state = .dormant ∧ s.validConfig = true) ∨ s.line.state = .warmup) :
    ∃ t, exec (.mode f inp) s = .next t ∧ t.line.state = .standby ∧ t.line.warmStart = none ∧
      t.manifold.running = false ∧ t.link = s.replying 0x0E#8 f inp [0#8, 1#8, 0#8] ∧
      s.posted t .lineState 0 255 0 256 ∧ t.slots = s.slots ∧ t.deliveries = s.deliveries ∧ t.pump = s.pump := by
  subst hm
  obtain ⟨t, hexec, ht⟩ := exec_mode (inp := inp) hh hp Mode.parse_standby
    (by rcases h with ⟨h, -⟩ | h <;> rw [h] <;> nofun) (by rcases h with ⟨-, h⟩ | h; exacts [fun _ => h, by rw [h]; nofun]) rfl
  refine ⟨t, hexec, ?_⟩
  rw [ht]
  have hposted := State.enterLine_posted (s := s.taken 0x0E#8 f inp) .standby .mode
  refine ⟨by simp [State.applyMode, State.entered], by simp [State.applyMode, State.entered], ?_, ?_, ?_, ?_, ?_, ?_⟩
  · exact State.enterLine_running _ _
  · simp only [State.applyMode, State.enterLine_line, State.entered]; rfl
  · exact (hposted.of_clock (State.taken_clock ..)).congr rfl
  · exact (State.enterLine_slots _ _ _).trans (State.taken_slots ..)
  · simp only [State.applyMode]; rw [State.enterLine_frame]; simp
  · simp only [State.applyMode]; rw [State.enterLine_frame]; simp

/-- RUN out of DORMANT or STANDBY, before the judgement of CARRIAGE_FAULT. -/
theorem exec_mode_warmup (hm : m = 1#8) (h : s.line.state = .dormant ∨ s.line.state = .standby) (hv : s.validConfig = true) :
    ∃ t, exec (.mode f inp) s = .next t ∧ t = { (s.taken 0x0E#8 f inp).enterWarmup with
      link := s.replying 0x0E#8 f inp [0#8, BitVec.ofNat 8 (s.taken 0x0E#8 f inp).enterWarmup.line.state.code, 0#8]
      out := t.out } := by
  subst hm
  obtain ⟨t, hexec, ht⟩ := exec_mode (inp := inp) hh hp Mode.parse_run (by rcases h with h | h <;> rw [h] <;> nofun)
    (fun _ => hv) rfl
  have happly : (s.taken 0x0E#8 f inp).applyMode .run = (s.taken 0x0E#8 f inp).enterWarmup := by
    rcases h with h | h <;> simp [State.applyMode, h]
  rw [happly] at ht
  exact ⟨t, hexec, ht⟩

theorem exec_mode_run (hm : m = 1#8) (h : s.line.state = .dormant ∨ s.line.state = .standby) (hv : s.validConfig = true)
    (hf : s.line.carriageFault = false) :
    ∃ t, exec (.mode f inp) s = .next t ∧ t.line.state = .warmup ∧ t.line.warmStart = some s.clock ∧
      (∀ n, t.settleOf n = 0) ∧ t.manifold.running = true ∧
      t.link = s.replying 0x0E#8 f inp [0#8, 2#8, 0#8] ∧ s.posted t .lineState 0 255 0 512 ∧ t.slots = s.slots := by
  obtain ⟨t, hexec, ht⟩ := exec_mode_warmup (inp := inp) hh hp hm h hv
  have henter : (s.taken 0x0E#8 f inp).enterWarmup = (s.taken 0x0E#8 f inp).enterLine .warmup .mode := by
    simp [State.enterWarmup, State.entered, hf]
  rw [henter] at ht
  have hposted := State.enterLine_posted (s := s.taken 0x0E#8 f inp) .warmup .mode
  refine ⟨t, hexec, ?_⟩
  rw [ht]
  refine ⟨by simp [State.entered], by simp [State.entered], fun n => ?_, ?_, ?_, ?_, ?_⟩
  · simp only [State.settleOf, State.enterLine_line, State.entered, if_true]
    unfold atStation
    split
    · rfl
    · exact (List.getD_eq_getElem?_getD ..).trans (List.getElem?_getD_replicate_default_eq ..)
  · exact State.enterLine_running _ _
  · simp only [State.enterLine_line, State.entered]; rfl
  · exact (hposted.of_clock (State.taken_clock ..)).congr rfl
  · exact (State.enterLine_slots _ _ _).trans (State.taken_slots ..)

theorem exec_mode_run_fault (hm : m = 1#8) (h : s.line.state = .dormant ∨ s.line.state = .standby) (hv : s.validConfig = true)
    (hf : s.line.carriageFault = true) :
    ∃ t, exec (.mode f inp) s = .next t ∧ t.line.state = .faulted ∧ t.driver.faultCleared = false ∧
      s.posted t .lineState 0 255 0 512 ∧ s.posted t .lineState 0 255 0 (5 * 256 + 4) := by
  obtain ⟨t, hexec, ht⟩ := exec_mode_warmup (inp := inp) hh hp hm h hv
  have henter : (s.taken 0x0E#8 f inp).enterWarmup = ((s.taken 0x0E#8 f inp).enterLine .warmup .mode).faultNotice := by
    simp [State.enterWarmup, State.entered, hf]
  have hwarm : ((s.taken 0x0E#8 f inp).enterLine .warmup .mode).line.state = .warmup := by simp [State.entered]
  have hclock : ((s.taken 0x0E#8 f inp).enterLine .warmup .mode).clock = s.clock := by simp
  have hposted := State.enterLine_posted (s := s.taken 0x0E#8 f inp) .warmup .mode
  rw [henter] at ht
  generalize (s.taken 0x0E#8 f inp).enterLine .warmup .mode = w at *
  have hheld := State.faultNotice_held (s := w) (by simp [hwarm])
  have hfault : w.posted w.faulted .lineState 0 255 0 (5 * 256 + 4) :=
    State.enterLine_posted (s := w.setDrainTarget none) .faulted .fault
  have hlater := hfault.of_prefix (State.faultNotice_work (.inr (.inr hwarm))).posts
  refine ⟨t, hexec, ?_⟩
  rw [ht]
  refine ⟨hheld.state, hheld.cleared, ?_, (hlater.of_clock hclock).congr rfl⟩
  exact ((hposted.of_prefix w.faultNotice_posts).of_clock (State.taken_clock ..)).congr rfl

/-- RUN in READY. -/
theorem exec_mode_run_ready (hm : m = 1#8) (h : s.line.state = .ready) :
    ∃ t, exec (.mode f inp) s = .next t ∧ s.onlyAnswered t 0x0E#8 f inp [0#8, 3#8, 0#8] := by
  subst hm
  refine exec_mode_refused hh hp ((modeOwner_granted Mode.parse_run (by simp [h, Mode.passage]) (by simp [h, Mode.needsConfig])
    rfl).trans ?_)
  have happly : (s.taken 0x0E#8 f inp).applyMode .run = s.taken 0x0E#8 f inp := by simp [State.applyMode, h]
  rw [happly, State.taken_line, h]
  rfl

/-- RUN out of DRAINING. -/
theorem exec_mode_run_draining (hm : m = 1#8) (h : s.line.state = .draining) :
    ∃ t, exec (.mode f inp) s = .next t ∧ t.line.state = .ready ∧ t.line.drainTarget = none ∧
      t.link = s.replying 0x0E#8 f inp [0#8, 3#8, 0#8] ∧ s.posted t .lineState 0 255 0 768 ∧ t.slots = s.slots ∧
      t.schedule = s.schedule := by
  subst hm
  obtain ⟨t, hexec, ht⟩ := exec_mode (inp := inp) hh hp Mode.parse_run (by simp [h, Mode.passage])
    (by simp [h, Mode.needsConfig]) rfl
  have happly : (s.taken 0x0E#8 f inp).applyMode .run = ((s.taken 0x0E#8 f inp).setDrainTarget none).enterLine .ready .mode := by
    simp [State.applyMode, h]
  have hposted := State.enterLine_posted (s := (s.taken 0x0E#8 f inp).setDrainTarget none) .ready .mode
  rw [happly] at ht
  refine ⟨t, hexec, ?_⟩
  rw [ht]
  refine ⟨by simp [State.entered], by simp [State.entered, State.setDrainTarget], ?_, ?_, ?_, ?_⟩
  · simp only [State.enterLine_line, State.entered]; rfl
  · exact (hposted.of_clock (State.taken_clock ..)).congr rfl
  · simp [State.setDrainTarget]
  · simp [State.setDrainTarget]

/-- DRAIN in READY with racks that count. -/
theorem exec_mode_drain {target : LineState} (hmd : Mode.parse [m, d] = some (.drain target)) (h : s.line.state = .ready)
    (hcounts : s.someRack s.countsForDrain = true) :
    ∃ t, exec (.mode f inp) s = .next t ∧ t.line.state = .draining ∧ t.line.drainTarget = some target ∧
      t.link = s.replying 0x0E#8 f inp [0#8, 4#8, 0#8] ∧ s.posted t .lineState 0 255 0 1024 ∧ t.slots = s.slots ∧
      t.schedule = s.schedule := by
  obtain ⟨t, hexec, ht⟩ := exec_mode (inp := inp) hh hp hmd (by simp [h, Mode.passage]) (by simp [Mode.needsConfig]) rfl
  have happly : (s.taken 0x0E#8 f inp).applyMode (.drain target) =
      ((s.taken 0x0E#8 f inp).setDrainTarget (some target)).enterLine .draining .mode := by
    rw [State.applyMode, State.beginDrain_eq, if_pos (by rwa [State.taken_someRack_countsForDrain])]
  have hposted := State.enterLine_posted (s := (s.taken 0x0E#8 f inp).setDrainTarget (some target)) .draining .mode
  rw [happly] at ht
  refine ⟨t, hexec, ?_⟩
  rw [ht]
  refine ⟨by simp [State.entered], by simp [State.entered, State.setDrainTarget], ?_, ?_, ?_, ?_⟩
  · simp only [State.enterLine_line, State.entered]; rfl
  · exact (hposted.of_clock (State.taken_clock ..)).congr rfl
  · simp [State.setDrainTarget]
  · simp [State.setDrainTarget]

/-- DRAIN in READY with no rack that counts. -/
theorem exec_mode_drained {target : LineState} (hmd : Mode.parse [m, d] = some (.drain target)) (h : s.line.state = .ready)
    (hcounts : s.someRack s.countsForDrain = false) :
    ∃ t, exec (.mode f inp) s = .next t ∧ t.line.state = target ∧ t.line.drainTarget = none ∧
      t.link = s.replying 0x0E#8 f inp [0#8, BitVec.ofNat 8 target.code, 0#8] ∧
      s.posted t .lineState 0 255 0 (target.code * 256) := by
  obtain ⟨t, hexec, ht⟩ := exec_mode (inp := inp) hh hp hmd (by simp [h, Mode.passage]) (by simp [Mode.needsConfig]) rfl
  have happly : (s.taken 0x0E#8 f inp).applyMode (.drain target) =
      ((s.taken 0x0E#8 f inp).setDrainTarget none).enterLine target .mode := by
    rw [State.applyMode, State.beginDrain_eq, if_neg (by rw [State.taken_someRack_countsForDrain]; simp [hcounts])]
  have hposted : ((s.taken 0x0E#8 f inp).setDrainTarget none).posted
      (((s.taken 0x0E#8 f inp).setDrainTarget none).enterLine target .mode) .lineState 0 255 0 (target.code * 256) := by
    have hmode := State.enterLine_posted (s := (s.taken 0x0E#8 f inp).setDrainTarget none) target .mode
    rwa [show LineCause.mode.code = 0 from rfl, Nat.add_zero] at hmode
  rw [happly] at ht
  refine ⟨t, hexec, ?_⟩
  rw [ht]
  refine ⟨by simp [State.entered], by simp [State.entered, State.setDrainTarget], ?_, ?_⟩
  · simp only [State.enterLine_line, State.entered]
  · exact (hposted.of_clock (State.taken_clock ..)).congr rfl

/-- Into DORMANT. -/
theorem exec_mode_dormant (hm : m = 3#8) (hpass : Mode.passage .dormant s.line.state ≠ none)
    (hracks : s.racksHold .dormant = false) :
    ∃ t, exec (.mode f inp) s = .next t ∧ t.line = (s.entered .dormant).line ∧
      t.driver = s.dropFaultCleared.driver ∧ t.pump = none ∧
      t.deliveries = s.deliveries.map (fun x => { x with running := false }) ∧ t.manifold.running = false ∧
      t.link = s.replying 0x0E#8 f inp [0#8, 0#8, 0#8] ∧ t.slots = s.slots := by
  subst hm
  obtain ⟨t, hexec, ht⟩ := exec_mode (inp := inp) hh hp Mode.parse_dormant hpass (by cases s.line.state <;> nofun) hracks
  refine ⟨t, hexec, ?_⟩
  rw [ht, State.dropFaultCleared_eq]
  simp only [State.applyMode, State.dropFaultCleared_eq]
  refine ⟨by simp [State.entered], by simp [State.entered], ?_, ?_, ?_, ?_, by simp⟩
  · rw [State.enterLine_frame]; rfl
  · rw [State.enterLine_frame]; simp
  · exact State.enterLine_running _ _
  · simp only [State.enterLine_line, State.entered]; rfl

end

end

/-- Settles O41: the passages of the table one by one, then the three causes of a refusal and the unlisted modes. -/
theorem modeMakesItsPassage : Obligations.ModeMakesItsPassage := by
  unfold Obligations.ModeMakesItsPassage
  intro f inp s m d hh hp valid hvalid
  have hconfig : s.validConfig = true ↔ valid := State.validConfig_iff.trans hvalid.symm
  refine ⟨fun hm h => ?_, fun hm h hv hf => ?_, fun hm h hv hf => ?_, exec_mode_run_ready hh hp,
    exec_mode_run_draining hh hp, fun hm h target htarget => ?_, fun hm h hracks => ?_, fun hm h => ?_,
    fun code hcode => ⟨fun h => ?_, fun hv h => ?_, fun hm h hracks => ?_⟩, fun h => ?_⟩
  · exact exec_mode_standby hh hp hm (by rwa [hconfig])
  · exact exec_mode_run hh hp hm h (hconfig.mpr hv) hf
  · exact exec_mode_run_fault hh hp hm h (hconfig.mpr hv) hf
  · have hparse : Mode.parse [m, d] = some (.drain target) ∧ d = BitVec.ofNat 8 target.code ∧ d.toNat = target.code := by
      rcases htarget with ⟨rfl, rfl⟩ | ⟨rfl, rfl⟩ <;> subst hm <;> exact ⟨rfl, rfl, rfl⟩
    obtain ⟨hmd, hd, hdn⟩ := hparse
    have hcounts : s.someRack s.countsForDrain = true ↔ ∃ e ∈ s.racks, e.2.phase = .waitingEntry ∨ e.2.phase = .inBath ∨
        e.2.phase = .onCarriage ∨ (e.2.phase = .orphan ∧ s.isBath e.2.station = true) := by
      simp only [State.someRack_iff, State.countsForDrain_iff]
    split
    · next hc => exact exec_mode_drain hh hp hmd h (hcounts.mpr hc)
    · next hc =>
      rw [hdn, hd]
      exact exec_mode_drained hh hp hmd h (Bool.eq_false_iff.mpr fun h' => hc (hcounts.mp h'))
  · have hhold : s.racksHold .dormant = false := by
      have hnot : s.someRack s.inFlight = false := by
        rw [Bool.eq_false_iff, Ne, State.someRack_iff]
        rintro ⟨e, he, hfly⟩
        obtain ⟨hbath, hcarriage, hwaiting⟩ := hracks e he
        rcases State.inFlight_iff.mp hfly with h | h | h
        · rw [hbath] at h; cases h
        · exact hcarriage h
        · exact hwaiting h
      rw [State.racksHold, if_neg (by rcases h with h | h | h <;> rw [h] <;> nofun), hnot]
    obtain ⟨t, hexec, hline, -, hpump, hdeliveries, hrunning, hlink, hslots⟩ :=
      exec_mode_dormant (inp := inp) hh hp hm (by rcases h with h | h | h <;> rw [h] <;> nofun) hhold
    exact ⟨t, hexec, by rw [hline]; rfl, by rw [hline]; rfl, hpump, hdeliveries, hrunning, hlink, hslots⟩
  · have hhold : s.racksHold .dormant = s.someRack s.remains := by rw [State.racksHold, if_pos h]
    split
    · next hracks =>
      have hnot : s.someRack s.remains = false := by
        rw [Bool.eq_false_iff, Ne, State.someRack_iff]
        rintro ⟨e, he, hleft⟩
        obtain ⟨hbath, hcarriage⟩ := hracks e he
        rcases State.remains_iff.mp hleft with h | h
        · rw [hbath] at h; cases h
        · exact hcarriage h
      obtain ⟨t, hexec, hline, hdriver, -⟩ :=
        exec_mode_dormant (inp := inp) hh hp hm (by rw [h]; nofun) (hhold.trans hnot)
      rw [State.dropFaultCleared, if_pos h] at hdriver
      exact ⟨t, hexec, by rw [hline]; rfl, by rw [hdriver], by rw [hline]; rfl, by rw [hdriver]⟩
    · next hracks =>
      have hsome : s.someRack s.remains = true := by
        by_contra hnot
        refine hracks fun e he => ?_
        have hleft : ¬ s.remains e.2 = true := fun h => hnot (State.someRack_iff.mpr ⟨e, he, h⟩)
        rw [State.remains_iff, not_or] at hleft
        exact ⟨by simpa using hleft.1, hleft.2⟩
      subst hm
      refine exec_mode_refused hh hp ((modeOwner_racks Mode.parse_dormant (by rw [State.taken_line, h]; nofun) (by
        rw [State.taken_line, h]; nofun) (by rw [State.taken_racksHold, hhold, hsome])).trans ?_)
      rw [State.taken_line, h]
      rfl
  · have hrefused {md : Mode} (hmd : Mode.parse [m, d] = some md) (hpass : md.passage s.line.state = none) :
        ∃ t, exec (.mode f inp) s = .next t ∧ s.onlyAnswered t 0x0E#8 f inp [4#8, code, 1#8] := by
      refine exec_mode_refused hh hp ((modeOwner_noPassage hmd (by rwa [State.taken_line])).trans ?_)
      rw [State.taken_line, hcode]
    rcases h with ⟨rfl, hd, hw⟩ | ⟨rfl, h | h⟩ | ⟨rfl, hd, hr⟩ | ⟨rfl, h | h⟩
    · refine hrefused Mode.parse_standby ?_
      cases hs : s.line.state <;> simp_all [Mode.passage]
    · exact hrefused Mode.parse_run (by rw [h]; rfl)
    · exact hrefused Mode.parse_run (by rw [h]; rfl)
    · obtain ⟨target, hmd⟩ : ∃ target, Mode.parse [2#8, d] = some (.drain target) := by
        have hcases : d.toNat = 0 ∨ d.toNat = 1 := by omega
        rcases hcases with h | h
        · exact ⟨.dormant, by rw [BitVec.eq_of_toNat_eq (h.trans rfl : d.toNat = (0#8).toNat)]; rfl⟩
        · exact ⟨.standby, by rw [BitVec.eq_of_toNat_eq (h.trans rfl : d.toNat = (1#8).toNat)]; rfl⟩
      refine hrefused hmd ?_
      cases hs : s.line.state <;> simp_all [Mode.passage]
    · exact hrefused Mode.parse_dormant (by rw [h]; rfl)
    · exact hrefused Mode.parse_dormant (by rw [h]; rfl)
  · have hrefused {md : Mode} (hmd : Mode.parse [m, d] = some md) (hpass : md.passage s.line.state ≠ none)
        (hneeds : md.needsConfig s.line.state = true) :
        ∃ t, exec (.mode f inp) s = .next t ∧ s.onlyAnswered t 0x0E#8 f inp [4#8, code, 2#8] := by
      have hnot : s.validConfig = false := Bool.eq_false_iff.mpr fun h => hv (hconfig.mp h)
      refine exec_mode_refused hh hp ((modeOwner_noConfig hmd (by rwa [State.taken_line]) (by rwa [State.taken_line])
        (by rwa [State.taken_validConfig])).trans ?_)
      rw [State.taken_line, hcode]
    rcases h with ⟨rfl, h⟩ | ⟨rfl, h | h⟩
    · exact hrefused Mode.parse_standby (by rw [h]; nofun) (by rw [h]; rfl)
    · exact hrefused Mode.parse_run (by rw [h]; nofun) (by rw [h]; rfl)
    · exact hrefused Mode.parse_run (by rw [h]; nofun) (by rw [h]; rfl)
  · subst hm
    have hhold : s.racksHold .dormant = true := by
      rw [State.racksHold, if_neg (by rcases h with h | h | h <;> rw [h] <;> nofun), State.someRack_iff]
      obtain ⟨e, he, hfly⟩ := hracks
      exact ⟨e, he, State.inFlight_iff.mpr hfly⟩
    refine exec_mode_refused hh hp ((modeOwner_racks Mode.parse_dormant
      (by rw [State.taken_line]; rcases h with h | h | h <;> rw [h] <;> nofun)
      (by rw [State.taken_line]; rcases h with h | h | h <;> rw [h] <;> nofun) (by rwa [State.taken_racksHold])).trans ?_)
    rw [State.taken_line, hcode]
  · refine exec_mode_refused hh hp ((modeOwner_unlisted (Mode.parse_unlisted h)).trans ?_)
    rw [State.taken_line]

end Sys2Proof.Machine
end

section
/-! PROOFS. The reads (2.4, 4.5, 4.9, 5.7, 8.9): the fields of each record read back from the payload. -/

namespace Sys2Proof.Machine

/-! ### Codes and bit sets fit their bytes -/

theorem Phase.code_le (p : Phase) : p.code ≤ 255 := by cases p <;> decide
theorem Role.code_le (r : Role) : r.code ≤ 255 := by cases r <;> decide
theorem RackOutcome.code_le (o : RackOutcome) : o.code ≤ 255 := by cases o <;> decide
theorem Purpose.code_le (p : Purpose) : p.code ≤ 255 := by cases p <;> decide

theorem bitsToNat_le {bs : List Bool} (h : bs.length ≤ 8) : bitsToNat bs ≤ 255 := by
  have hlt := bitsToNat_lt bs
  have hpow : 2 ^ bs.length ≤ 2 ^ 8 := Nat.pow_le_pow_right (by omega) h
  omega

theorem RackFlags.bits_le (f : RackFlags) : f.bits ≤ 255 := bitsToNat_le (by simp)

theorem FlagSet.bits_le (f : FlagSet) : f.bits ≤ 65535 := by
  have hlt : f.bits < 2 ^ 9 := bitsToNat_lt [f.tempLow, f.tempHigh, f.spread, f.probeFault, f.levelLow, f.levelHigh,
    f.cradleFault, f.exhUnknown, f.exhausted]
  omega

@[simp] theorem u32_bSecond (t : Option Nat) : u32 (bSecond t) 0 = min (t.getD 0) 4294967295 := u32_b4 _

@[simp] theorem bSecond_length (t : Option Nat) : (bSecond t).length = 4 := by simp [bSecond]

@[simp] theorem bSigned_length (z : Int) : (bSigned z).length = 4 := by simp [bSigned]

/-- A signed field reads as the value modulo 2^32 (R171). -/
@[simp] theorem u32_bSigned (z : Int) : ((u32 (bSigned z) 0 : Nat) : Int) = z % 4294967296 := by
  have hhigh : u16 (bSigned z) 0 = (BitVec.ofInt 32 z).toNat / 65536 % 65536 := u16_wordBytes _
  have hlow : u16 (bSigned z) 2 = (BitVec.ofInt 32 z).toNat % 65536 := u16_wordBytes _
  have hlt := (BitVec.ofInt 32 z).isLt
  have hz : ((BitVec.ofInt 32 z).toNat : Int) = z % 4294967296 := by
    rw [BitVec.toNat_ofInt]
    omega
  rw [u32, hhigh, hlow]
  omega

theorem u8_bBool_iff (b : Bool) : b.toNat = 1 ↔ b = true := by cases b <;> decide

/-! ### A deviation list -/

theorem deviationBytes_length (l : List (Nat × Int)) : (deviationBytes l).length = 5 * l.length :=
  length_flatMap_of_length_eq (g := fun e : Nat × Int => b1 e.1 ++ bSigned e.2) (fun _ => rfl) l

/-- A deviation, read from the place in a payload where the list begins. -/
theorem deviation_of_bytes (before : List Byte) {l : List (Nat × Int)} {p : List Byte} {n i : Nat} {d : Nat × Int}
    (hp : p = before ++ deviationBytes l) (hn : before.length = n) (hi : l[i]? = some d) :
    u8 p (n + 5 * i) = min d.1 255 ∧ ((u32 p (n + 1 + 5 * i) : Nat) : Int) = d.2 % 4294967296 := by
  obtain ⟨lead, after, heq, hlen⟩ := flatMap_eq_of_getElem? (g := fun e : Nat × Int => b1 e.1 ++ bSigned e.2) (k := 5)
    (fun _ => rfl) hi
  have hdev : p = (before ++ lead) ++ (b1 d.1 ++ (bSigned d.2 ++ after)) := by
    rw [hp, deviationBytes, heq]
    simp only [List.append_assoc]
  have hlead : (before ++ lead).length = n + 5 * i := by rw [List.length_append, hn, hlen]
  rw [hdev, Nat.add_right_comm, ← hlead]
  refine ⟨by simp, ?_⟩
  rw [u32_append_right _ _ (by omega), Nat.add_sub_cancel_left, u32_append_right _ _ (by simp), u32_append_left _ _ (by simp)]
  exact u32_bSigned _

/-! ### READ RACK (R73, 12.5) -/

/-- The result, and the fields that say which rack it is, what it is to go through, and where it stands. -/
def Rack.placeBytes (k : Nat) (r : Rack) : List Byte :=
  b1 0 ++ (b1 k ++ (b2 r.tag ++ (b1 (r.recipe.getD 255) ++ (b1 r.scale ++ (b1 r.load ++ (b1 r.loadStation ++ (b1 r.phase.code ++
  (b1 r.step ++ b1 r.station))))))))

/-- The fields of its stay and of its development. -/
def Rack.stayBytes (r : Rack) : List Byte :=
  bSecond r.immersion ++ (b4 r.dose ++ (b4 r.target ++ (b2 r.rate ++ (b2 r.heldRate ++ (b4 0 ++ (bSecond r.predicted ++
  bSecond r.nextStart))))))

/-- The fields of its flags, its course and its outcome. -/
def Rack.courseBytes (r : Rack) : List Byte :=
  b1 r.flags.bits ++ (b1 r.pending.code ++ (b4 r.admitted ++ (bSecond r.entered ++ (bSecond r.unload ++ (bSecond r.ended ++
  (b1 r.shownOutcome.code ++ (b1 r.presenceBits ++ b1 r.deviations.length)))))))

@[simp] theorem Rack.placeBytes_length (k : Nat) (r : Rack) : (r.placeBytes k).length = 11 := by simp [Rack.placeBytes]
@[simp] theorem Rack.stayBytes_length (r : Rack) : r.stayBytes.length = 28 := by simp [Rack.stayBytes]
@[simp] theorem Rack.courseBytes_length (r : Rack) : r.courseBytes.length = 21 := by simp [Rack.courseBytes]

theorem Rack.reply_eq (k : Nat) (r : Rack) :
    replyOk (r.bytes k) = r.placeBytes k ++ (r.stayBytes ++ (r.courseBytes ++ deviationBytes r.deviations)) := by
  unfold Rack.bytes Rack.placeBytes Rack.stayBytes Rack.courseBytes
  rw [replyOk_eq]
  repeat rw [List.append_assoc]

theorem Rack.shownOutcome_code (r : Rack) : r.shownOutcome.code =
    if r.phase = .awaitingReport then r.outcome.code else if r.pending = .none then 1 else r.pending.code := by
  unfold Rack.shownOutcome Rack.unloadOutcome
  split
  · rfl
  · split <;> rfl

theorem Rack.presenceBits_le (r : Rack) : r.presenceBits ≤ 255 := bitsToNat_le (by simp)

/-- The racks are looked through in ascending slot. -/
theorem State.find_racks {s : State} {q : Nat × Rack → Bool} {k : Nat} {r : Rack} :
    s.racks.find? q = some (k, r) ↔
      k < 24 ∧ s.rack k = some r ∧ q (k, r) = true ∧ ∀ j x, j < k → s.rack j = some x → q (j, x) = false := by
  have hmap (a : Nat) : ((s.rack a).map fun r => (a, r)).any q = true ↔ ∃ x, s.rack a = some x ∧ q (a, x) = true := by
    cases s.rack a <;> simp
  rw [State.racks, List.find?_filterMap, Option.bind_eq_some_iff]
  constructor
  · rintro ⟨a, hfind, hrack⟩
    obtain ⟨r', hr, heq⟩ := Option.map_eq_some_iff.mp hrack
    cases heq
    obtain ⟨hany, hmem, hlower⟩ := List.find?_range_eq_some.mp hfind
    obtain ⟨x, hx, hq⟩ := (hmap _).mp hany
    rw [hr] at hx
    cases hx
    refine ⟨List.mem_range.mp hmem, hr, hq, fun j x hj hx => ?_⟩
    have hnot : ¬ ((s.rack j).map fun r => (j, r)).any q = true := by simpa using hlower j hj
    rw [hmap] at hnot
    exact Bool.eq_false_iff.mpr fun h => hnot ⟨x, hx, h⟩
  · rintro ⟨hk, hr, hq, hlower⟩
    refine ⟨k, List.find?_range_eq_some.mpr ⟨(hmap k).mpr ⟨r, hr, hq⟩, List.mem_range.mpr hk, fun j hj => ?_⟩, by rw [hr]; rfl⟩
    have hnot : ¬ ((s.rack j).map fun r => (j, r)).any q = true := by
      rw [hmap]
      rintro ⟨x, hx, h⟩
      rw [hlower j x hj hx] at h
      cases h
    simpa using hnot

theorem State.find_racks_none {s : State} {q : Nat × Rack → Bool} :
    s.racks.find? q = none ↔ ∀ k r, k < 24 → s.rack k = some r → q (k, r) = false := by
  rw [List.find?_eq_none]
  constructor
  · intro h k r hk hr
    exact Bool.eq_false_iff.mpr (h (k, r) (State.mem_racks.mpr ⟨hk, hr⟩))
  · rintro h ⟨k, r⟩ hmem
    obtain ⟨hk, hr⟩ := State.mem_racks.mp hmem
    simp [h k r hk hr]

section
variable {s : State} {f : Frame} {inp : Inputs} {sel hi lo : Byte}

theorem Rack.fields_of_placeBytes (k : Nat) (r : Rack) (hk : k ≤ 255) (after : List Byte) {p : List Byte}
    (hp : p = r.placeBytes k ++ after) :
    u8 p 0 = 0 ∧ u8 p 1 = k ∧ u16 p 2 = min r.tag 65535 ∧ u8 p 4 = min (r.recipe.getD 255) 255 ∧ u8 p 5 = min r.scale 255 ∧
    u8 p 6 = min r.load 255 ∧ u8 p 7 = min r.loadStation 255 ∧ u8 p 8 = r.phase.code ∧ u8 p 9 = min r.step 255 ∧
    u8 p 10 = min r.station 255 := by
  have hphase := r.phase.code_le
  subst hp
  simp only [Rack.placeBytes, List.append_assoc]
  exact ⟨by simp, by simp [hk], by simp, by simp, by simp, by simp, by simp, by simp [hphase], by simp, by simp⟩

theorem Rack.fields_of_stayBytes (r : Rack) (before after : List Byte) {p : List Byte} (hp : p = before ++ (r.stayBytes ++ after))
    (hb : before.length = 11) :
    u32 p 11 = min (r.immersion.getD 0) 4294967295 ∧ u32 p 15 = min r.dose 4294967295 ∧
    u32 p 19 = min r.target 4294967295 ∧ u16 p 23 = min r.rate 65535 ∧ u16 p 25 = min r.heldRate 65535 ∧
    u32 p 27 = 0 ∧ u32 p 31 = min (r.predicted.getD 0) 4294967295 ∧ u32 p 35 = min (r.nextStart.getD 0) 4294967295 := by
  subst hp
  simp only [Rack.stayBytes, List.append_assoc]
  exact ⟨by simp [hb], by simp [hb], by simp [hb], by simp [hb], by simp [hb], by simp [hb], by simp [hb], by simp [hb]⟩

theorem Rack.fields_of_courseBytes (r : Rack) (before after : List Byte) {p : List Byte}
    (hp : p = before ++ (r.courseBytes ++ after)) (hb : before.length = 39) :
    u8 p 39 = r.flags.bits ∧ u8 p 40 = r.pending.code ∧ u32 p 41 = min r.admitted 4294967295 ∧
    u32 p 45 = min (r.entered.getD 0) 4294967295 ∧ u32 p 49 = min (r.unload.getD 0) 4294967295 ∧
    u32 p 53 = min (r.ended.getD 0) 4294967295 ∧ u8 p 57 = r.shownOutcome.code ∧ u8 p 58 = r.presenceBits ∧
    u8 p 59 = min r.deviations.length 255 := by
  have hflags := r.flags.bits_le
  have hpending := r.pending.code_le
  have hshown := r.shownOutcome.code_le
  have hpresence := r.presenceBits_le
  subst hp
  simp only [Rack.courseBytes, List.append_assoc]
  exact ⟨by simp [hb, hflags], by simp [hb, hpending], by simp [hb], by simp [hb], by simp [hb], by simp [hb],
    by simp [hb, hshown], by simp [hb, hpresence], by simp [hb]⟩

/-- The bits of the presence byte (12.5). -/
theorem Rack.presenceBits_testBit (r : Rack) :
    r.presenceBits.testBit 0 = r.immersion.isSome ∧ r.presenceBits.testBit 1 = r.predicted.isSome ∧
    r.presenceBits.testBit 2 = r.nextStart.isSome ∧ r.presenceBits.testBit 3 = r.entered.isSome ∧
    r.presenceBits.testBit 4 = r.unload.isSome ∧ r.presenceBits.testBit 5 = r.ended.isSome := by
  simp only [Rack.presenceBits, testBit_bitsToNat]
  simp

/-- A READ RACK that names the rack of a slot answers its record. -/
theorem exec_readRack_found {k : Nat} {r : Rack} (hh : s.hears 0x15#8 f) (hp : f.payload = [sel, hi, lo])
    (hgood : selectorBad [sel, hi, lo] = false) (hsel : s.selected [sel, hi, lo] = some (k, r)) :
    ∃ t, exec (.readRack f inp) s = .next t ∧ s.onlyAnswered t 0x15#8 f inp (replyOk (r.bytes k)) := by
  refine exec_refused (c := .readRack f inp) rfl hh (by rw [hp]; rfl) ?_
  have hfound : (s.taken 0x15#8 f inp).selected [sel, hi, lo] = some (k, r) := by
    rw [State.taken, State.accept_eq]; exact hsel
  rw [hp]
  show readRackOwner _ _ = _
  simp only [readRackOwner, hgood, hfound]
  rfl

theorem exec_readRack_refused {payload : List Byte} (hh : s.hears 0x15#8 f) (hp : f.payload = [sel, hi, lo])
    (h : (selectorBad [sel, hi, lo] = true ∧ payload = [3#8]) ∨
      (selectorBad [sel, hi, lo] = false ∧ s.selected [sel, hi, lo] = none ∧ payload = [10#8])) :
    ∃ t, exec (.readRack f inp) s = .next t ∧ s.onlyAnswered t 0x15#8 f inp payload := by
  refine exec_refused (c := .readRack f inp) rfl hh (by rw [hp]; rfl) ?_
  have htaken : (s.taken 0x15#8 f inp).selected [sel, hi, lo] = s.selected [sel, hi, lo] := by
    rw [State.taken, State.accept_eq]; rfl
  rw [hp]
  show readRackOwner _ _ = _
  rcases h with ⟨hbad, rfl⟩ | ⟨hgood, hnone, rfl⟩
  · simp only [readRackOwner, hbad]; rfl
  · simp only [readRackOwner, hgood, htaken, hnone]; rfl

/-! ### Naming a rack by slot or by tag (R66, R73) -/

section
variable (hi lo : Byte)

theorem selectorBad_slot : selectorBad [1#8, hi, lo] = decide (23 < hi.toNat * 256 + lo.toNat) := rfl

theorem selectorBad_tag : selectorBad [0#8, hi, lo] = (hi.toNat * 256 + lo.toNat == 0) := rfl

theorem selectorBad_other (h : 2 ≤ sel.toNat) : selectorBad [sel, hi, lo] = true := by
  have hsel : u8 [sel, hi, lo] 0 = sel.toNat := rfl
  unfold selectorBad
  rw [hsel]
  split
  · omega
  · omega
  · rfl

theorem State.selected_slot :
    s.selected [1#8, hi, lo] = (s.rack (hi.toNat * 256 + lo.toNat)).map fun r => (hi.toNat * 256 + lo.toNat, r) := rfl

theorem State.selected_tag : s.selected [0#8, hi, lo] = s.rackTagged (hi.toNat * 256 + lo.toNat) := rfl

end

end

theorem State.rackTagged_iff {s : State} {v k : Nat} {r : Rack} : s.rackTagged v = some (k, r) ↔
    k < 24 ∧ s.rack k = some r ∧ r.tag = v ∧ ∀ j q, j < k → s.rack j = some q → q.tag ≠ v := by
  simp [State.rackTagged, State.find_racks]

theorem State.rackTagged_none {s : State} {v : Nat} :
    s.rackTagged v = none ↔ ∀ k r, k < 24 → s.rack k = some r → r.tag ≠ v := by
  simp only [State.rackTagged, State.find_racks_none, beq_eq_false_iff_ne]

/-- What names the rack of a slot, by slot or as the lowest with its tag, is a good selector that finds it. -/
theorem State.selected_of_named {s : State} {sel hi lo : Byte} {k : Nat} {r : Rack}
    (h : (sel = 1#8 ∧ hi.toNat * 256 + lo.toNat = k ∧ k < 24 ∧ s.rack k = some r) ∨
      (sel = 0#8 ∧ 1 ≤ hi.toNat * 256 + lo.toNat ∧ k < 24 ∧ s.rack k = some r ∧ r.tag = hi.toNat * 256 + lo.toNat ∧
        ∀ j q, j < k → s.rack j = some q → q.tag ≠ hi.toNat * 256 + lo.toNat)) :
    selectorBad [sel, hi, lo] = false ∧ s.selected [sel, hi, lo] = some (k, r) := by
  rcases h with ⟨rfl, rfl, hk, hr⟩ | ⟨rfl, hv, hk, hr, htag, hlower⟩
  · refine ⟨?_, by rw [State.selected_slot, hr]; rfl⟩
    rw [selectorBad_slot]
    simp only [decide_eq_false_iff_not]
    omega
  · refine ⟨?_, by rw [State.selected_tag]; exact State.rackTagged_iff.mpr ⟨hk, hr, htag, hlower⟩⟩
    rw [selectorBad_tag, beq_eq_false_iff_ne]
    omega

/-- What names a free slot, or a tag of no rack, is a good selector that finds nothing. -/
theorem State.selected_of_unknown {s : State} {sel hi lo : Byte}
    (h : (sel = 1#8 ∧ hi.toNat * 256 + lo.toNat < 24 ∧ s.rack (hi.toNat * 256 + lo.toNat) = none) ∨
      (sel = 0#8 ∧ 1 ≤ hi.toNat * 256 + lo.toNat ∧
        ∀ k r, k < 24 → s.rack k = some r → r.tag ≠ hi.toNat * 256 + lo.toNat)) :
    selectorBad [sel, hi, lo] = false ∧ s.selected [sel, hi, lo] = none := by
  rcases h with ⟨rfl, hv, hr⟩ | ⟨rfl, hv, hall⟩
  · refine ⟨?_, by rw [State.selected_slot, hr]; rfl⟩
    rw [selectorBad_slot]
    simp only [decide_eq_false_iff_not]
    omega
  · refine ⟨?_, by rw [State.selected_tag]; exact State.rackTagged_none.mpr hall⟩
    rw [selectorBad_tag, beq_eq_false_iff_ne]
    omega

theorem selectorBad_of_outside {sel hi lo : Byte}
    (h : 2 ≤ sel.toNat ∨ (sel = 0#8 ∧ hi.toNat * 256 + lo.toNat = 0) ∨ (sel = 1#8 ∧ 24 ≤ hi.toNat * 256 + lo.toNat)) :
    selectorBad [sel, hi, lo] = true := by
  rcases h with h | ⟨rfl, h⟩ | ⟨rfl, h⟩
  · exact selectorBad_other hi lo h
  · rw [selectorBad_tag, h]; rfl
  · rw [selectorBad_slot]
    simp only [decide_eq_true_iff]
    omega

/-- Settles O48: the record's fields are read back group by group. -/
theorem readRackReturnsTheRecord : Obligations.ReadRackReturnsTheRecord := by
  unfold Obligations.ReadRackReturnsTheRecord
  rintro f inp s sel hi lo hh hp v rfl
  refine ⟨fun k r h => ?_, fun h => ?_, fun h => ?_⟩
  · obtain ⟨hgood, hsel⟩ := State.selected_of_named h
    have hk : k ≤ 255 := by omega
    obtain ⟨t, hexec, ht⟩ := exec_readRack_found (inp := inp) hh hp hgood hsel
    refine ⟨t, _, hexec, ht, ?_⟩
    have heq := r.reply_eq k
    generalize replyOk (r.bytes k) = p at heq
    have hlen : p.length = 60 + 5 * r.deviations.length := by
      rw [heq]
      simp [deviationBytes_length]
      omega
    obtain ⟨h0, h1, h2, h4, h5, h6, h7, h8, h9, h10⟩ := r.fields_of_placeBytes k hk _ heq
    obtain ⟨h11, h15, h19, h23, h25, h27, h31, h35⟩ := r.fields_of_stayBytes _ _ heq (by simp)
    have hcourse : p = (r.placeBytes k ++ r.stayBytes) ++ (r.courseBytes ++ deviationBytes r.deviations) := by
      rw [heq, List.append_assoc]
    obtain ⟨h39, h40, h41, h45, h49, h53, h57, h58, h59⟩ := r.fields_of_courseBytes _ _ hcourse (by simp)
    have hdevs : p = (r.placeBytes k ++ r.stayBytes ++ r.courseBytes) ++ deviationBytes r.deviations := by
      rw [hcourse]
      simp only [List.append_assoc]
    refine ⟨hlen, h0, h1, h2, h4, h5, h6, h7, h8, h9, h10, h11, h15, h19, h23, h25, h27, h31, h35, h39, h40, h41, h45, h49, h53,
      h57.trans r.shownOutcome_code, by rw [h58]; exact r.presenceBits_testBit, h59, fun i d hd => ?_⟩
    exact deviation_of_bytes _ hdevs (by simp) hd
  · obtain ⟨hgood, hnone⟩ := State.selected_of_unknown h
    exact exec_readRack_refused hh hp (.inr ⟨hgood, hnone, rfl⟩)
  · exact exec_readRack_refused hh hp (.inl ⟨selectorBad_of_outside h, rfl⟩)

end Sys2Proof.Machine
end

section
/-! PROOFS. READ STATION, READ SCHEDULE and READ TIMELINE (5.7, 8.9). -/

namespace Sys2Proof.Machine

/-! ### READ STATION (R142, 12.9) -/

/-- The result, and the fields of a station that has no bath too. -/
def State.stationLead (s : State) (n : Nat) : List Byte :=
  b1 0 ++ (b1 n ++ (b1 (s.role n).code ++ (b1 (s.group n) ++ (bBool (s.hostClosed n) ++ (bBool (s.bath n).presence ++
  (b1 (s.occupantOf n).1 ++ (b2 (s.occupantOf n).2 ++ (bBool (s.isOpen n) ++ bBool (s.isUsable n)))))))))

@[simp] theorem State.stationLead_length (s : State) (n : Nat) : (s.stationLead n).length = 11 := by simp [State.stationLead]

theorem State.stationReply_eq (s : State) (n : Nat) : replyOk (s.stationBytes n) = s.stationLead n ++ s.bathBytes n := by
  rw [replyOk_eq, State.stationBytes, State.stationLead]
  simp only [List.append_assoc]

section
variable {s : State} {n : Nat}

theorem State.occupantOf_of_some {k : Nat} {r : Rack} (h : s.rackAt n = some (k, r)) : s.occupantOf n = (k, r.tag) := by
  simp only [State.occupantOf, h]

theorem State.occupantOf_of_none (h : s.rackAt n = none) : s.occupantOf n = (255, 0) := by
  simp only [State.occupantOf, h]

theorem State.fields_of_stationLead (hn : n ≤ 255) (after : List Byte) {p : List Byte} (hp : p = s.stationLead n ++ after) :
    u8 p 0 = 0 ∧ u8 p 1 = n ∧ u8 p 2 = (s.role n).code ∧ u8 p 3 = min (s.group n) 255 ∧
    (u8 p 4 = 1 ↔ s.hostClosed n = true) ∧ (u8 p 5 = 1 ↔ (s.bath n).presence = true) ∧
    (u8 p 6 = min (s.occupantOf n).1 255 ∧ u16 p 7 = min (s.occupantOf n).2 65535) ∧
    (u8 p 9 = 1 ↔ s.isOpen n = true) ∧ (u8 p 10 = 1 ↔ s.isUsable n = true) := by
  have hrole := (s.role n).code_le
  subst hp
  simp only [State.stationLead, List.append_assoc]
  exact ⟨by simp, by simp [hn], by simp [hrole], by simp, by simp, by simp, ⟨by simp, by simp⟩, by simp, by simp⟩

theorem State.bathBytes_of_isBath (h : s.isBath n = true) : s.bathBytes n =
    b2 (s.bath n).raw ++ (bBool (s.bath n).rawValid ++ (b2 ((s.bath n).filtered.getD 65535) ++ (b1 (s.bath n).invalid ++
    (b1 (s.bath n).rejected ++ (bBool (s.bath n).levelLow ++ (bBool (s.bath n).levelHigh ++ (b2 (s.bath n).conds.bits ++
    (b2 (s.bath n).latches.bits ++ (bBool (s.bath n).fresh ++ (b2 (s.bath n).exhaustion ++
    (b1 (s.deliveries.filter (·.station == n)).length ++ (b4 ((s.deliveries.filter (·.station == n)).map (·.volume)).sum ++
    bBool ((s.deliveries.filter (·.station == n)).any (·.running)))))))))))))) := by
  rw [State.bathBytes, if_pos h]
  simp only [List.append_assoc]

theorem State.bathBytes_of_not_isBath (h : s.isBath n = false) :
    s.bathBytes n = b2 0 ++ (b1 0 ++ (b2 65535 ++ List.replicate 17 0#8)) := by
  rw [State.bathBytes, if_neg (by simp [h])]
  simp only [List.append_assoc]

theorem State.bathBytes_length (s : State) (n : Nat) : (s.bathBytes n).length = 22 := by
  cases h : s.isBath n with
  | true => simp [State.bathBytes_of_isBath h]
  | false => simp [State.bathBytes_of_not_isBath h]

theorem State.fields_of_bathBytes (h : s.isBath n = true) (before : List Byte) {p : List Byte} (hp : p = before ++ s.bathBytes n)
    (hb : before.length = 11) :
    u16 p 11 = min (s.bath n).raw 65535 ∧ (u8 p 13 = 1 ↔ (s.bath n).rawValid = true) ∧
    u16 p 14 = min ((s.bath n).filtered.getD 65535) 65535 ∧ u8 p 16 = min (s.bath n).invalid 255 ∧
    u8 p 17 = min (s.bath n).rejected 255 ∧ (u8 p 18 = 1 ↔ (s.bath n).levelLow = true) ∧
    (u8 p 19 = 1 ↔ (s.bath n).levelHigh = true) ∧ u16 p 20 = (s.bath n).conds.bits ∧
    u16 p 22 = (s.bath n).latches.bits ∧ (u8 p 24 = 1 ↔ (s.bath n).fresh = true) ∧
    u16 p 25 = min (s.bath n).exhaustion 65535 ∧ u8 p 27 = min (s.deliveries.filter (·.station == n)).length 255 ∧
    u32 p 28 = min ((s.deliveries.filter (·.station == n)).map (·.volume)).sum 4294967295 ∧
    (u8 p 32 = 1 ↔ ∃ d ∈ s.deliveries, d.station = n ∧ d.running = true) := by
  have hconds := (s.bath n).conds.bits_le
  have hlatches := (s.bath n).latches.bits_le
  rw [State.bathBytes_of_isBath h] at hp
  subst hp
  refine ⟨by simp [hb], by simp [hb], by simp [hb], by simp [hb], by simp [hb], by simp [hb], by simp [hb], by simp [hb, hconds],
    by simp [hb, hlatches], by simp [hb], by simp [hb], by simp [hb], by simp [hb], ?_⟩
  simp [hb]

theorem State.blanks_of_bathBytes (h : s.isBath n = false) (before : List Byte) {p : List Byte}
    (hp : p = before ++ s.bathBytes n) (hb : before.length = 11) :
    u16 p 11 = 0 ∧ u8 p 13 = 0 ∧ u16 p 14 = 65535 ∧ ∀ i, 16 ≤ i → i ≤ 32 → u8 p i = 0 := by
  rw [State.bathBytes_of_not_isBath h] at hp
  subst hp
  refine ⟨by simp [hb], by simp [hb], by simp [hb], fun i hlo hhi => ?_⟩
  rw [u8_append_right _ _ (by omega), u8_append_right _ _ (by simp; omega), u8_append_right _ _ (by simp; omega),
    u8_append_right _ _ (by simp; omega), u8, List.getD_eq_getElem?_getD]
  exact congrArg BitVec.toNat (List.getElem?_getD_replicate_default_eq ..)

end

/-- Settles O49. -/
theorem readStationClearsTheFreshLatch : Obligations.ReadStationClearsTheFreshLatch := by
  unfold Obligations.ReadStationClearsTheFreshLatch
  intro f inp s n hh hp hbaths
  have hu : u8 [n] 0 = n.toNat := rfl
  refine ⟨fun hconf hn => ?_, fun hconf => ?_⟩
  · have hlo : 1 ≤ n.toNat := (State.configured_iff.mp hconf).1
    have htaken : (s.taken 0x16#8 f inp).stationBytes n.toNat = s.stationBytes n.toNat := by
      rw [State.taken, State.accept_eq]; rfl
    have howner : (catalogue 0x16#8).2 f.payload (s.taken 0x16#8 f inp) =
        ((s.taken 0x16#8 f inp).clearFresh n.toNat, replyOk (s.stationBytes n.toNat)) := by
      rw [hp]
      show readStationOwner _ _ = _
      simp only [readStationOwner, hu, State.taken_configured, hconf, if_true, htaken]
    obtain ⟨t, hexec, ht⟩ := exec_granted (c := .readStation f inp) rfl hh (by rw [hp]; rfl) howner rfl
    have hbath (m : Nat) : t.bath m = ((s.taken 0x16#8 f inp).clearFresh n.toNat).bath m := by rw [ht]; rfl
    refine ⟨t, replyOk (s.stationBytes n.toNat), hexec, ?_, ?_, ?_, fun m hm => ?_, ?_⟩
    · simp [State.stationReply_eq, State.bathBytes_length]
    · rw [ht]; rfl
    · rw [hbath, State.clearFresh, State.bath_setBath_same _ _ hlo (by simpa [hbaths] using hn), State.taken_bath]
    · rw [hbath, State.clearFresh, State.bath_setBath_other _ _ hm, State.taken_bath]
    have heq := s.stationReply_eq n.toNat
    generalize replyOk (s.stationBytes n.toNat) = p at heq
    obtain ⟨h0, h1, h2, h3, h4, h5, ⟨h6, h7⟩, h9, h10⟩ := State.fields_of_stationLead (by omega) _ heq
    refine ⟨h0, h1, h2, h3, h4, h5, fun k r hr => ?_, fun hr => ?_, h9, h10, fun hb => ?_, fun hb => ?_⟩
    · rw [State.occupantOf_of_some hr] at h6 h7
      exact ⟨h6, h7⟩
    · rw [State.occupantOf_of_none hr] at h6 h7
      exact ⟨h6, h7⟩
    · exact State.blanks_of_bathBytes hb _ heq (by simp)
    · exact State.fields_of_bathBytes hb _ heq (by simp)
  · refine exec_refused (c := .readStation f inp) rfl hh (by rw [hp]; rfl) ?_
    rw [hp]
    show readStationOwner _ _ = _
    simp only [readStationOwner, hu, State.taken_configured, hconf]
    rfl

/-! ### READ SCHEDULE (R92, 12.6) -/

theorem MoveKind.code_le (k : MoveKind) : k.code ≤ 3 := by cases k <;> decide

section
variable {s : State}

/-- The byte of an entry with its kind and its two marks (12.6). -/
def Entry.marks (e : Entry) : Nat := e.kind.code + (if e.firm then 4 else 0) + (if e.executing then 8 else 0)

theorem Entry.marks_fields (e : Entry) :
    e.marks ≤ 255 ∧ e.marks % 4 = e.kind.code ∧ e.marks.testBit 2 = e.firm ∧ e.marks.testBit 3 = e.executing := by
  unfold Entry.marks
  cases e.kind <;> cases e.firm <;> cases e.executing <;> decide

theorem State.entryBytes_eq (s : State) (e : Entry) : s.entryBytes e =
    b1 e.slot ++ (b2 (s.tagOf e.slot) ++ (b1 e.index ++ (b1 e.src ++ (b1 e.dst ++ (b1 e.marks ++ (b4 e.start ++
    (b1 e.duration ++ (b2 e.lateness ++ (b4 e.spanStart ++ (b4 e.spanEnd ++
    b1 (e.spanEnd - e.duration - e.spanStart))))))))))) := by
  rw [State.entryBytes, Entry.marks]
  simp only [List.append_assoc]

@[simp] theorem State.entryBytes_length (s : State) (e : Entry) : (s.entryBytes e).length = 23 := by
  simp [State.entryBytes_eq]

/-- The fields of an entry, read from the place in a payload where it begins. -/
theorem State.fields_of_entryBytes (before after : List Byte) (e : Entry) {p : List Byte} {n : Nat}
    (hp : p = before ++ (s.entryBytes e ++ after)) (hn : before.length = n) :
    u8 p n = min e.slot 255 ∧ u16 p (n + 1) = min (s.tagOf e.slot) 65535 ∧ u8 p (n + 3) = min e.index 255 ∧
    u8 p (n + 4) = min e.src 255 ∧ u8 p (n + 5) = min e.dst 255 ∧ u8 p (n + 6) = e.marks ∧
    u32 p (n + 7) = min e.start 4294967295 ∧ u8 p (n + 11) = min e.duration 255 ∧ u16 p (n + 12) = min e.lateness 65535 ∧
    u32 p (n + 14) = min e.spanStart 4294967295 ∧ u32 p (n + 18) = min e.spanEnd 4294967295 ∧
    u8 p (n + 22) = min (e.spanEnd - e.duration - e.spanStart) 255 := by
  have hmarks := e.marks_fields.1
  subst hp hn
  simp only [State.entryBytes_eq, List.append_assoc]
  exact ⟨by simp, by simp, by simp, by simp, by simp, by simp [hmarks], by simp, by simp, by simp, by simp, by simp, by simp⟩

/-- The reply of READ SCHEDULE: the entries from `a` on, at most `b` of them (R92). -/
def State.scheduleReply (s : State) (a b : Nat) : List Byte :=
  b1 0 ++ (b1 s.schedule.length ++ (b1 (min b (s.schedule.length - a)) ++
  ((s.schedule.drop a).take b).flatMap s.entryBytes))

theorem readScheduleOwner_granted {a b : Byte} (h : a.toNat ≤ 191 ∧ 1 ≤ b.toNat ∧ b.toNat ≤ 8) :
    readScheduleOwner [a, b] s = (s, s.scheduleReply a.toNat b.toNat) := by
  have ha : u8 [a, b] 0 = a.toNat := rfl
  have hb : u8 [a, b] 1 = b.toNat := rfl
  have hgood : (within 0 a.toNat 191 && within 1 b.toNat 8) = true := by simp [within, h]
  simp only [readScheduleOwner, ha, hb, hgood, if_true, State.scheduleReply, replyOk_eq, List.length_take, List.length_drop,
    List.append_assoc]

theorem readScheduleOwner_refused {a b : Byte} (h : ¬ (a.toNat ≤ 191 ∧ 1 ≤ b.toNat ∧ b.toNat ≤ 8)) :
    readScheduleOwner [a, b] s = (s, [3#8]) := by
  have ha : u8 [a, b] 0 = a.toNat := rfl
  have hb : u8 [a, b] 1 = b.toNat := rfl
  have hbad : ¬ (within 0 a.toNat 191 && within 1 b.toNat 8) = true := by simpa [within, -not_and] using h
  simp only [readScheduleOwner, ha, hb, if_neg hbad]
  rfl

/-! ### READ TIMELINE (R93, 12.11) -/

theorem State.intervalBytes_eq (s : State) (iv : Interval) : s.intervalBytes iv =
    b1 iv.slot ++ (b2 (s.tagOf iv.slot) ++ (b4 iv.start ++ (bSecond iv.stop ++ (b1 iv.purpose.code ++
    bBool iv.stop.isNone)))) := by
  rw [State.intervalBytes]
  simp only [List.append_assoc]

@[simp] theorem State.intervalBytes_length (s : State) (iv : Interval) : (s.intervalBytes iv).length = 13 := by
  simp [State.intervalBytes_eq]

/-- The fields of an interval, read from the place in a payload where it begins. -/
theorem State.fields_of_intervalBytes (before after : List Byte) (iv : Interval) {p : List Byte} {n : Nat}
    (hp : p = before ++ (s.intervalBytes iv ++ after)) (hn : before.length = n) :
    u8 p n = min iv.slot 255 ∧ u16 p (n + 1) = min (s.tagOf iv.slot) 65535 ∧ u32 p (n + 3) = min iv.start 4294967295 ∧
    u32 p (n + 7) = min (iv.stop.getD 0) 4294967295 ∧ u8 p (n + 11) = iv.purpose.code ∧
    (u8 p (n + 12) = 1 ↔ iv.stop = none) := by
  have hpurpose := iv.purpose.code_le
  subst hp hn
  simp only [State.intervalBytes_eq, List.append_assoc]
  exact ⟨by simp, by simp, by simp, by simp, by simp [hpurpose], by simp⟩

/-- What stands before the intervals in the reply of READ TIMELINE. -/
def State.timelineLead (s : State) (n : Nat) : List Byte :=
  b1 0 ++ (b1 n ++ (b1 (s.role n).code ++ (bBool (s.isOpen n) ++ (bBool (s.isUsable n) ++ (bBool (s.hostClosed n) ++
  (bBool (s.bath n).presence ++ (b1 (s.occupantOf n).1 ++ (b2 (s.occupantOf n).2 ++ b1 (s.timeline n).length))))))))

@[simp] theorem State.timelineLead_length (s : State) (n : Nat) : (s.timelineLead n).length = 11 := by
  simp [State.timelineLead]

def State.timelineReply (s : State) (n : Nat) : List Byte :=
  s.timelineLead n ++ (s.timeline n).flatMap s.intervalBytes

theorem State.fields_of_timelineLead {n : Nat} (hn : n ≤ 255) (after : List Byte) {p : List Byte}
    (hp : p = s.timelineLead n ++ after) :
    u8 p 0 = 0 ∧ u8 p 1 = n ∧ u8 p 2 = (s.role n).code ∧ (u8 p 3 = 1 ↔ s.isOpen n = true) ∧
    (u8 p 4 = 1 ↔ s.isUsable n = true) ∧ (u8 p 5 = 1 ↔ s.hostClosed n = true) ∧
    (u8 p 6 = 1 ↔ (s.bath n).presence = true) ∧
    (u8 p 7 = min (s.occupantOf n).1 255 ∧ u16 p 8 = min (s.occupantOf n).2 65535) ∧
    u8 p 10 = min (s.timeline n).length 255 := by
  have hrole := (s.role n).code_le
  subst hp
  simp only [State.timelineLead, List.append_assoc]
  exact ⟨by simp, by simp [hn], by simp [hrole], by simp, by simp, by simp, by simp, ⟨by simp, by simp⟩, by simp⟩

theorem readTimelineOwner_granted {n : Byte} (h : s.configured n.toNat = true) :
    readTimelineOwner [n] s = (s, s.timelineReply n.toNat) := by
  have hn : u8 [n] 0 = n.toNat := rfl
  simp only [readTimelineOwner, hn, h, if_true, State.timelineReply, State.timelineLead, replyOk_eq, List.append_assoc]

theorem readTimelineOwner_refused {n : Byte} (h : ¬ s.configured n.toNat = true) : readTimelineOwner [n] s = (s, [3#8]) := by
  have hn : u8 [n] 0 = n.toNat := rfl
  simp only [readTimelineOwner, hn, if_neg h]
  rfl

end

/-- Settles O50. -/
theorem readScheduleAndTimelineReturnThePlans : Obligations.ReadScheduleAndTimelineReturnThePlans := by
  unfold Obligations.ReadScheduleAndTimelineReturnThePlans
  intro f inp s a b
  refine ⟨fun hh hp => ?_, fun hh hp => ?_⟩
  · split
    · next h =>
      have htaken : (s.taken 0x17#8 f inp).scheduleReply a.toNat b.toNat = s.scheduleReply a.toNat b.toNat := by
        rw [State.taken, State.accept_eq]; rfl
      obtain ⟨t, hexec, ht⟩ := exec_refused (c := .readSchedule f inp) rfl hh (by rw [hp]; rfl)
        (by rw [hp]; exact (readScheduleOwner_granted h).trans (by rw [htaken]))
      refine ⟨t, _, hexec, ht, by simp [State.scheduleReply], by simp [State.scheduleReply], ?_, ?_, fun i e hi he => ?_⟩
      · simp [State.scheduleReply]; omega
      · simp [State.scheduleReply, length_flatMap_of_length_eq s.entryBytes_length]; omega
      · have htake : ((s.schedule.drop a.toNat).take b.toNat)[i]? = some e := by
          rwa [List.getElem?_take_of_lt hi, List.getElem?_drop]
        obtain ⟨before, after, heq, hlen⟩ := flatMap_eq_of_getElem? s.entryBytes_length htake
        have hreply : s.scheduleReply a.toNat b.toNat =
            (b1 0 ++ (b1 s.schedule.length ++ (b1 (min b.toNat (s.schedule.length - a.toNat)) ++ before))) ++
              (s.entryBytes e ++ after) := by
          rw [State.scheduleReply, heq]
          simp only [List.append_assoc]
        have hfields := State.fields_of_entryBytes _ _ _ hreply (n := 3 + 23 * i) (by simp; omega)
        obtain ⟨hslot, htag, hindex, hsrc, hdst, hmarks, hstart, hdur, hlate, hfrom, hto, hslack⟩ := hfields
        obtain ⟨-, hkind, hfirm, hexecuting⟩ := e.marks_fields
        simp only [Nat.add_right_comm 3] at htag hindex hsrc hdst hmarks hstart hdur hlate hfrom hto hslack
        refine ⟨hslot, htag, hindex, hsrc, hdst, ?_, ?_, ?_, hstart, hdur, hlate, hfrom, hto, hslack⟩
        · rw [hmarks, hkind]
        · rw [hmarks, hfirm]
        · rw [hmarks, hexecuting]
    · next h => exact exec_refused (c := .readSchedule f inp) rfl hh (by rw [hp]; rfl) (by rw [hp]; exact readScheduleOwner_refused h)
  · split
    · next h =>
      have htaken : (s.taken 0x18#8 f inp).timelineReply a.toNat = s.timelineReply a.toNat := by
        rw [State.taken, State.accept_eq]; rfl
      obtain ⟨t, hexec, ht⟩ := exec_refused (c := .readTimeline f inp) rfl hh (by rw [hp]; rfl)
        (by rw [hp]; exact (readTimelineOwner_granted (by rwa [State.taken_configured])).trans (by rw [htaken]))
      have hfields := State.fields_of_timelineLead (s := s) (n := a.toNat) (p := s.timelineReply a.toNat) (by omega) _ rfl
      obtain ⟨h0, h1, h2, h3, h4, h5, h6, ⟨h7, h8⟩, h10⟩ := hfields
      refine ⟨t, _, hexec, ht, ?_, h0, h1, h2, h3, h4, h5, h6, fun k r hr => ?_, fun hr => ?_, h10, fun i iv hiv => ?_⟩
      · simp [State.timelineReply, length_flatMap_of_length_eq s.intervalBytes_length]
      · rw [State.occupantOf_of_some hr] at h7 h8
        exact ⟨h7, h8⟩
      · rw [State.occupantOf_of_none hr] at h7 h8
        exact ⟨h7, h8⟩
      · obtain ⟨before, after, heq, hlen⟩ := flatMap_eq_of_getElem? s.intervalBytes_length hiv
        have hreply : s.timelineReply a.toNat = (s.timelineLead a.toNat ++ before) ++ (s.intervalBytes iv ++ after) := by
          rw [State.timelineReply, heq]
          simp only [List.append_assoc]
        have hiv := State.fields_of_intervalBytes _ _ _ hreply (n := 11 + 13 * i) (by simp; omega)
        simpa only [Nat.add_right_comm 11] using hiv
    · next h =>
      exact exec_refused (c := .readTimeline f inp) rfl hh (by rw [hp]; rfl)
        (by rw [hp]; exact readTimelineOwner_refused (by rwa [State.taken_configured]))

end Sys2Proof.Machine
end

section
/-! PROOFS. READ COMPLETIONS (4.5): the records taken, and the waiting racks that move up. -/

namespace Sys2Proof.Machine

/-! ### The waiting racks move up (R65) -/

section
variable {s t : State} {k : Nat} {l : List Nat}

theorem State.awaiting_eq (s : State) :
    s.awaiting = allSlots.filter fun k => (s.rack k).any fun r => r.phase == .awaitingReport := by
  unfold State.awaiting State.racks
  induction allSlots with
  | nil => rfl
  | cons a l ih =>
    cases h : s.rack a with
    | none => simpa [h] using ih
    | some r =>
      cases hp : r.phase == Phase.awaitingReport <;> simp [h, hp] at ih ⊢ <;> exact ih

theorem State.mem_awaiting : k ∈ s.awaiting ↔ k < 24 ∧ ∃ r, s.rack k = some r ∧ r.phase = .awaitingReport := by
  rw [State.awaiting_eq, List.mem_filter, allSlots, List.mem_range]
  simp [Option.any_eq_true]

theorem State.awaiting_nodup (s : State) : s.awaiting.Nodup := by
  rw [State.awaiting_eq]
  exact List.nodup_range.filter _

/-- The records of the racks of a list of slots. -/
def State.recordsOf (s : State) (l : List Nat) : List Completion := l.filterMap fun k => (s.rack k).map Rack.completion

theorem State.fileWaiting_of_room {r : Rack} (h : s.rack k = some r) (hroom : s.completions.length < 16) :
    s.fileWaiting k = { s with completions := s.completions ++ [r.completion] }.freeSlot k := by
  have hcapacity : s.completions.length < Config.completionCapacity := hroom
  simp only [State.fileWaiting, h, if_pos hcapacity, State.fileRack]

theorem State.fileWaiting_of_full (hfull : 16 ≤ s.completions.length) : s.fileWaiting k = s := by
  unfold State.fileWaiting
  split
  · exact if_neg (by simpa [Config.completionCapacity] using hfull)
  · rfl

theorem State.foldl_fileWaiting_of_full (hfull : 16 ≤ s.completions.length) : l.foldl State.fileWaiting s = s := by
  induction l with
  | nil => rfl
  | cons a l ih => rw [List.foldl_cons, State.fileWaiting_of_full hfull, ih]

/-- The slots of a list are taken in its order while there is room: the record of each enters the queue, and its slot is
free. -/
theorem State.foldl_fileWaiting (hl : l.Nodup) (hracks : ∀ k ∈ l, ∃ r, s.rack k = some r) (hs : s.completions.length ≤ 16)
    (ht : l.foldl State.fileWaiting s = t) :
    t = { s with completions := t.completions, slots := t.slots } ∧
    t.completions = s.completions ++ s.recordsOf (l.take (16 - s.completions.length)) ∧
    (∀ k ∈ l.take (16 - s.completions.length), t.rack k = none) ∧
    ∀ k, k ∉ l.take (16 - s.completions.length) → t.rack k = s.rack k := by
  induction l generalizing s with
  | nil =>
    subst ht
    exact ⟨rfl, by simp [State.recordsOf], by simp, fun _ _ => rfl⟩
  | cons a l ih =>
    by_cases hroom : s.completions.length < 16
    · obtain ⟨r, hr⟩ := hracks a List.mem_cons_self
      obtain ⟨ha, hnodup⟩ := List.nodup_cons.mp hl
      have hfiled := State.fileWaiting_of_room hr hroom
      rw [List.foldl_cons, hfiled] at ht
      have hother (k : Nat) (hk : k ≠ a) :
          ({ s with completions := s.completions ++ [r.completion] }.freeSlot a).rack k = s.rack k :=
        State.rack_freeSlot_other _ hk
      have hlen : ({ s with completions := s.completions ++ [r.completion] }.freeSlot a).completions.length =
          s.completions.length + 1 := by simp
      have hne {k : Nat} (hk : k ∈ l) : k ≠ a := fun h => ha (h ▸ hk)
      obtain ⟨hframe, hrecords, hfree, hrest⟩ := ih hnodup
        (fun k hk => by rw [hother k (hne hk)]; exact hracks k (List.mem_cons_of_mem _ hk)) (by rw [hlen]; exact hroom) ht
      have hone : 16 - s.completions.length = (16 - (s.completions.length + 1)) + 1 := by omega
      rw [hlen] at hrecords hfree hrest
      rw [hone, List.take_succ_cons]
      refine ⟨hframe, ?_, fun k hk => ?_, fun k hk => ?_⟩
      · have hsame : ({ s with completions := s.completions ++ [r.completion] }.freeSlot a).recordsOf
            (l.take (16 - (s.completions.length + 1))) = s.recordsOf (l.take (16 - (s.completions.length + 1))) := by
          refine List.filterMap_congr fun k hk => ?_
          rw [hother k (hne (List.mem_of_mem_take hk))]
        rw [hrecords, hsame]
        simp [State.recordsOf, hr]
      · rcases List.mem_cons.mp hk with rfl | hk
        · by_cases hlater : k ∈ l.take (16 - (s.completions.length + 1))
          · exact hfree k hlater
          · rw [hrest k hlater]
            exact State.rack_freeSlot_same _ _
        · exact hfree k hk
      · rw [List.mem_cons, not_or] at hk
        exact (hrest k hk.2).trans (hother k hk.1)
    · have hfull : 16 ≤ s.completions.length := by omega
      rw [State.foldl_fileWaiting_of_full hfull] at ht
      subst ht
      have hnone : 16 - s.completions.length = 0 := by omega
      rw [hnone]
      exact ⟨rfl, by simp [State.recordsOf], by simp, fun _ _ => rfl⟩

theorem State.recordsOf_tags (h : ∀ k ∈ l, ∃ r, s.rack k = some r) : (s.recordsOf l).map (·.tag) = l.map s.tagOf := by
  induction l with
  | nil => rfl
  | cons a l ih =>
    obtain ⟨r, hr⟩ := h a List.mem_cons_self
    have hrest := ih fun k hk => h k (List.mem_cons_of_mem _ hk)
    simp only [State.recordsOf, List.filterMap_cons, hr, Option.map_some, List.map_cons, State.tagOf] at hrest ⊢
    rw [hrest]
    rfl

theorem State.recordsOf_length (h : ∀ k ∈ l, ∃ r, s.rack k = some r) : (s.recordsOf l).length = l.length := by
  have := congrArg List.length (State.recordsOf_tags h)
  simpa using this

/-- The racks that still wait are those past the places there were. -/
theorem State.awaiting_fillCompletions (hs : s.completions.length ≤ 16) :
    s.fillCompletions.awaiting = s.awaiting.drop (16 - s.completions.length) := by
  obtain ⟨-, -, hfree, hrest⟩ := State.foldl_fileWaiting s.awaiting_nodup
    (fun k hk => ⟨_, (State.mem_awaiting.mp hk).2.choose_spec.1⟩) hs rfl
  set taken := s.awaiting.take (16 - s.completions.length) with htaken
  have hfilter : s.fillCompletions.awaiting = s.awaiting.filter fun k => decide (k ∉ taken) := by
    rw [State.awaiting_eq, State.awaiting_eq s, List.filter_filter]
    refine List.filter_congr fun k _ => ?_
    by_cases hk : k ∈ taken
    · have hnone : s.fillCompletions.rack k = none := hfree k hk
      simp [hnone, hk]
    · have hsame : s.fillCompletions.rack k = s.rack k := hrest k hk
      simp [hsame, hk]
  have hsplit : s.awaiting = taken ++ s.awaiting.drop (16 - s.completions.length) := (List.take_append_drop _ _).symm
  have hdisjoint := List.disjoint_of_nodup_append (hsplit ▸ s.awaiting_nodup)
  rw [hfilter]
  conv_lhs => rw [hsplit]
  rw [List.filter_append, List.filter_eq_nil_iff.mpr (by simp), List.nil_append, List.filter_eq_self.mpr]
  intro k hk
  simpa using fun hin => hdisjoint hin hk

end

/-! ### A completion record (12.7) -/

/-- The record before its deviations. -/
def Completion.leadBytes (c : Completion) : List Byte :=
  b2 c.tag ++ (b1 c.recipe ++ (b1 c.scale ++ (b1 c.load ++ (b1 (bitsToNat [c.entered.isSome, c.unload.isSome]) ++
  (b4 c.admitted ++ (bSecond c.entered ++ (bSecond c.unload ++ (b4 c.removed ++ (b1 c.outcome.code ++ (b1 c.flags.bits ++
  b1 c.deviations.length))))))))))

@[simp] theorem Completion.leadBytes_length (c : Completion) : c.leadBytes.length = 25 := by simp [Completion.leadBytes]

theorem Completion.bytes_eq (c : Completion) : c.bytes = c.leadBytes ++ deviationBytes c.deviations := by
  unfold Completion.bytes Completion.leadBytes
  repeat rw [List.append_assoc]

theorem Completion.fields_of_leadBytes (c : Completion) (after : List Byte) {b : List Byte} (hb : b = c.leadBytes ++ after) :
    u16 b 0 = min c.tag 65535 ∧ u8 b 2 = min c.recipe 255 ∧ u8 b 3 = min c.scale 255 ∧ u8 b 4 = min c.load 255 ∧
    (u8 b 5).testBit 0 = c.entered.isSome ∧ (u8 b 5).testBit 1 = c.unload.isSome ∧
    u32 b 6 = min c.admitted 4294967295 ∧ u32 b 10 = min (c.entered.getD 0) 4294967295 ∧
    u32 b 14 = min (c.unload.getD 0) 4294967295 ∧ u32 b 18 = min c.removed 4294967295 ∧
    u8 b 22 = c.outcome.code ∧ u8 b 23 = c.flags.bits ∧ u8 b 24 = min c.deviations.length 255 := by
  have houtcome := c.outcome.code_le
  have hflags := c.flags.bits_le
  have hbits : u8 b 5 = bitsToNat [c.entered.isSome, c.unload.isSome] := by
    have hle : bitsToNat [c.entered.isSome, c.unload.isSome] ≤ 255 := bitsToNat_le (by simp)
    subst hb
    simp only [Completion.leadBytes, List.append_assoc]
    simp [hle]
  rw [hbits]
  simp only [testBit_bitsToNat]
  subst hb
  simp only [Completion.leadBytes, List.append_assoc]
  exact ⟨by simp, by simp, by simp, by simp, rfl, rfl, by simp, by simp, by simp, by simp, by simp [houtcome],
    by simp [hflags], by simp⟩

/-- The part with its two oldest records taken, and the waiting racks moved up. -/
def State.makeRoom (s : State) : State := { s with completions := s.completions.drop 2 }.fillCompletions

theorem readCompletionsOwner_eq (s : State) (p : List Byte) : readCompletionsOwner p s = (s.makeRoom,
    b1 0 ++ (b1 (min 2 s.completions.length) ++ ((s.completions.take 2).flatMap Completion.bytes ++
      (b1 s.makeRoom.completions.length ++ b1 s.makeRoom.awaiting.length)))) := by
  simp only [readCompletionsOwner, replyOk_eq, List.length_take, List.append_assoc]
  rfl

section
variable {s : State}

/-- What READ COMPLETIONS leaves of the queue and of the slots, `room` places having been made. -/
theorem State.makeRoom_spec {room : Nat} (hs : s.completions.length ≤ 16) (hroom : room = 16 - (s.completions.length - 2)) :
    s.makeRoom = { s with completions := s.makeRoom.completions, slots := s.makeRoom.slots } ∧
    s.makeRoom.completions = s.completions.drop 2 ++ s.recordsOf (s.awaiting.take room) ∧
    (∀ k ∈ s.awaiting.take room, s.makeRoom.rack k = none) ∧
    (∀ k, k ∉ s.awaiting.take room → s.makeRoom.rack k = s.rack k) ∧
    s.makeRoom.awaiting = s.awaiting.drop room := by
  have hlen : ({ s with completions := s.completions.drop 2 } : State).completions.length = s.completions.length - 2 :=
    List.length_drop
  have hheld : ∀ k ∈ ({ s with completions := s.completions.drop 2 } : State).awaiting, ∃ r,
      ({ s with completions := s.completions.drop 2 } : State).rack k = some r :=
    fun k hk => ⟨_, (State.mem_awaiting.mp hk).2.choose_spec.1⟩
  have hleft := State.awaiting_fillCompletions (s := { s with completions := s.completions.drop 2 }) (by omega)
  obtain ⟨hframe, hrecords, hfree, hrest⟩ := State.foldl_fileWaiting (State.awaiting_nodup _) hheld (by omega) rfl
  rw [hlen, ← hroom] at hrecords hfree hrest hleft
  exact ⟨hframe, hrecords, hfree, hrest, hleft⟩

/-- The records in the reply of READ COMPLETIONS. -/
theorem Completion.fields_of_bytes (c : Completion) :
    c.bytes.length = 25 + 5 * c.deviations.length ∧
    u16 c.bytes 0 = min c.tag 65535 ∧ u8 c.bytes 2 = min c.recipe 255 ∧ u8 c.bytes 3 = min c.scale 255 ∧
    u8 c.bytes 4 = min c.load 255 ∧
    (u8 c.bytes 5).testBit 0 = c.entered.isSome ∧ (u8 c.bytes 5).testBit 1 = c.unload.isSome ∧
    u32 c.bytes 6 = min c.admitted 4294967295 ∧ u32 c.bytes 10 = min (c.entered.getD 0) 4294967295 ∧
    u32 c.bytes 14 = min (c.unload.getD 0) 4294967295 ∧ u32 c.bytes 18 = min c.removed 4294967295 ∧
    u8 c.bytes 22 = c.outcome.code ∧ u8 c.bytes 23 = c.flags.bits ∧ u8 c.bytes 24 = min c.deviations.length 255 ∧
    ∀ (j : Nat) (d : Nat × Int), c.deviations[j]? = some d → u8 c.bytes (25 + 5 * j) = min d.1 255 ∧
      ((u32 c.bytes (26 + 5 * j) : Nat) : Int) = d.2 % 4294967296 := by
  have heq := c.bytes_eq
  generalize c.bytes = b at heq
  obtain ⟨h0, h2, h3, h4, h5, h5', h6, h10, h14, h18, h22, h23, h24⟩ := c.fields_of_leadBytes _ heq
  refine ⟨?_, h0, h2, h3, h4, h5, h5', h6, h10, h14, h18, h22, h23, h24, fun j d hd => deviation_of_bytes _ heq (by simp) hd⟩
  rw [heq]
  simp [deviationBytes_length]

end

/-- Settles O52. -/
theorem readCompletionsMakesRoom : Obligations.ReadCompletionsMakesRoom := by
  unfold Obligations.ReadCompletionsMakesRoom
  intro f inp s waiting hh hp hlen hwaiting
  have howner := readCompletionsOwner_eq (s.taken 0x1A#8 f inp) f.payload
  have hcompletions : (s.taken 0x1A#8 f inp).completions = s.completions := State.taken_completions ..
  have hrack (k : Nat) : (s.taken 0x1A#8 f inp).rack k = s.rack k := State.rack_congr (State.taken_slots ..) k
  have hawaiting : (s.taken 0x1A#8 f inp).awaiting = waiting := by
    rw [State.awaiting_eq, hwaiting]
    exact List.filter_congr fun k _ => by rw [hrack]
  obtain ⟨hframe, hqueue, hfree, hrest, hleft⟩ := State.makeRoom_spec (s := s.taken 0x1A#8 f inp)
    (room := 16 - (s.completions.length - 2)) (by rwa [hcompletions]) (by rw [hcompletions])
  have hheld : ∀ k ∈ waiting.take (16 - (s.completions.length - 2)), ∃ r, (s.taken 0x1A#8 f inp).rack k = some r := by
    intro k hk
    rw [← hawaiting] at hk
    exact ⟨_, (State.mem_awaiting.mp (List.mem_of_mem_take hk)).2.choose_spec.1⟩
  have hcount := State.recordsOf_length hheld
  have htags := State.recordsOf_tags hheld
  rw [hawaiting] at hqueue hfree hrest hleft
  rw [hcompletions] at hqueue howner
  rw [hleft] at howner
  obtain ⟨t, hexec, ht⟩ := exec_granted (c := .readCompletions f inp) rfl hh (by rw [hp]; rfl) howner (by rw [hframe])
  generalize hw : (s.taken 0x1A#8 f inp).makeRoom = w at *
  have hracks (k : Nat) : t.rack k = w.rack k := by rw [ht]; rfl
  have hsent : t.completions = w.completions := by rw [ht]
  have hlink := congrArg State.link ht
  refine ⟨t, _, hexec, ?_, ?_, hlink, ?_, ?_, ?_, fun k hk => ?_, fun k hk => ?_, ?_, ?_⟩
  · rfl
  · simp
  · rw [hsent, hqueue, List.length_append, hcount, List.length_drop, List.length_take]
    omega
  · rw [hsent, hqueue]
    exact List.prefix_append _ _
  · have hdrop : s.completions.length - 2 = (s.completions.drop 2).length := by rw [List.length_drop]
    rw [hsent, hqueue, hdrop, List.drop_left, ← hdrop, htags]
    exact List.map_congr_left fun k _ => by rw [State.tagOf, hrack, State.tagOf]
  · rw [hracks, hfree k hk]
  · rw [hracks, hrest k hk, hrack]
  · refine ⟨(s.completions.take 2).map Completion.bytes, by simp, ?_, fun i b c hb hc => ?_⟩
    · rw [List.length_map, List.length_take, ← List.flatMap_def, hsent]
      simp only [List.append_assoc]
      rfl
    · rw [List.getElem?_map, Option.map_eq_some_iff] at hb
      obtain ⟨c', hc', rfl⟩ := hb
      have hsame : c' = c := by
        rw [List.getElem?_take] at hc'
        split at hc'
        · exact Option.some.inj (hc'.symm.trans hc)
        · cases hc'
      subst hsame
      exact c'.fields_of_bytes
  · rw [ht]
    conv_lhs => rw [hframe]

end Sys2Proof.Machine
end

section
/-! PROOFS. READ SETTING (2.4), STORE, STORE_WRITE_END and RESTART (1.11, 9.7), CLEAR FLAGS (8.3). -/

namespace Sys2Proof.Machine

section
variable {s : State} {f : Frame} {inp : Inputs}

/-! ### READ SETTING (R30, R31) -/

theorem State.taken_setting {kind : Byte} (sel i : Nat) : (s.taken kind f inp).setting sel i = s.setting sel i := by
  rw [State.taken, State.accept_eq]; rfl

theorem State.setting_outside {sel i : Nat} (h : 8 ≤ sel) : s.setting sel i = none := by
  obtain ⟨m, rfl⟩ : ∃ m, sel = m + 8 := ⟨sel - 8, by omega⟩
  rfl

theorem exec_readSetting {sel i : Byte} (hh : s.hears 0x0B#8 f) (hp : f.payload = [sel, i]) :
    (∀ record, s.setting sel.toNat i.toNat = some record →
      ∃ t, exec (.readSetting f inp) s = .next t ∧ s.onlyAnswered t 0x0B#8 f inp (0#8 :: sel :: i :: record)) ∧
    (s.setting sel.toNat i.toNat = none →
      ∃ t, exec (.readSetting f inp) s = .next t ∧ s.onlyAnswered t 0x0B#8 f inp [3#8]) := by
  have hsel : u8 [sel, i] 0 = sel.toNat := rfl
  have hi : u8 [sel, i] 1 = i.toNat := rfl
  have hbyte (b : Byte) : b1 b.toNat = [b] := by
    have hlt := b.isLt
    rw [b1, min_eq_left (by omega), BitVec.ofNat_toNat, BitVec.setWidth_eq]
  refine ⟨fun record h => exec_refused (c := .readSetting f inp) rfl hh (by rw [hp]; rfl) ?_,
    fun h => exec_refused (c := .readSetting f inp) rfl hh (by rw [hp]; rfl) ?_⟩ <;> rw [hp] <;> show readSettingOwner _ _ = _
  · simp only [readSettingOwner, hsel, hi, State.taken_setting, h, hbyte]
    rfl
  · simp only [readSettingOwner, hsel, hi, State.taken_setting, h]
    rfl

theorem byte_ne_zero {i : Byte} (h : i ≠ 0#8) : i.toNat ≠ 0 := fun h' => h (BitVec.eq_of_toNat_eq h')

end

/-- Settles O39: the rows of the table of R30, and what lies outside them. -/
theorem readSettingReturnsTheRecord : Obligations.ReadSettingReturnsTheRecord := by
  unfold Obligations.ReadSettingReturnsTheRecord
  intro f inp s sel i hh hp record
  obtain ⟨hsome, hnone⟩ := exec_readSetting (inp := inp) hh hp
  refine ⟨fun h => hsome record ?_, fun h => hnone ?_⟩
  · rcases h with ⟨rfl, rfl, rfl⟩ | ⟨rfl, hlo, hhi, rfl⟩ | ⟨rfl, hhi, rfl⟩ | ⟨rfl, hhi, rfl⟩ | ⟨rfl, hhi, rfl⟩ | ⟨rfl, rfl, rfl⟩ |
      ⟨rfl, rfl, rfl⟩ | ⟨rfl, hlo, hhi, rfl⟩
    · rfl
    · exact if_pos (by simp [within, hlo, hhi])
    · exact if_pos hhi
    · exact if_pos hhi
    · exact if_pos hhi
    · rfl
    · rfl
    · exact if_pos (by simp [within, hlo, hhi])
  · rcases h with h | ⟨rfl | rfl | rfl, hi⟩ | ⟨rfl, hi⟩ | ⟨rfl | rfl, hi⟩ | ⟨rfl, hi⟩ | ⟨rfl, hi⟩
    · exact State.setting_outside h
    · exact if_neg (byte_ne_zero hi)
    · exact if_neg (byte_ne_zero hi)
    · exact if_neg (byte_ne_zero hi)
    · exact if_neg (by omega)
    · exact if_neg (by omega)
    · exact if_neg (by omega)
    · refine if_neg ?_
      rcases hi with rfl | hi <;> simp [within]
      omega
    · refine if_neg ?_
      rcases hi with rfl | hi <;> simp [within]
      omega

/-! ### STORE, RESTART and the end of a write (R18, R152) -/

section
variable {s : State} {f : Frame} {inp : Inputs}

theorem State.taken_storeBusy {kind : Byte} (h : s.storeWrite = none) : (s.taken kind f inp).storeBusy = false := by
  simp [State.storeBusy, h]

theorem storeOwner_granted (hb : s.storeBusy = false) (h : s.line.state = .dormant ∨ s.line.state = .standby ∨ s.line.state = .ready)
    (p : List Byte) : storeOwner p s = ({ s with storeWrite := some s.cfg }, [0#8]) := by
  simp only [storeOwner, hb, if_pos h]; rfl

theorem storeOwner_refused (hb : s.storeBusy = false)
    (h : ¬ (s.line.state = .dormant ∨ s.line.state = .standby ∨ s.line.state = .ready)) (p : List Byte) :
    storeOwner p s = (s, [4#8]) := by
  simp only [storeOwner, hb, if_neg h]; rfl

theorem restartOwner_granted (hb : s.storeBusy = false) (h : s.racks = []) (p : List Byte) :
    restartOwner p s = ({ s with link := { s.link with restartPending := true } }, [0#8]) := by
  have hnone : s.anyRack = false := by simp [State.anyRack, h]
  simp only [restartOwner, hb, hnone]; rfl

theorem restartOwner_refused (hb : s.storeBusy = false) (h : s.racks ≠ []) (p : List Byte) :
    restartOwner p s = (s, [4#8]) := by
  have hsome : s.anyRack = true := by simp [State.anyRack, h]
  simp only [restartOwner, hb, hsome]; rfl

/-- The end of a write: the image it leaves, and its event (R18). -/
theorem State.storeWriteEnd_eq {c : Settings} {good : Bool} (h : s.storeWrite = some c) : s.storeWriteEnd good = { s with
    storeWrite := none, nv := if good then .image c (crc16 c.bytes) else .damaged
    events := (s.storeWriteEnd good).events, lost := (s.storeWriteEnd good).lost } := by
  conv_lhs => rw [State.storeWriteEnd]
  simp only [h, State.storeWriteEnd]
  exact State.post_eq _ _ _ _ _ _

theorem State.storeWriteEnd_posted {c : Settings} {good : Bool} (h : s.storeWrite = some c) :
    s.posted (s.storeWriteEnd good) (if good then .storeDone else .storeFailed) 0 255 0 0 := by
  simp only [State.storeWriteEnd, h]
  exact State.posted_post rfl

end

/-- Settles O40. -/
theorem storeAndRestartAreTaken : Obligations.StoreAndRestartAreTaken := by
  unfold Obligations.StoreAndRestartAreTaken
  refine ⟨fun f inp s hfree hp => ⟨fun hh => ?_, fun hh => ?_⟩, fun good inp s c hrun hwrite => ?_⟩
  · split
    · next h =>
      obtain ⟨t, hexec, ht⟩ := exec_granted (c := .store f inp) rfl hh (by rw [hp]; rfl)
        (storeOwner_granted (State.taken_storeBusy hfree) (by simpa using h) f.payload) rfl
      rw [← State.taken_cfg s 0x0C#8 f inp]
      exact ⟨t, hexec, by rw [ht], ht⟩
    · next h =>
      exact exec_refused (c := .store f inp) rfl hh (by rw [hp]; rfl)
        (storeOwner_refused (State.taken_storeBusy hfree) (by simpa using h) f.payload)
  · split
    · next h =>
      exact exec_refused (c := .restart f inp) rfl hh (by rw [hp]; rfl)
        (restartOwner_refused (State.taken_storeBusy hfree) (by simpa using h) f.payload)
    · next h =>
      have howner := restartOwner_granted (s := s.taken 0x0D#8 f inp) (State.taken_storeBusy hfree) (by simpa using h) f.payload
      refine ⟨_, (exec_owner (c := .restart f inp) rfl hh (by rw [hp]; rfl)).trans (by
        rw [show (catalogue 0x0D#8).2 f.payload (s.taken 0x0D#8 f inp) = _ from howner]), ?_, ?_⟩
      · rw [State.drive_link]; rfl
      · conv_lhs => rw [State.drive_eq]
        simp [State.answer, State.replying, replyKind]
  · have heq := State.storeWriteEnd_eq (s := s.latch inp) (good := good) hwrite
    have hposted := State.storeWriteEnd_posted (s := s.latch inp) (good := good) hwrite
    refine ⟨_, exec_of_effect (c := .storeWriteEnd good inp) (f := fun t => t.storeWriteEnd good) hrun rfl rfl, ?_, ?_, ?_, ?_⟩
    · rw [State.drive_storeWrite, heq]
    · rintro rfl
      exact ⟨by rw [State.drive_nv, heq]; rfl, hposted.congr (State.drive_events _)⟩
    · rintro rfl
      exact ⟨by rw [State.drive_nv, heq]; rfl, hposted.congr (State.drive_events _)⟩
    · refine (State.drive_of_eq heq).trans ?_
      rw [State.drive_nv, State.drive_events, State.drive_lost]
      generalize (s.latch inp).storeWriteEnd good = w at heq ⊢
      rw [show w.nv = _ from congrArg State.nv heq]
      rfl

/-! ### CLEAR FLAGS (R135) -/

theorem FlagSet.get_inter (a b : FlagSet) (fl : Flag) : (a.inter b).get fl = (a.get fl && b.get fl) := by
  cases fl <;> rfl

section
variable {s : State} {n : Nat}

/-- A cradle fault is released (R116, R135). -/
theorem State.releaseCradle_pos (hc : s.cond n .cradleFault = true) (hd : (s.pin n).cradleDown = true) :
    s.releaseCradle n = (s.releaseFlag n .cradleFault).setCradle n { s.cradle n with state := .down } := by
  simp [State.releaseCradle, hc, hd]

theorem State.releaseCradle_neg (h : ¬ (s.cond n .cradleFault = true ∧ (s.pin n).cradleDown = true)) :
    s.releaseCradle n = s := by
  simp only [State.releaseCradle]
  rw [if_neg (by simpa using h)]

/-- CLEAR FLAGS at a bath changes the bath and the cradle of its station. -/
theorem State.clearFlags_eq (s : State) (n : Nat) : (s.releaseCradle n).clearLatches n = { s with
    baths := ((s.releaseCradle n).clearLatches n).baths, cradles := ((s.releaseCradle n).clearLatches n).cradles } := by
  simp only [State.clearLatches, State.releaseCradle]
  split <;> rfl

/-- The bath of the station: the conditions but a released cradle fault, and the latches whose condition is present. -/
theorem State.clearFlags_bath (h : 1 ≤ n) (hn : n ≤ s.baths.length) {fl : Flag} :
    (((s.releaseCradle n).clearLatches n).bath n).conds.get fl =
      (s.cond n fl && !(fl == .cradleFault && (s.pin n).cradleDown)) ∧
    (((s.releaseCradle n).clearLatches n).bath n).latches.get fl =
      ((s.bath n).latches.get fl && (((s.releaseCradle n).clearLatches n).bath n).conds.get fl) := by
  have hlen : n ≤ (s.releaseCradle n).baths.length := by
    simp only [State.releaseCradle]
    split
    · simpa [State.releaseFlag, State.setCradle] using hn
    · exact hn
  have hbath : ((s.releaseCradle n).clearLatches n).bath n = { (s.releaseCradle n).bath n with
      latches := ((s.releaseCradle n).bath n).latches.inter ((s.releaseCradle n).bath n).conds } :=
    State.bath_setBath_same _ _ h hlen
  rw [hbath]
  simp only [FlagSet.get_inter]
  by_cases hrel : s.cond n .cradleFault = true ∧ (s.pin n).cradleDown = true
  · have hreleased : (s.releaseCradle n).bath n = { s.bath n with conds := (s.bath n).conds.set .cradleFault false } := by
      rw [State.releaseCradle_pos hrel.1 hrel.2]
      exact s.bath_releaseFlag_same h hn .cradleFault
    rw [hreleased]
    refine ⟨?_, rfl⟩
    by_cases hfl : fl = .cradleFault
    · subst hfl
      simp [hrel.2]
    · simp [FlagSet.get_set_other _ _ hfl, State.cond, hfl]
  · rw [State.releaseCradle_neg hrel]
    refine ⟨?_, rfl⟩
    by_cases hfl : fl = .cradleFault
    · subst hfl
      cases hc : s.cond n .cradleFault
      · simpa [State.cond] using hc
      · have hdown : (s.pin n).cradleDown = false := by simpa [hc] using hrel
        simpa [State.cond, hdown] using hc
    · simp [State.cond, hfl]

theorem State.clearFlags_cradle (h : 1 ≤ n) (hn : n ≤ s.cradles.length) :
    ((s.releaseCradle n).clearLatches n).cradle n =
      if s.cond n .cradleFault = true ∧ (s.pin n).cradleDown = true then { s.cradle n with state := .down } else s.cradle n := by
  have hsame : ((s.releaseCradle n).clearLatches n).cradle n = (s.releaseCradle n).cradle n := rfl
  rw [hsame]
  split
  · next hrel =>
    rw [State.releaseCradle_pos hrel.1 hrel.2]
    exact State.cradle_setCradle_same _ _ h hn
  · next hrel => rw [State.releaseCradle_neg hrel]

theorem State.clearFlags_other {m : Nat} (hm : m ≠ n) :
    ((s.releaseCradle n).clearLatches n).bath m = s.bath m ∧ ((s.releaseCradle n).clearLatches n).cradle m = s.cradle m := by
  have hbath : ((s.releaseCradle n).clearLatches n).bath m = (s.releaseCradle n).bath m := State.bath_setBath_other _ _ hm
  have hcradle : ((s.releaseCradle n).clearLatches n).cradle m = (s.releaseCradle n).cradle m := rfl
  rw [hbath, hcradle]
  by_cases hrel : s.cond n .cradleFault = true ∧ (s.pin n).cradleDown = true
  · rw [State.releaseCradle_pos hrel.1 hrel.2]
    exact ⟨State.bath_setBath_other _ _ hm, State.cradle_setCradle_other _ _ hm⟩
  · rw [State.releaseCradle_neg hrel]
    exact ⟨rfl, rfl⟩

end

/-- The part with PUMP_FAULT cleared. -/
def State.clearPumpFault (s : State) : State := { s with line := { s.line with pumpFault := false } }

theorem clearFlagsOwner_line {s : State} : clearFlagsOwner [0#8] s =
    (s.clearPumpFault, 0#8 :: 0#8 :: b2 s.clearPumpFault.lineFlagBits ++ [0#8, 0#8]) := rfl

/-- Settles O46. -/
theorem clearFlagsClearsTheLatches : Obligations.ClearFlagsClearsTheLatches := by
  unfold Obligations.ClearFlagsClearsTheLatches
  intro f inp s n hh hp hbaths hcradles
  have hu : u8 [n] 0 = n.toNat := rfl
  refine ⟨?_, fun hb hn => ?_, fun hn hb => ?_⟩
  · rintro rfl
    obtain ⟨t, hexec, ht⟩ := exec_granted (c := .clearFlags f inp)
      (u := (s.taken 0x13#8 f inp).clearPumpFault) rfl hh (by rw [hp]; rfl) (by rw [hp]; exact clearFlagsOwner_line) rfl
    rw [← State.taken_line (s := s) (kind := 0x13#8) (f := f) (inp := inp)]
    have hflags : t.lineFlagBits = (s.taken 0x13#8 f inp).clearPumpFault.lineFlagBits := by rw [ht]; rfl
    exact ⟨t, hexec, by rw [hflags]; exact ht⟩
  · have hlo := State.one_le_of_isBath hb
    have hne : n.toNat ≠ 0 := by omega
    have hbyte : b1 n.toNat = [n] := by
      have hlt := n.isLt
      rw [b1, min_eq_left (by omega), BitVec.ofNat_toNat, BitVec.setWidth_eq]
    set u := s.taken 0x13#8 f inp with hu'
    set w := (u.releaseCradle n.toNat).clearLatches n.toNat with hw
    have howner : (catalogue 0x13#8).2 f.payload u =
        (w, 0#8 :: n :: b2 (w.bath n.toNat).latches.bits ++ b2 (w.bath n.toNat).conds.bits) := by
      rw [hp]
      show clearFlagsOwner _ _ = _
      have hub : u.isBath n.toNat = true := by rw [hu', State.taken_isBath, hb]
      simp only [clearFlagsOwner, hu, if_neg hne, hub, if_true, replyOk_eq, hbyte]
      rfl
    have hframe := u.clearFlags_eq n.toNat
    rw [← hw] at hframe
    obtain ⟨t, hexec, ht⟩ := exec_granted (c := .clearFlags f inp) rfl hh (by rw [hp]; rfl) howner (by rw [hframe])
    have hbath (m : Nat) : t.bath m = w.bath m := by rw [ht]; rfl
    have hcradle (m : Nat) : t.cradle m = w.cradle m := by rw [ht]; rfl
    have hpin : t.pin n.toNat = u.pin n.toNat := by rw [ht, hframe]; rfl
    have hlen : n.toNat ≤ u.baths.length := by rw [hu', State.taken_baths]; omega
    have hcond (fl : Flag) : t.cond n.toNat fl = (s.cond n.toNat fl && !(fl == .cradleFault && (t.pin n.toNat).cradleDown)) := by
      rw [State.cond, hbath, hpin, (State.clearFlags_bath hlo hlen).1, hu', State.cond, State.taken_bath, State.cond]
    have hcradles' : u.cradles = s.cradles := by rw [hu', State.taken, State.accept_eq]; rfl
    have hsame (m : Nat) : u.cradle m = s.cradle m := by rw [State.cradle, hcradles', State.cradle]
    refine ⟨t, hexec, hcond, fun fl => ?_, ?_, fun m hm => ?_, ?_⟩
    · rw [hbath, (State.clearFlags_bath hlo hlen).2, hu', State.taken_bath, State.cond, hbath]
    · rw [hcradle, State.clearFlags_cradle hlo (by rw [hcradles']; omega), hpin, hsame]
      rw [hu', State.cond, State.taken_bath, ← State.cond]
    · rw [hbath, hcradle, (State.clearFlags_other hm).1, (State.clearFlags_other hm).2, hsame, hu', State.taken_bath]
      exact ⟨rfl, rfl⟩
    · rw [hbath]
      refine ht.trans ?_
      rw [show t.baths = w.baths by rw [ht], show t.cradles = w.cradles by rw [ht]]
      exact congrArg (fun x : State => { x with
        link := s.replying 0x13#8 f inp (0#8 :: n :: b2 (w.bath n.toNat).latches.bits ++ b2 (w.bath n.toNat).conds.bits)
        out := t.out }) hframe
  · have hne : n.toNat ≠ 0 := byte_ne_zero hn
    refine exec_refused (c := .clearFlags f inp) rfl hh (by rw [hp]; rfl) ?_
    rw [hp]
    show clearFlagsOwner _ _ = _
    simp only [clearFlagsOwner, hu, if_neg hne, State.taken_isBath, hb]
    rfl

end Sys2Proof.Machine
end

section
/-! PROOFS. SET LINE (1.5): the record read back from its bytes, the stations above the count, and the request. -/

namespace Sys2Proof.Machine

/-! ### A station's place in a table, wherever the table ends -/

/-- A place written reads what was written, or, past the end of its table, the default. -/
theorem atStation_setStation_of {α : Type} {P : α → Prop} {l : List α} {d v : α} {n : Nat} (hv : P v) (hd : P d) :
    P (atStation (setStation l n v) d n) := by
  cases n with
  | zero => exact hd
  | succ k =>
    simp only [atStation, setStation, List.getD_eq_getElem?_getD]
    by_cases hk : k < l.length
    · simpa [hk] using hv
    · simpa [List.getElem?_eq_none (Nat.not_lt.mp hk), Nat.not_lt.mp hk] using hd

/-- A place past the end of its table reads the default. -/
theorem atStation_of_le {α : Type} {l : List α} {d : α} {n : Nat} (h : l.length < n) : atStation l d n = d := by
  obtain ⟨k, rfl⟩ : ∃ k, n = k + 1 := ⟨n - 1, by omega⟩
  simp only [atStation, List.getD_eq_getElem?_getD]
  rw [List.getElem?_eq_none (by omega)]
  rfl

/-! ### A station above the count (R9, R11) -/

section
variable {s t u : State} {n m : Nat}

/-- What SET LINE leaves of the stations of `l`, which it retires (R9, R11). -/
structure State.Retired (s t : State) (l : List Nat) : Prop where
  frame : t = { s with
    cfg := { s.cfg with stations := t.cfg.stations, closures := t.cfg.closures }, baths := t.baths, cradles := t.cradles
    deliveries := t.deliveries, pump := t.pump, manifold := { s.manifold with valves := t.manifold.valves } }
  others : ∀ m, m ∉ l → t.stationCfg m = s.stationCfg m ∧ t.hostClosed m = s.hostClosed m ∧ t.bath m = s.bath m ∧
    t.cradle m = s.cradle m ∧ t.valve m = s.valve m
  unused : ∀ n ∈ l, (t.stationCfg n).role = .unused ∧ (t.stationCfg n).group = 0 ∧ t.hostClosed n = false
  emptied : ∀ n ∈ l, s.isBath n = true →
    t.bath n = { presence := (s.bath n).presence } ∧ (t.cradle n).state = .none ∧ t.valve n = false
  deliveries : t.deliveries = s.deliveries.filter fun d => !(l.contains d.station && s.isBath d.station)
  pump : t.pump = s.pump.filter fun p => !(l.contains p.station && s.isBath p.station)

theorem State.leaveBath_eq (s : State) (n : Nat) : s.leaveBath n = { s with
    baths := setStation s.baths n { presence := (s.bath n).presence }
    cradles := setStation s.cradles n ⟨.none, 0, 0⟩
    manifold := { s.manifold with valves := setStation s.manifold.valves n false }
    deliveries := s.deliveries.filter fun d => d.station != n
    pump := s.pump.filter fun p => p.station != n } := by
  have hpump : (match s.pump with | some p => if p.station = n then none else some p | none => none) =
      s.pump.filter fun p => p.station != n := by
    cases s.pump with
    | none => rfl
    | some p => by_cases h : p.station = n <;> simp [Option.filter, h]
  rw [← hpump]
  rfl

theorem State.bath_leaveBath (s : State) (n : Nat) : (s.leaveBath n).bath n = { presence := (s.bath n).presence } := by
  rw [State.leaveBath_eq]
  by_cases h : n ≤ s.baths.length
  · cases n with
    | zero => rfl
    | succ k => exact atStation_setStation_same _ _ _ (by omega) h
  · have hdefault : s.bath n = {} := atStation_of_le (Nat.not_le.mp h)
    rw [hdefault]
    exact atStation_of_le (by rw [setStation_length]; exact Nat.not_le.mp h)

theorem State.leaveBath_emptied (s : State) (n : Nat) : ((s.leaveBath n).cradle n).state = .none ∧ (s.leaveBath n).valve n = false := by
  rw [State.leaveBath_eq]
  exact ⟨atStation_setStation_of (P := fun c : Cradle => c.state = .none) rfl rfl,
    atStation_setStation_of (P := fun b => b = false) rfl rfl⟩

theorem State.leaveBath_other (hm : m ≠ n) : (s.leaveBath n).bath m = s.bath m ∧ (s.leaveBath n).cradle m = s.cradle m ∧
    (s.leaveBath n).valve m = s.valve m := by
  rw [State.leaveBath_eq]
  exact ⟨atStation_setStation_other _ _ _ hm, atStation_setStation_other _ _ _ hm, atStation_setStation_other _ _ _ hm⟩

/-- A station is UNUSED, with no closure. -/
def State.unuse (s : State) (n : Nat) : State :=
  (s.setClosure n false).setStationCfg n { s.stationCfg n with role := .unused, group := 0 }

theorem State.retireStation_eq (s : State) (n : Nat) :
    s.retireStation n = (if s.isBath n then s.leaveBath n else s).unuse n := rfl

theorem State.unuse_stationCfg (s : State) (n : Nat) :
    ((s.unuse n).stationCfg n).role = .unused ∧ ((s.unuse n).stationCfg n).group = 0 ∧ (s.unuse n).hostClosed n = false :=
  ⟨atStation_setStation_of (P := fun c : StationCfg => c.role = .unused) rfl rfl,
    atStation_setStation_of (P := fun c : StationCfg => c.group = 0) rfl rfl,
    atStation_setStation_of (P := fun b => b = false) rfl rfl⟩

theorem State.unuse_other (hm : m ≠ n) :
    (s.unuse n).stationCfg m = s.stationCfg m ∧ (s.unuse n).hostClosed m = s.hostClosed m :=
  ⟨atStation_setStation_other _ _ _ hm, atStation_setStation_other _ _ _ hm⟩

theorem State.Retired.refl (s : State) : s.Retired s [] where
  frame := rfl
  others _ _ := ⟨rfl, rfl, rfl, rfl, rfl⟩
  unused _ h := absurd h List.not_mem_nil
  emptied _ h := absurd h List.not_mem_nil
  deliveries := by simp
  pump := by cases s.pump <;> simp [Option.filter]

/-- Retiring one station. -/
theorem State.retired_one (s : State) (n : Nat) : s.Retired (s.retireStation n) [n] := by
  rw [State.retireStation_eq]
  cases h : s.isBath n with
  | true =>
    rw [if_pos rfl]
    have hother {m : Nat} (hm : m ∉ [n]) : m ≠ n := by simpa using hm
    refine ⟨?_, fun m hm => ?_, fun m hm => ?_, fun m hm _ => ?_, ?_, ?_⟩
    · rw [State.leaveBath_eq]; rfl
    · obtain ⟨hcfg, hclosed⟩ := State.unuse_other (s := s.leaveBath n) (hother hm)
      obtain ⟨hbath, hcradle, hvalve⟩ := State.leaveBath_other (s := s) (hother hm)
      have hcfg' : (s.leaveBath n).cfg = s.cfg := by rw [State.leaveBath_eq]
      refine ⟨hcfg.trans ?_, hclosed.trans ?_, hbath, hcradle, hvalve⟩
      · rw [State.stationCfg, hcfg', State.stationCfg]
      · rw [State.hostClosed, hcfg', State.hostClosed]
    · rw [List.mem_singleton.mp hm]
      exact State.unuse_stationCfg _ _
    · rw [List.mem_singleton.mp hm]
      exact ⟨s.bath_leaveBath n, (s.leaveBath_emptied n).1, (s.leaveBath_emptied n).2⟩
    · have hd : ((s.leaveBath n).unuse n).deliveries = s.deliveries.filter fun d => d.station != n := by
        rw [State.leaveBath_eq]; rfl
      rw [hd]
      refine List.filter_congr fun d _ => ?_
      by_cases hd : d.station = n <;> simp [hd, h]
    · have hp : ((s.leaveBath n).unuse n).pump = s.pump.filter fun p => p.station != n := by
        rw [State.leaveBath_eq]; rfl
      rw [hp]
      refine congrArg (fun f => s.pump.filter f) (funext fun p => ?_)
      by_cases hd : p.station = n <;> simp [hd, h]
  | false =>
    rw [if_neg nofun]
    refine ⟨rfl, fun m hm => ?_, fun m hm => ?_, fun m hm hb => ?_, ?_, ?_⟩
    · obtain ⟨hcfg, hclosed⟩ := State.unuse_other (s := s) (n := n) (m := m) (by simpa using hm)
      exact ⟨hcfg, hclosed, rfl, rfl, rfl⟩
    · rw [List.mem_singleton.mp hm]
      exact State.unuse_stationCfg _ _
    · rw [List.mem_singleton.mp hm, h] at hb
      cases hb
    · refine (List.filter_eq_self.mpr fun d _ => ?_).symm
      by_cases hd : d.station = n <;> simp [hd, h]
    · cases hpump : s.pump with
      | none => exact hpump
      | some p =>
        refine hpump.trans ?_
        by_cases hd : p.station = n <;> simp [Option.filter, hd, h]

theorem State.Retired.isBath {l : List Nat} (h : s.Retired t l) (hm : m ∉ l) : t.isBath m = s.isBath m := by
  have hcount : t.cfg.line = s.cfg.line := by rw [h.frame]
  have hconf : t.configured m = s.configured m := by rw [State.configured, hcount, State.configured]
  rw [State.isBath, State.role, hconf, (h.others m hm).1, State.isBath, State.role]

/-- A station keeps its deliveries through one retirement and those that follow. -/
theorem State.Retired.keeps {l : List Nat} (h : s.Retired u [n]) (hn : n ∉ l) (d : Nat) :
    (!([n].contains d && s.isBath d) && !(l.contains d && u.isBath d)) = !((n :: l).contains d && s.isBath d) := by
  by_cases hd : d = n
  · subst hd
    simp [hn]
  · rw [h.isBath (m := d) (by simpa using hd)]
    simp [hd]

theorem State.Retired.cons {l : List Nat} (h : s.Retired u [n]) (h' : u.Retired t l) (hn : n ∉ l) : s.Retired t (n :: l) := by
  have hne {m : Nat} (hm : m ∈ l) : m ∉ [n] := by
    rw [List.mem_singleton]
    exact fun h => hn (h ▸ hm)
  refine ⟨?_, fun m hm => ?_, fun m hm => ?_, fun m hm hb => ?_, ?_, ?_⟩
  · conv_lhs => rw [h'.frame]
    rw [h.frame]
  · rw [List.mem_cons, not_or] at hm
    obtain ⟨hcfg, hclosed, hbath, hcradle, hvalve⟩ := h.others m (by simpa using hm.1)
    obtain ⟨hcfg', hclosed', hbath', hcradle', hvalve'⟩ := h'.others m hm.2
    exact ⟨hcfg'.trans hcfg, hclosed'.trans hclosed, hbath'.trans hbath, hcradle'.trans hcradle, hvalve'.trans hvalve⟩
  · rcases List.mem_cons.mp hm with rfl | hm
    · obtain ⟨hcfg, hclosed, -⟩ := h'.others m hn
      rw [hcfg, hclosed]
      exact h.unused m (List.mem_singleton.mpr rfl)
    · exact h'.unused m hm
  · rcases List.mem_cons.mp hm with rfl | hm
    · obtain ⟨-, -, hbath, hcradle, hvalve⟩ := h'.others m hn
      rw [hbath, hcradle, hvalve]
      exact h.emptied m (List.mem_singleton.mpr rfl) hb
    · obtain ⟨-, -, hbath, hcradle, hvalve⟩ := h.others m (hne hm)
      rw [← hbath]
      exact h'.emptied m hm ((h.isBath (hne hm)).trans hb)
  · rw [h'.deliveries, h.deliveries, List.filter_filter]
    exact List.filter_congr fun d _ => by rw [← h.keeps hn, Bool.and_comm]
  · rw [h'.pump, h.pump, Option.filter_filter]
    refine congrArg (fun f => s.pump.filter f) (funext fun p => ?_)
    rw [← h.keeps hn, Bool.and_comm]

theorem State.retired_foldl {l : List Nat} (hl : l.Nodup) : s.Retired (l.foldl State.retireStation s) l := by
  induction l generalizing s with
  | nil => exact .refl s
  | cons n l ih =>
    obtain ⟨hn, hnodup⟩ := List.nodup_cons.mp hl
    exact (s.retired_one n).cons (ih hnodup) hn

end

/-! ### The LINE record (12.11) -/

theorem b2_fields (n : Nat) : u8 (b2 n) 0 = min n 65535 / 256 ∧ u8 (b2 n) 1 = min n 65535 % 256 := by
  have h0 : u8 (b2 n) 0 = min n 65535 / 256 % 256 := rfl
  have h1 : u8 (b2 n) 1 = min n 65535 % 256 := rfl
  omega

/-- The LINE record's fields lie within what their bytes hold. -/
def LineCfg.fits (c : LineCfg) : Prop :=
  c.count ≤ 255 ∧ c.tl ≤ 255 ∧ c.tw ≤ 255 ∧ c.tp ≤ 255 ∧ c.guard ≤ 255 ∧ c.window ≤ 65535 ∧ c.hold ≤ 65535 ∧
  c.margin ≤ 255 ∧ c.cradleTime ≤ 255 ∧ c.settle ≤ 65535 ∧ c.warmTimeout ≤ 65535 ∧ c.linkTimeout ≤ 255 ∧
  c.threshold ≤ 65535 ∧ c.override ≤ 255 ∧ c.pumpFlow ≤ 65535

theorem LostAction.ofCode_code (a : LostAction) : LostAction.ofCode (min a.code 255) = some a := by cases a <;> rfl
theorem Baud.ofCode_code (b : Baud) : Baud.ofCode (min b.code 255) = some b := by cases b <;> rfl

/-- The first nine fields, eleven bytes. -/
def LineCfg.moveBytes (c : LineCfg) : List Byte :=
  b1 c.count ++ (b1 c.tl ++ (b1 c.tw ++ (b1 c.tp ++ (b1 c.guard ++ (b2 c.window ++ (b2 c.hold ++ (b1 c.margin ++
  b1 c.cradleTime)))))))

/-- The other fields. -/
def LineCfg.linkBytes (c : LineCfg) : List Byte :=
  b2 c.settle ++ (b2 c.warmTimeout ++ (b1 c.lostAction.code ++ (b1 c.linkTimeout ++ (b2 c.threshold ++
  (b1 c.baud.code ++ (b1 c.override ++ b2 c.pumpFlow))))))

theorem LineCfg.bytes_eq (c : LineCfg) : c.bytes = c.moveBytes ++ c.linkBytes := by
  rw [LineCfg.bytes, LineCfg.moveBytes, LineCfg.linkBytes]
  simp only [List.append_assoc]

theorem LineCfg.fields_of_moveBytes (c : LineCfg) (after : List Byte) {p : List Byte} (hp : p = c.moveBytes ++ after) :
    u8 p 0 = min c.count 255 ∧ u8 p 1 = min c.tl 255 ∧ u8 p 2 = min c.tw 255 ∧ u8 p 3 = min c.tp 255 ∧
    u8 p 4 = min c.guard 255 ∧ u16 p 5 = min c.window 65535 ∧ u16 p 7 = min c.hold 65535 ∧ u8 p 9 = min c.margin 255 ∧
    u8 p 10 = min c.cradleTime 255 := by
  subst hp
  simp only [LineCfg.moveBytes, List.append_assoc]
  exact ⟨by simp, by simp, by simp, by simp, by simp, by simp, by simp, by simp, by simp⟩

theorem LineCfg.fields_of_linkBytes (c : LineCfg) (before : List Byte) {p : List Byte} (hp : p = before ++ c.linkBytes)
    (hb : before.length = 11) :
    u16 p 11 = min c.settle 65535 ∧ u16 p 13 = min c.warmTimeout 65535 ∧ u8 p 15 = min c.lostAction.code 255 ∧
    u8 p 16 = min c.linkTimeout 255 ∧ u16 p 17 = min c.threshold 65535 ∧ u8 p 19 = min c.baud.code 255 ∧
    u8 p 20 = min c.override 255 ∧ u16 p 21 = min c.pumpFlow 65535 := by
  subst hp
  simp only [LineCfg.linkBytes]
  exact ⟨by simp [hb], by simp [hb], by simp [hb], by simp [hb], by simp [hb], by simp [hb], by simp [hb], by simp [hb]⟩

theorem LineCfg.fixedLength_bytes {c : LineCfg} {p : List Byte} (hp : p = c.bytes) : fixedLength 23 p = true := by
  rw [hp, LineCfg.bytes_eq]
  simp [fixedLength, LineCfg.moveBytes, LineCfg.linkBytes]

/-- A LINE record is read back from its bytes. -/
theorem LineCfg.parse_bytes {c : LineCfg} (hc : c.fits) : LineCfg.parse c.bytes = some c := by
  obtain ⟨h0, h1, h2, h3, h4, h5, h7, h9, h10⟩ := c.fields_of_moveBytes _ c.bytes_eq
  obtain ⟨h11, h13, h15, h16, h17, h19, h20, h21⟩ := c.fields_of_linkBytes _ c.bytes_eq (by simp [LineCfg.moveBytes])
  obtain ⟨hcount, htl, htw, htp, hguard, hwindow, hhold, hmargin, hcradle, hsettle, hwarm, hlink, hthreshold, hoverride, hflow⟩ := hc
  simp only [LineCfg.parse, h0, h1, h2, h3, h4, h5, h7, h9, h10, h11, h13, h15, h16, h17, h19, h20, h21,
    LostAction.ofCode_code, Baud.ofCode_code]
  simp [hcount, htl, htw, htp, hguard, hwindow, hhold, hmargin, hcradle, hsettle, hwarm, hlink, hthreshold, hoverride, hflow]

theorem LineCfg.parse_unlisted {p : List Byte} (h : 2 ≤ u8 p 15 ∨ 3 ≤ u8 p 19) : LineCfg.parse p = none := by
  have hnone : LostAction.ofCode (u8 p 15) = none ∨ Baud.ofCode (u8 p 19) = none := by
    rcases h with h | h
    · left
      obtain ⟨m, hm⟩ : ∃ m, u8 p 15 = m + 2 := ⟨u8 p 15 - 2, by omega⟩
      rw [hm]; rfl
    · right
      obtain ⟨m, hm⟩ : ∃ m, u8 p 19 = m + 3 := ⟨u8 p 19 - 3, by omega⟩
      rw [hm]; rfl
  unfold LineCfg.parse
  rcases hnone with h | h <;> rw [h]
  cases LostAction.ofCode (u8 p 15) <;> rfl

/-! ### The request (R8, R9) -/

section
variable {s : State} {f : Frame} {inp : Inputs} {p : List Byte} {c : LineCfg}

theorem State.taken_atRest {kind : Byte} : (s.taken kind f inp).atRest = s.atRest := by
  rw [State.taken, State.accept_eq]; rfl

@[simp] theorem State.taken_pins {kind : Byte} : (s.taken kind f inp).pins = inp := by
  rw [State.taken, State.accept_eq]; rfl

theorem setLineOwner_busy_free (hb : s.storeBusy = false) (hl : s.pins.lock = false) :
    setLineOwner p s = if !s.atRest then refuse .wrongState s else
      match LineCfg.parse p with
      | some c => if c.inRange then (s.applyLine c, resultByte .ok) else refuse .badValue s
      | none => refuse .badValue s := by
  simp only [setLineOwner, hb, hl]
  rfl

theorem setLineOwner_wrongState (hb : s.storeBusy = false) (hl : s.pins.lock = false) (h : s.atRest = false) :
    setLineOwner p s = (s, [4#8]) := by
  rw [setLineOwner_busy_free hb hl, h]
  rfl

theorem setLineOwner_badValue (hb : s.storeBusy = false) (hl : s.pins.lock = false) (h : s.atRest = true)
    (hp : LineCfg.parse p = none ∨ ∃ c, LineCfg.parse p = some c ∧ c.inRange = false) : setLineOwner p s = (s, [3#8]) := by
  rw [setLineOwner_busy_free hb hl, h]
  rcases hp with hp | ⟨c, hp, hc⟩
  · rw [hp]; rfl
  · rw [hp]
    simp only [hc]
    rfl

theorem setLineOwner_granted (hb : s.storeBusy = false) (hl : s.pins.lock = false) (h : s.atRest = true)
    (hp : LineCfg.parse p = some c) (hc : c.inRange = true) : setLineOwner p s = (s.applyLine c, [0#8]) := by
  rw [setLineOwner_busy_free hb hl, h, hp]
  simp only [hc]
  rfl

/-- The stations SET LINE retires. -/
def LineCfg.above (c : LineCfg) : List Nat := allStations.filter fun n => decide (c.count < n)

theorem LineCfg.mem_above {n : Nat} : n ∈ c.above ↔ 1 ≤ n ∧ n ≤ 16 ∧ c.count < n := by
  simp [LineCfg.above, mem_allStations, and_assoc]

theorem LineCfg.above_nodup (c : LineCfg) : c.above.Nodup :=
  (List.Pairwise.imp (fun h => Nat.ne_of_lt h) allStations_sorted).filter _

/-- SET LINE's new record after the stations above its count have gone, with the watchdog restarted. -/
theorem State.applyLine_eq (s : State) (c : LineCfg) :
    s.applyLine c = { c.above.foldl State.retireStation s with
      cfg := { (c.above.foldl State.retireStation s).cfg with line := c }
      link := { (c.above.foldl State.retireStation s).link with
        watchdog := .start c.linkTimeout (c.above.foldl State.retireStation s).clock } } := rfl

/-- A request that is heard leads to its owner's state with the reply. -/
theorem exec_answered {c : Instr} {kind : Byte} {lengthOk : List Byte → Bool} {u : State} {payload : List Byte}
    (hreq : requestOf c = some (kind, lengthOk, f, inp)) (hh : s.hears kind f) (hlen : lengthOk f.payload = true)
    (ho : (catalogue kind).2 f.payload (s.taken kind f inp) = (u, payload)) :
    ∃ t, exec c s = .next t ∧ t = { u with
      link := { u.link with
        reply := some { addr := BitVec.ofNat 8 u.link.addr, tag := f.tag, kind := kind + 0x80#8, payload := payload } }
      out := t.out } :=
  ⟨_, (exec_owner hreq hh hlen).trans (by rw [ho]), State.drive_eq _⟩

/-- A SET LINE that is taken. -/
theorem exec_setLine (hh : s.hears 0x03#8 f) (hp : f.payload = c.bytes) (hfree : s.storeWrite = none)
    (hlock : inp.lock = false) (hrest : s.atRest = true) (hfits : c.fits) (hc : c.inRange = true) :
    ∃ t, exec (.setLine f inp) s = .next t ∧ t = { (s.taken 0x03#8 f inp).applyLine c with
      link := { (s.replying 0x03#8 f inp [0#8]) with watchdog := Watchdog.start c.linkTimeout s.clock }, out := t.out } := by
  have howner : (catalogue 0x03#8).2 f.payload (s.taken 0x03#8 f inp) = ((s.taken 0x03#8 f inp).applyLine c, [0#8]) := by
    rw [hp]
    show setLineOwner c.bytes (s.taken 0x03#8 f inp) = _
    exact setLineOwner_granted (State.taken_storeBusy hfree) (by rwa [State.taken_pins]) (by rwa [State.taken_atRest])
      (LineCfg.parse_bytes hfits) hc
  have hframe := (State.retired_foldl (s := s.taken 0x03#8 f inp) c.above_nodup).frame
  have hlink : ((s.taken 0x03#8 f inp).applyLine c).link =
      { (s.taken 0x03#8 f inp).link with watchdog := Watchdog.start c.linkTimeout s.clock } := by
    rw [State.applyLine_eq, hframe, ← State.taken_clock (s := s) (kind := 0x03#8) (f := f) (inp := inp)]
  obtain ⟨t, hexec, ht⟩ := exec_answered (c := .setLine f inp) rfl hh (LineCfg.fixedLength_bytes hp) howner
  refine ⟨t, hexec, ht.trans ?_⟩
  rw [hlink, State.taken_link_addr]
  rfl

end

/-- Settles O31. -/
theorem setLineReplacesTheRecord : Obligations.SetLineReplacesTheRecord := by
  unfold Obligations.SetLineReplacesTheRecord
  refine ⟨fun f inp s hh hp hfree hlock hl hr hbad => ?_, fun f inp s c hh hp hfree hlock hcount htl htw htp hguard hwindow hhold
    hmargin hcradle hsettle hwarm hlink hthreshold hoverride hflow => ?_⟩
  · have hrest : (s.taken 0x03#8 f inp).atRest = true := by rw [State.taken_atRest, State.atRest_iff]; exact ⟨hl, hr⟩
    exact exec_refused (c := .setLine f inp) rfl hh (by simp [fixedLength, hp])
      (setLineOwner_badValue (State.taken_storeBusy hfree) (by rwa [State.taken_pins]) hrest (.inl (LineCfg.parse_unlisted hbad)))
  have hfits : c.fits := ⟨hcount, htl, htw, htp, hguard, hwindow, hhold, hmargin, hcradle, hsettle, hwarm, hlink, hthreshold,
    hoverride, hflow⟩
  have hlen := LineCfg.fixedLength_bytes hp
  have hrange : c.inRange = true ↔ (2 ≤ c.count ∧ c.count ≤ 16 ∧ 1 ≤ c.tl ∧ c.tl ≤ 30 ∧ 1 ≤ c.tw ∧ c.tw ≤ 30 ∧ 5 ≤ c.tp ∧
      c.tp ≤ 100 ∧ c.guard ≤ 30 ∧ c.window ≤ 900 ∧ 30 ≤ c.hold ∧ c.hold ≤ 1800 ∧ 1 ≤ c.margin ∧ c.margin ≤ 20 ∧
      1 ≤ c.cradleTime ∧ c.cradleTime ≤ 10 ∧ 10 ≤ c.settle ∧ c.settle ≤ 600 ∧ 60 ≤ c.warmTimeout ∧
      c.warmTimeout ≤ 7200 ∧ 1 ≤ c.threshold ∧ c.override ≤ 30 ∧ 50 ≤ c.pumpFlow ∧ c.pumpFlow ≤ 2000) := by
    simp [LineCfg.inRange, within, hlink, hthreshold, and_assoc]
  refine ⟨fun h => ?_, fun hl hr => ?_⟩
  · refine exec_refused (c := .setLine f inp) rfl hh hlen
      (setLineOwner_wrongState (State.taken_storeBusy hfree) (by rwa [State.taken_pins]) ?_)
    rw [State.taken_atRest, Bool.eq_false_iff, Ne, State.atRest_iff]
    rintro ⟨hl, hr⟩
    rcases h with ⟨hd, hs⟩ | h
    · rcases hl with hl | hl
      · exact hd hl
      · exact hs hl
    · exact h hr
  have hrest : s.atRest = true := State.atRest_iff.mpr ⟨hl, hr⟩
  split
  · next hgood =>
    obtain ⟨t, hexec, ht⟩ := exec_setLine hh hp hfree hlock hrest hfits (hrange.mpr hgood)
    have hretired := State.retired_foldl (s := s.taken 0x03#8 f inp) c.above_nodup
    rw [State.applyLine_eq] at ht
    have hcradles : (s.taken 0x03#8 f inp).cradles = s.cradles := by rw [State.taken, State.accept_eq]; rfl
    generalize c.above.foldl State.retireStation (s.taken 0x03#8 f inp) = w at ht hretired
    have htables (n : Nat) : t.stationCfg n = w.stationCfg n ∧ t.hostClosed n = w.hostClosed n ∧ t.bath n = w.bath n ∧
        t.cradle n = w.cradle n ∧ t.valve n = w.valve n := by rw [ht]; exact ⟨rfl, rfl, rfl, rfl, rfl⟩
    have hfound (n : Nat) : (s.taken 0x03#8 f inp).cradle n = s.cradle n ∧ (s.taken 0x03#8 f inp).valve n = s.valve n := by
      rw [State.cradle, hcradles, State.valve, State.taken_manifold]
      exact ⟨rfl, rfl⟩
    refine ⟨t, hexec, by rw [ht], by rw [ht], fun n hlo hhi => ?_, fun n hlo hhi => ?_, fun leaves hleaves => ?_, ?_⟩
    · obtain ⟨h1, h2, h3, h4, h5⟩ := htables n
      obtain ⟨h1', h2', h3', h4', h5'⟩ := hretired.others n (by rw [LineCfg.mem_above]; omega)
      rw [h1, h2, h3, h4, h5, h1', h2', h3', h4', h5', State.taken_stationCfg, State.taken_hostClosed, State.taken_bath,
        (hfound n).1, (hfound n).2]
      exact ⟨rfl, rfl, rfl, rfl, rfl⟩
    · have hmem : n ∈ c.above := LineCfg.mem_above.mpr ⟨by omega, hhi, hlo⟩
      obtain ⟨h1, h2, h3, h4, h5⟩ := htables n
      obtain ⟨hrole, hgroup, hclosed⟩ := hretired.unused n hmem
      rw [h1, h2, h3, h4, h5]
      refine ⟨hrole, hgroup, hclosed, fun hb => ?_⟩
      have hemptied := hretired.emptied n hmem (by rwa [State.taken_isBath])
      rwa [State.taken_bath] at hemptied
    · have hsame (d : Nat) : (!(c.above.contains d && (s.taken 0x03#8 f inp).isBath d)) = !leaves d := by
        congr 1
        rw [Bool.eq_iff_iff, hleaves, Bool.and_eq_true, List.contains_iff_mem, LineCfg.mem_above, State.taken_isBath]
        constructor
        · rintro ⟨⟨hlo, hhi, hc⟩, hb⟩
          exact ⟨hb, hc, hhi⟩
        · rintro ⟨hb, hc, hhi⟩
          exact ⟨⟨State.one_le_of_isBath hb, hhi, hc⟩, hb⟩
      have hd := hretired.deliveries
      have hp' := hretired.pump
      simp only [hsame, State.taken_deliveries, State.taken_pump] at hd hp'
      rw [ht]
      exact ⟨hd, hp'⟩
    · have hframe := hretired.frame
      rw [State.taken_cfg, State.taken_manifold] at hframe
      conv_lhs => rw [ht]
      rw [ht]
      exact congrArg (fun x : State => { x with
        cfg := { x.cfg with line := c }
        link := { (s.replying 0x03#8 f inp [0#8]) with watchdog := Watchdog.start c.linkTimeout s.clock }
        out := t.out }) hframe
  · next hbad =>
    have hfalse : c.inRange = false := Bool.eq_false_iff.mpr fun h => hbad (hrange.mp h)
    exact exec_refused (c := .setLine f inp) rfl hh hlen
      (setLineOwner_badValue (State.taken_storeBusy hfree) (by rwa [State.taken_pins]) (by rwa [State.taken_atRest])
        (.inr ⟨c, by rw [hp]; exact LineCfg.parse_bytes hfits, hfalse⟩))

end Sys2Proof.Machine
end

section
/-! PROOFS. SET STATION (1.6): the record read back from its bytes, the change of a station's role, and the request. -/

namespace Sys2Proof.Machine

/-! ### The station record (12.11) -/

theorem Role.ofCode_code (r : Role) : Role.ofCode (min r.code 255) = some r := by cases r <;> rfl

theorem Role.ofCode_unlisted {n : Nat} (h : 5 ≤ n) : Role.ofCode n = none := by
  obtain ⟨m, rfl⟩ : ∃ m, n = m + 5 := ⟨n - 5, by omega⟩
  rfl

/-- The station record's fields lie within what their bytes hold, its masks those of maskable flags. -/
def StationCfg.fits (c : StationCfg) : Prop :=
  (c.group ≤ 255 ∧ c.winLow ≤ 65535 ∧ c.winHigh ≤ 65535 ∧ c.depth ≤ 255 ∧ c.jump ≤ 255 ∧ c.spreadLimit ≤ 255 ∧
    c.probeHold ≤ 255 ∧ c.exhPerLoad ≤ 255 ∧ c.slope ≤ 65535 ∧ c.exhLimit ≤ 65535 ∧ c.mlPerLoad ≤ 255) ∧
  c.masks.probeFault = false ∧ c.masks.levelLow = false ∧ c.masks.cradleFault = false ∧ c.masks.exhUnknown = false ∧
  c.masks.exhausted = false

theorem FlagSet.ofMaskBits_bits {m : FlagSet} (hp : m.probeFault = false) (hl : m.levelLow = false) (hc : m.cradleFault = false)
    (hu : m.exhUnknown = false) (he : m.exhausted = false) :
    maskBitsBad m.bits = false ∧ FlagSet.ofMaskBits m.bits = m := by
  obtain ⟨low, high, spread, probe, llow, lhigh, cradle, unknown, exhausted⟩ := m
  simp only at hp hl hc hu he
  subst hp hl hc hu he
  simp only [maskBitsBad, FlagSet.ofMaskBits, FlagSet.bits, testBit_bitsToNat]
  exact ⟨rfl, rfl⟩

/-- The bytes of SET STATION before the masks. -/
def StationCfg.bathBytes (n : Nat) (c : StationCfg) : List Byte :=
  b1 n ++ (b1 c.role.code ++ (b1 c.group ++ (b2 c.winLow ++ (b2 c.winHigh ++ (b1 c.depth ++ (b1 c.jump ++
  (b1 c.spreadLimit ++ b1 c.probeHold)))))))

/-- The masks and what follows them. -/
def StationCfg.tailBytes (c : StationCfg) : List Byte :=
  b2 c.masks.bits ++ (b1 c.exhPerLoad ++ (b2 c.slope ++ (b2 c.exhLimit ++ b1 c.mlPerLoad)))

theorem StationCfg.payload_eq (n : Nat) (c : StationCfg) : b1 n ++ c.bytes = c.bathBytes n ++ c.tailBytes := by
  rw [StationCfg.bytes, StationCfg.bathBytes, StationCfg.tailBytes]
  simp only [List.append_assoc]

theorem StationCfg.fields_of_bathBytes (n : Nat) (c : StationCfg) (after : List Byte) {p : List Byte}
    (hp : p = c.bathBytes n ++ after) :
    u8 p 0 = min n 255 ∧ u8 p 1 = min c.role.code 255 ∧ u8 p 2 = min c.group 255 ∧ u16 p 3 = min c.winLow 65535 ∧
    u16 p 5 = min c.winHigh 65535 ∧ u8 p 7 = min c.depth 255 ∧ u8 p 8 = min c.jump 255 ∧ u8 p 9 = min c.spreadLimit 255 ∧
    u8 p 10 = min c.probeHold 255 := by
  subst hp
  simp only [StationCfg.bathBytes, List.append_assoc]
  exact ⟨by simp, by simp, by simp, by simp, by simp, by simp, by simp, by simp, by simp⟩

theorem StationCfg.fields_of_tailBytes (c : StationCfg) (before : List Byte) {p : List Byte} (hp : p = before ++ c.tailBytes)
    (hb : before.length = 11) :
    u16 p 11 = c.masks.bits ∧ u8 p 13 = min c.exhPerLoad 255 ∧ u16 p 14 = min c.slope 65535 ∧
    u16 p 16 = min c.exhLimit 65535 ∧ u8 p 18 = min c.mlPerLoad 255 := by
  have hmasks := c.masks.bits_le
  subst hp
  simp only [StationCfg.tailBytes]
  exact ⟨by simp [hb, hmasks], by simp [hb], by simp [hb], by simp [hb], by simp [hb]⟩

/-- A station record is read back from the payload that carries it. -/
theorem StationCfg.parse_bytes {n : Nat} {c : StationCfg} (hc : c.fits) : StationCfg.parse (b1 n ++ c.bytes) = some c := by
  obtain ⟨-, h1, h2, h3, h5, h7, h8, h9, h10⟩ := c.fields_of_bathBytes n _ (c.payload_eq n)
  obtain ⟨h11, h13, h14, h16, h18⟩ := c.fields_of_tailBytes _ (c.payload_eq n) (by simp [StationCfg.bathBytes])
  obtain ⟨⟨hgroup, hlow, hhigh, hdepth, hjump, hspread, hhold, hload, hslope, hlimit, hml⟩, hp, hl, hcr, hu, he⟩ := hc
  obtain ⟨hgood, hmasks⟩ := FlagSet.ofMaskBits_bits hp hl hcr hu he
  simp only [StationCfg.parse, h1, h2, h3, h5, h7, h8, h9, h10, h11, h13, h14, h16, h18, Role.ofCode_code, hgood, hmasks]
  simp [hgroup, hlow, hhigh, hdepth, hjump, hspread, hhold, hload, hslope, hlimit, hml]

theorem StationCfg.parse_unlisted {p : List Byte}
    (h : 5 ≤ u8 p 1 ∨ ∃ i, (i = 3 ∨ i = 4 ∨ i = 6 ∨ i = 7 ∨ i = 8) ∧ (u16 p 11).testBit i = true) : StationCfg.parse p = none := by
  unfold StationCfg.parse
  rcases h with h | ⟨i, hi, hbit⟩
  · rw [Role.ofCode_unlisted h]
  · have hbad : maskBitsBad (u16 p 11) = true := by
      unfold maskBitsBad
      rcases hi with rfl | rfl | rfl | rfl | rfl <;> simp [hbit]
    rw [hbad]
    cases Role.ofCode (u8 p 1) <;> rfl

/-! ### The change of a station (R11) -/

/-- Nothing has changed but what the blocks hold for one station, its closure among it. -/
structure State.Refit (s t : State) (n : Nat) : Prop where
  frame : t = { s with
    cfg := { s.cfg with closures := t.cfg.closures }, baths := t.baths, cradles := t.cradles
    deliveries := t.deliveries, pump := t.pump, manifold := { s.manifold with valves := t.manifold.valves } }
  others : ∀ m, m ≠ n → t.bath m = s.bath m ∧ t.cradle m = s.cradle m ∧ t.hostClosed m = s.hostClosed m

section
variable {s t u : State} {n : Nat}

theorem State.Refit.refl (s : State) (n : Nat) : s.Refit s n := ⟨rfl, fun _ _ => ⟨rfl, rfl, rfl⟩⟩

theorem State.Refit.trans (h : s.Refit u n) (h' : u.Refit t n) : s.Refit t n := by
  refine ⟨?_, fun m hm => ?_⟩
  · conv_lhs => rw [h'.frame]
    rw [h.frame]
  · obtain ⟨hbath, hcradle, hclosed⟩ := h.others m hm
    obtain ⟨hbath', hcradle', hclosed'⟩ := h'.others m hm
    exact ⟨hbath'.trans hbath, hcradle'.trans hcradle, hclosed'.trans hclosed⟩

theorem State.Refit.stationCfg (h : s.Refit t n) (m : Nat) : t.stationCfg m = s.stationCfg m := by
  have hstations : t.cfg.stations = s.cfg.stations := by rw [h.frame]
  rw [State.stationCfg, hstations, State.stationCfg]

theorem State.Refit.clock (h : s.Refit t n) : t.clock = s.clock := by rw [h.frame]
theorem State.Refit.pin (h : s.Refit t n) (m : Nat) : t.pin m = s.pin m := by rw [h.frame]; rfl
theorem State.Refit.role (h : s.Refit t n) (m : Nat) : t.role m = s.role m := by
  have hcount : t.cfg.line = s.cfg.line := by rw [h.frame]
  rw [State.role, State.configured, hcount, h.stationCfg, State.role, State.configured]

theorem State.refit_setBath (s : State) (n : Nat) (b : Bath) : s.Refit (s.setBath n b) n :=
  ⟨rfl, fun _ hm => ⟨State.bath_setBath_other _ _ hm, rfl, rfl⟩⟩

theorem State.refit_setCradle (s : State) (n : Nat) (c : Cradle) : s.Refit (s.setCradle n c) n :=
  ⟨rfl, fun _ hm => ⟨rfl, State.cradle_setCradle_other _ _ hm, rfl⟩⟩

theorem State.refit_setClosure (s : State) (n : Nat) (b : Bool) : s.Refit (s.setClosure n b) n :=
  ⟨rfl, fun _ hm => ⟨rfl, rfl, atStation_setStation_other _ _ _ hm⟩⟩

theorem State.refit_leaveBath (s : State) (n : Nat) : s.Refit (s.leaveBath n) n := by
  refine ⟨by rw [State.leaveBath_eq], fun m hm => ?_⟩
  obtain ⟨hbath, hcradle, -⟩ := State.leaveBath_other (s := s) hm
  exact ⟨hbath, hcradle, by rw [State.leaveBath_eq]; rfl⟩

/-- EXH_UNKNOWN has no latch and no event, so asserting it touches the condition alone (R134). -/
theorem State.assertExhUnknown_eq (s : State) (n : Nat) : s.assertFlag n .exhUnknown =
    if s.cond n .exhUnknown then s else s.setBath n { s.bath n with conds := (s.bath n).conds.set .exhUnknown true } := by
  simp only [State.assertFlag, s.masked_of_not_maskable n (f := .exhUnknown) rfl, Bool.or_false]
  rfl

theorem State.refit_assertExhUnknown (s : State) (n : Nat) : s.Refit (s.assertFlag n .exhUnknown) n := by
  rw [State.assertExhUnknown_eq]
  split
  · exact .refl s n
  · exact s.refit_setBath n _

theorem State.bath_assertExhUnknown (h : 1 ≤ n) (hn : n ≤ s.baths.length) :
    (s.assertFlag n .exhUnknown).bath n = { s.bath n with conds := (s.bath n).conds.set .exhUnknown true } := by
  rw [State.assertExhUnknown_eq]
  split
  · next hc => rw [FlagSet.set_eq_self hc]
  · exact State.bath_setBath_same _ _ h hn

theorem State.assertExhUnknown_frame (s : State) (n : Nat) :
    s.assertFlag n .exhUnknown = { s with baths := (s.assertFlag n .exhUnknown).baths } := by
  rw [State.assertExhUnknown_eq]
  split <;> rfl

/-! ### The stages of a change of role -/

/-- What a change of role or settings does to the bath, the cradle, the valve and the deliveries of a station (R11). -/
def State.changeBath (s : State) (n : Nat) (old new : StationCfg) : State :=
  if old.role.holdsBath then
    if new.role = old.role then s.keepBath n old new
    else if new.role.holdsBath then s.passBath n else s.leaveBath n
  else if new.role.holdsBath then s.enterBathRole n else s

/-- EXH_UNKNOWN follows the DEVELOP role (R11, R134). -/
def State.judgeUnknown (s : State) (n : Nat) (old new : Role) : State :=
  let t := if new = .develop ∧ old ≠ .develop then s.assertFlag n .exhUnknown else s
  if new = .bath ∧ old = .develop then t.releaseFlag n .exhUnknown else t

/-- A closure does not outlast its role, but for a passage between DEVELOP and BATH (R11). -/
def State.judgeClosure (s : State) (n : Nat) (old new : Role) : State :=
  if old ≠ new ∧ ¬ (old.holdsBath ∧ new.holdsBath) then s.setClosure n false else s

theorem State.changeRole_eq (s : State) (n : Nat) (old : StationCfg) : s.changeRole n old =
    ((s.changeBath n old (s.stationCfg n)).judgeUnknown n old.role (s.stationCfg n).role).judgeClosure n old.role
      (s.stationCfg n).role := rfl

variable {old new : StationCfg}

theorem State.restartFilter_eq (s : State) (n : Nat) :
    s.restartFilter n = { s with baths := (s.restartFilter n).baths } := rfl

theorem State.refit_restartFilter (s : State) (n : Nat) : s.Refit (s.restartFilter n) n :=
  (((s.refit_setBath n _).trans (State.refit_setBath _ n _)).trans (State.refit_setBath _ n _)).trans (State.refit_setBath _ n _)

theorem State.refit_keepBath (s : State) (n : Nat) (old new : StationCfg) : s.Refit (s.keepBath n old new) n := by
  unfold State.keepBath
  split
  · exact s.refit_setBath n _
  · exact (s.refit_restartFilter n).trans (State.refit_setBath _ n _)

theorem State.refit_changeBath (s : State) (n : Nat) (old new : StationCfg) : s.Refit (s.changeBath n old new) n := by
  unfold State.changeBath
  split
  · split
    · exact s.refit_keepBath n old new
    · split
      · exact (s.refit_setBath n _).trans (State.refit_setCradle _ n _)
      · exact s.refit_leaveBath n
  · split
    · exact (s.refit_setBath n _).trans (State.refit_setCradle _ n _)
    · exact .refl s n

theorem State.refit_judgeUnknown (s : State) (n : Nat) (old new : Role) : s.Refit (s.judgeUnknown n old new) n := by
  have hassert : s.Refit (if new = .develop ∧ old ≠ .develop then s.assertFlag n .exhUnknown else s) n := by
    split
    · exact s.refit_assertExhUnknown n
    · exact .refl s n
  simp only [State.judgeUnknown]
  split
  · exact hassert.trans (State.refit_setBath _ n _)
  · exact hassert

theorem State.judgeUnknown_frame (s : State) (n : Nat) (old new : Role) :
    s.judgeUnknown n old new = { s with baths := (s.judgeUnknown n old new).baths } := by
  simp only [State.judgeUnknown]
  split
  · split
    · conv_lhs => rw [State.releaseFlag, State.setBath, State.assertExhUnknown_frame]
      rfl
    · rfl
  · split
    · exact s.assertExhUnknown_frame n
    · rfl

theorem State.refit_judgeClosure (s : State) (n : Nat) (old new : Role) : s.Refit (s.judgeClosure n old new) n := by
  unfold State.judgeClosure
  split
  · exact s.refit_setClosure n false
  · exact .refl s n

theorem State.judgeClosure_frame (s : State) (n : Nat) (old new : Role) : s.judgeClosure n old new = { s with
    cfg := { s.cfg with closures := (s.judgeClosure n old new).cfg.closures } } := by
  unfold State.judgeClosure
  split <;> rfl

theorem State.hostClosed_judgeClosure (old new : Role) : (s.judgeClosure n old new).hostClosed n =
    if old.holdsBath = new.holdsBath ∧ (new.holdsBath = true ∨ old = new) then s.hostClosed n else false := by
  unfold State.judgeClosure
  by_cases h : old ≠ new ∧ ¬ (old.holdsBath = true ∧ new.holdsBath = true)
  · rw [if_pos h, if_neg]
    · exact atStation_setStation_of (P := fun b => b = false) rfl rfl
    · rintro ⟨hsame, hn | hn⟩
      · exact h.2 ⟨hsame.trans hn, hn⟩
      · exact h.1 hn
  · rw [if_neg h, if_pos]
    by_cases heq : old = new
    · exact ⟨by rw [heq], .inr heq⟩
    · have hboth : old.holdsBath = true ∧ new.holdsBath = true := by
        by_contra hb
        exact h ⟨heq, hb⟩
      exact ⟨hboth.1.trans hboth.2.symm, .inl hboth.2⟩

section
variable (h : 1 ≤ n) (hn : n ≤ s.baths.length)
include h hn

/-- EXH_UNKNOWN after the change: asserted on a station that comes to DEVELOP, released on one that passes to BATH. -/
theorem State.bath_judgeUnknown (old new : Role) : (s.judgeUnknown n old new).bath n =
    if new = .develop ∧ old ≠ .develop then { s.bath n with conds := (s.bath n).conds.set .exhUnknown true }
    else if new = .bath ∧ old = .develop then { s.bath n with conds := (s.bath n).conds.set .exhUnknown false }
    else s.bath n := by
  simp only [State.judgeUnknown]
  by_cases hd : new = .develop ∧ old ≠ .develop
  · have hnot : ¬ (new = .bath ∧ old = .develop) := fun hb => hd.2 hb.2
    rw [if_pos hd, if_pos hd, if_neg hnot]
    exact State.bath_assertExhUnknown h hn
  · rw [if_neg hd, if_neg hd]
    split
    · exact s.bath_releaseFlag_same h hn _
    · rfl

theorem State.bath_applyMasks (m : FlagSet) : (s.applyMasks n m).bath n =
    { s.bath n with conds := (s.bath n).conds.without m, latches := (s.bath n).latches.without m } :=
  State.bath_setBath_same _ _ h hn

theorem State.bath_restartFilter : (s.restartFilter n).bath n = { s.bath n with
    history := [], lastAccepted := none, filtered := none
    conds := (((s.bath n).conds.set .tempLow false).set .tempHigh false).set .spread false } := by
  have hempty : (s.emptyFilter n).bath n = { s.bath n with history := [], lastAccepted := none, filtered := none } :=
    State.bath_setBath_same _ _ h hn
  have hlow := (s.emptyFilter n).bath_releaseFlag_same h (by simpa [State.emptyFilter] using hn) .tempLow
  have hhigh := ((s.emptyFilter n).releaseFlag n .tempLow).bath_releaseFlag_same h
    (by simpa [State.emptyFilter, State.releaseFlag] using hn) .tempHigh
  have hspread := (((s.emptyFilter n).releaseFlag n .tempLow).releaseFlag n .tempHigh).bath_releaseFlag_same h
    (by simpa [State.emptyFilter, State.releaseFlag] using hn) .spread
  rw [State.restartFilter, hspread, hhigh, hlow, hempty]

end

theorem FlagSet.get_without (a b : FlagSet) (fl : Flag) : (a.without b).get fl = (a.get fl && !b.get fl) := by
  cases fl <;> rfl

theorem FlagSet.get_refiltered (a m : FlagSet) (fl : Flag) :
    ((((a.set .tempLow false).set .tempHigh false).set .spread false).without m).get fl =
      (a.get fl && !m.get fl && !(fl == .tempLow || fl == .tempHigh || fl == .spread)) := by
  rw [FlagSet.get_without]
  cases fl <;> simp [FlagSet.get, FlagSet.set]

end

end Sys2Proof.Machine
end

section
/-! PROOFS. SET STATION (1.6, 8.1, 7.1): each change of a station's role, and the request. -/

namespace Sys2Proof.Machine

section
variable {s : State} {n : Nat} {old : StationCfg}

/-! ### The blocks after a change of role -/

theorem State.changeRole_tables (m : Nat) :
    (s.changeRole n old).bath m = ((s.changeBath n old (s.stationCfg n)).judgeUnknown n old.role (s.stationCfg n).role).bath m ∧
    (s.changeRole n old).cradle m = (s.changeBath n old (s.stationCfg n)).cradle m ∧
    (s.changeRole n old).valve m = (s.changeBath n old (s.stationCfg n)).valve m ∧
    (s.changeRole n old).deliveries = (s.changeBath n old (s.stationCfg n)).deliveries ∧
    (s.changeRole n old).pump = (s.changeBath n old (s.stationCfg n)).pump := by
  rw [State.changeRole_eq, State.judgeClosure_frame]
  refine ⟨rfl, ?_, ?_, ?_, ?_⟩ <;> rw [State.judgeUnknown_frame] <;> rfl

theorem State.refit_changeRole (s : State) (n : Nat) (old : StationCfg) : s.Refit (s.changeRole n old) n := by
  rw [State.changeRole_eq]
  exact ((s.refit_changeBath n old _).trans (State.refit_judgeUnknown _ n _ _)).trans (State.refit_judgeClosure _ n _ _)

theorem State.keepBath_eq (s : State) (n : Nat) (old new : StationCfg) :
    s.keepBath n old new = { s with baths := (s.keepBath n old new).baths } := by
  unfold State.keepBath
  split <;> simp only [State.applyMasks, State.restartFilter, State.releaseFlag, State.emptyFilter, State.setBath]

theorem State.changeBath_cfg (s : State) (n : Nat) (old new : StationCfg) : (s.changeBath n old new).cfg = s.cfg := by
  unfold State.changeBath
  split
  · split
    · rw [State.keepBath_eq]
    · split
      · rfl
      · rw [State.leaveBath_eq]
  · split <;> rfl

theorem State.hostClosed_changeRole : (s.changeRole n old).hostClosed n =
    if old.role.holdsBath = (s.stationCfg n).role.holdsBath ∧
      ((s.stationCfg n).role.holdsBath = true ∨ old.role = (s.stationCfg n).role) then s.hostClosed n else false := by
  have hbefore : ((s.changeBath n old (s.stationCfg n)).judgeUnknown n old.role (s.stationCfg n).role).hostClosed n =
      s.hostClosed n := by
    rw [State.judgeUnknown_frame, State.hostClosed, State.changeBath_cfg, ← State.hostClosed]
  rw [State.changeRole_eq, State.hostClosed_judgeClosure, hbefore]

section
variable (h : 1 ≤ n) (hn : n ≤ s.baths.length)

theorem State.changeBath_length (new : StationCfg) : (s.changeBath n old new).baths.length = s.baths.length := by
  unfold State.changeBath State.keepBath
  split
  · split
    · split <;> simp [State.applyMasks, State.restartFilter, State.emptyFilter, State.releaseFlag, State.setBath]
    · split
      · simp [State.passBath, State.beginFalling, State.setCradle, State.setBath]
      · simp [State.leaveBath_eq]
  · split
    · simp [State.enterBathRole, State.beginFalling, State.setCradle, State.setBath]
    · rfl

include h hn

/-- The bath of the station after the change, from its bath after the first stage. -/
theorem State.bath_changeRole : (s.changeRole n old).bath n =
    if (s.stationCfg n).role = .develop ∧ old.role ≠ .develop then
      { (s.changeBath n old (s.stationCfg n)).bath n with
        conds := ((s.changeBath n old (s.stationCfg n)).bath n).conds.set .exhUnknown true }
    else if (s.stationCfg n).role = .bath ∧ old.role = .develop then
      { (s.changeBath n old (s.stationCfg n)).bath n with
        conds := ((s.changeBath n old (s.stationCfg n)).bath n).conds.set .exhUnknown false }
    else (s.changeBath n old (s.stationCfg n)).bath n := by
  rw [(State.changeRole_tables n).1, State.bath_judgeUnknown h (by rwa [State.changeBath_length])]

/-- EXH_UNKNOWN stands after a change to DEVELOP, and not after one from DEVELOP to BATH. -/
theorem State.exhUnknown_changeRole :
    ((s.stationCfg n).role = .develop → old.role ≠ .develop → (s.changeRole n old).cond n .exhUnknown = true) ∧
    ((s.stationCfg n).role = .bath → old.role = .develop → (s.changeRole n old).cond n .exhUnknown = false) := by
  have hbath := State.bath_changeRole h hn (old := old)
  refine ⟨fun hd ho => ?_, fun hb ho => ?_⟩
  · rw [State.cond, hbath, if_pos ⟨hd, ho⟩]
    exact FlagSet.get_set_same ((s.changeBath n old (s.stationCfg n)).bath n).conds .exhUnknown true
  · rw [State.cond, hbath, if_neg (fun hx => hx.2 ho), if_pos ⟨hb, ho⟩]
    exact FlagSet.get_set_same ((s.changeBath n old (s.stationCfg n)).bath n).conds .exhUnknown false

/-- A station that comes to hold a bath starts empty, its cradle commanded down (R11, R113, R126). -/
theorem State.changeRole_enter (hc : n ≤ s.cradles.length) (hnew : (s.stationCfg n).role.holdsBath = true)
    (hold : old.role.holdsBath = false) :
    (∃ l, (s.changeRole n old).bath n = { presence := (s.bath n).presence, conds := l }) ∧
    (s.changeRole n old).cradle n = ⟨if (s.pin n).cradleDown = true then .down else .falling, s.clock, (s.cradle n).outTime⟩ := by
  have hstage : s.changeBath n old (s.stationCfg n) = s.enterBathRole n := by
    rw [State.changeBath, if_neg (by simp [hold]), if_pos hnew]
  have hbath : (s.enterBathRole n).bath n = { presence := (s.bath n).presence } := State.bath_setBath_same _ _ h hn
  have hrole := State.bath_changeRole h hn (old := old)
  rw [hstage, hbath] at hrole
  refine ⟨?_, ?_⟩
  · rw [hrole]
    split
    · exact ⟨_, rfl⟩
    · split
      · exact ⟨_, rfl⟩
      · exact ⟨_, rfl⟩
  · rw [(State.changeRole_tables n).2.1, hstage]
    exact State.cradle_setCradle_same _ _ h hc

/-- A station that leaves the bath roles keeps its presence sample alone. -/
theorem State.changeRole_leave (hnew : (s.stationCfg n).role.holdsBath = false) (hold : old.role.holdsBath = true) :
    (s.changeRole n old).bath n = { presence := (s.bath n).presence } ∧ ((s.changeRole n old).cradle n).state = .none ∧
    (s.changeRole n old).valve n = false ∧
    (s.changeRole n old).deliveries = (s.deliveries.filter fun d => d.station != n) ∧
    (s.changeRole n old).pump = s.pump.filter fun p => p.station != n := by
  have hne : (s.stationCfg n).role ≠ old.role := by
    intro heq
    rw [heq, hold] at hnew
    cases hnew
  have hstage : s.changeBath n old (s.stationCfg n) = s.leaveBath n := by
    rw [State.changeBath, if_pos hold, if_neg hne, if_neg (by simp [hnew])]
  have hbath := State.bath_changeRole h hn (old := old)
  obtain ⟨-, hcradle, hvalve, hdeliveries, hpump⟩ := State.changeRole_tables (s := s) (n := n) (old := old) n
  rw [hstage] at hbath hcradle hvalve hdeliveries hpump
  rw [if_neg (fun hx => by rw [hx.1] at hnew; cases hnew), if_neg (fun hx => by rw [hx.1] at hnew; cases hnew)] at hbath
  refine ⟨hbath.trans (s.bath_leaveBath n), ?_, hvalve.trans (s.leaveBath_emptied n).2, hdeliveries.trans ?_, hpump.trans ?_⟩
  · rw [hcradle]
    exact (s.leaveBath_emptied n).1
  · rw [State.leaveBath_eq]
  · rw [State.leaveBath_eq]

/-- A station that keeps its bath role keeps its cradle, and its filter unless the depth changes (R11). -/
theorem State.changeRole_keep (hsame : (s.stationCfg n).role = old.role) (hold : old.role.holdsBath = true) :
    (s.changeRole n old).cradle n = s.cradle n ∧ ((s.changeRole n old).bath n).exhaustion = (s.bath n).exhaustion ∧
    (∀ fl, ((s.changeRole n old).bath n).latches.get fl =
      ((s.bath n).latches.get fl && !(s.stationCfg n).masks.get fl)) ∧
    (old.depth = (s.stationCfg n).depth →
      ((s.changeRole n old).bath n).filtered = (s.bath n).filtered ∧ ((s.changeRole n old).bath n).history = (s.bath n).history ∧
      ∀ fl, (s.changeRole n old).cond n fl = (s.cond n fl && !(s.stationCfg n).masks.get fl)) ∧
    (old.depth ≠ (s.stationCfg n).depth →
      ((s.changeRole n old).bath n).filtered = none ∧ ((s.changeRole n old).bath n).history = [] ∧
      ∀ fl, (s.changeRole n old).cond n fl = (s.cond n fl && !(s.stationCfg n).masks.get fl &&
        !(fl == .tempLow || fl == .tempHigh || fl == .spread))) := by
  have hstage : s.changeBath n old (s.stationCfg n) = s.keepBath n old (s.stationCfg n) := by
    rw [State.changeBath, if_pos hold, if_pos hsame]
  have hbath := State.bath_changeRole h hn (old := old)
  rw [hstage, if_neg (fun hx => hx.2 (hsame ▸ hx.1)), if_neg (fun hx => by rw [← hsame, hx.1] at hx; cases hx.2)] at hbath
  have hcradle : (s.changeRole n old).cradle n = s.cradle n := by
    rw [(State.changeRole_tables n).2.1, hstage, State.keepBath_eq]
    rfl
  by_cases hdepth : old.depth = (s.stationCfg n).depth
  · rw [State.keepBath, if_pos hdepth, State.bath_applyMasks h hn] at hbath
    refine ⟨hcradle, by rw [hbath], fun fl => ?_, fun _ => ⟨by rw [hbath], by rw [hbath], fun fl => ?_⟩, fun hx => absurd hdepth hx⟩
    · rw [hbath]
      exact FlagSet.get_without _ _ _
    · rw [State.cond, hbath]
      exact FlagSet.get_without _ _ _
  · have hlen : n ≤ (s.restartFilter n).baths.length := by
      simpa [State.restartFilter, State.emptyFilter, State.releaseFlag, State.setBath] using hn
    rw [State.keepBath, if_neg hdepth, State.bath_applyMasks h hlen, State.bath_restartFilter h hn] at hbath
    refine ⟨hcradle, by rw [hbath], fun fl => ?_, fun hx => absurd hx hdepth, fun _ => ⟨by rw [hbath], by rw [hbath], fun fl => ?_⟩⟩
    · rw [hbath]
      exact FlagSet.get_without _ _ _
    · rw [State.cond, hbath]
      exact FlagSet.get_refiltered _ _ _

/-- A station that passes between DEVELOP and BATH keeps its last samples and its exhaustion index (R11, R126). -/
theorem State.changeRole_pass (hc : n ≤ s.cradles.length) (hne : (s.stationCfg n).role ≠ old.role)
    (hnew : (s.stationCfg n).role.holdsBath = true) (hold : old.role.holdsBath = true) :
    (s.changeRole n old).bath n = {
      presence := (s.bath n).presence, levelLow := (s.bath n).levelLow, levelHigh := (s.bath n).levelHigh, raw := (s.bath n).raw, rawValid := (s.bath n).rawValid,
      exhaustion := (s.bath n).exhaustion, conds := { exhUnknown := (s.stationCfg n).role == .develop } } ∧
    (s.changeRole n old).cradle n = ⟨if (s.pin n).cradleDown = true then .down else .falling, s.clock, (s.cradle n).outTime⟩ := by
  have hstage : s.changeBath n old (s.stationCfg n) = s.passBath n := by
    rw [State.changeBath, if_pos hold, if_neg hne, if_pos hnew]
  have hbath : (s.passBath n).bath n = {
      presence := (s.bath n).presence, levelLow := (s.bath n).levelLow, levelHigh := (s.bath n).levelHigh, raw := (s.bath n).raw, rawValid := (s.bath n).rawValid,
      exhaustion := (s.bath n).exhaustion } := State.bath_setBath_same _ _ h hn
  have hrole := State.bath_changeRole h hn (old := old)
  rw [hstage, hbath] at hrole
  refine ⟨?_, ?_⟩
  · rw [hrole]
    cases hr : (s.stationCfg n).role with
    | develop =>
      rw [hr] at hne
      rw [if_pos ⟨rfl, hne.symm⟩]
      rfl
    | bath =>
      have hdev : old.role = .develop := by
        rw [hr] at hne
        cases ho : old.role <;> simp_all [Role.holdsBath]
      rw [if_neg (by simp), if_pos ⟨rfl, hdev⟩]
      rfl
    | unused | load | unload => rw [hr] at hnew; cases hnew
  · rw [(State.changeRole_tables n).2.1, hstage]
    exact State.cradle_setCradle_same _ _ h hc

end

/-- Deliveries and the pump's run leave with the bath alone. -/
theorem State.changeRole_deliveries (hkeep : (s.stationCfg n).role.holdsBath = true ∨ old.role.holdsBath = false) :
    (s.changeRole n old).deliveries = s.deliveries ∧ (s.changeRole n old).pump = s.pump := by
  obtain ⟨-, -, -, hdeliveries, hpump⟩ := State.changeRole_tables (s := s) (n := n) (old := old) n
  rw [hdeliveries, hpump]
  unfold State.changeBath
  split
  · next hold =>
    split
    · rw [State.keepBath_eq]
      exact ⟨rfl, rfl⟩
    · split
      · exact ⟨rfl, rfl⟩
      · next hnew =>
        rcases hkeep with hk | hk
        · exact absurd hk hnew
        · rw [hold] at hk
          cases hk
  · split <;> exact ⟨rfl, rfl⟩

end

/-! ### The request (R10, R14) -/

section
variable {s : State} {f : Frame} {inp : Inputs} {n : Nat} {c : StationCfg}

/-- SET STATION is taken with this record for this station (R10). -/
def State.stationSuits (s : State) (n : Nat) (c : StationCfg) : Bool :=
  s.configured n && c.inRange && !s.groupConflict n c && !s.recipeConflict c

theorem State.judgeDefaulted_eq (s : State) : s.judgeDefaulted = { s with line := { s.line with
    configDefaulted := if s.rolesPresent = true then false else s.line.configDefaulted } } := by
  unfold State.judgeDefaulted
  split <;> rfl

/-- The part after an accepted SET STATION. -/
def State.applyStation (s : State) (n : Nat) (c : StationCfg) : State :=
  ((s.setStationCfg n c).changeRole n (s.stationCfg n)).judgeDefaulted

variable {p : List Byte}

theorem setStationOwner_free (hb : s.storeBusy = false) (hl : s.pins.lock = false) :
    setStationOwner p s = if !s.atRest then refuse .wrongState s
      else if !s.configured (u8 p 0) then refuse .badValue s
      else
        match StationCfg.parse p with
        | some c =>
          if !c.inRange || s.groupConflict (u8 p 0) c || s.recipeConflict c then refuse .badValue s
          else (s.applyStation (u8 p 0) c, resultByte .ok)
        | none => refuse .badValue s := by
  simp only [setStationOwner, hb, hl]
  rfl

theorem setStationOwner_wrongState (hb : s.storeBusy = false) (hl : s.pins.lock = false) (h : s.atRest = false) :
    setStationOwner p s = (s, [4#8]) := by
  rw [setStationOwner_free hb hl, h]
  rfl

theorem setStationOwner_badValue (hb : s.storeBusy = false) (hl : s.pins.lock = false) (h : s.atRest = true)
    (hp : StationCfg.parse p = none ∨ ∃ c, StationCfg.parse p = some c ∧ s.stationSuits (u8 p 0) c = false) :
    setStationOwner p s = (s, [3#8]) := by
  rw [setStationOwner_free hb hl, h]
  rcases hp with hp | ⟨c, hp, hc⟩
  · rw [hp]
    cases s.configured (u8 p 0) <;> rfl
  · rw [hp]
    cases hconf : s.configured (u8 p 0) with
    | false => rfl
    | true =>
      have hbad : (!c.inRange || s.groupConflict (u8 p 0) c || s.recipeConflict c) = true := by
        rw [State.stationSuits, hconf] at hc
        cases hr : c.inRange <;> cases hg : s.groupConflict (u8 p 0) c <;> simp_all
      simp only [hbad]
      rfl

theorem setStationOwner_granted (hb : s.storeBusy = false) (hl : s.pins.lock = false) (h : s.atRest = true)
    (hp : StationCfg.parse p = some c) (hc : s.stationSuits (u8 p 0) c = true) :
    setStationOwner p s = (s.applyStation (u8 p 0) c, [0#8]) := by
  simp only [State.stationSuits, Bool.and_eq_true, Bool.not_eq_true'] at hc
  obtain ⟨⟨⟨hconf, hrange⟩, hgroup⟩, hrecipe⟩ := hc
  rw [setStationOwner_free hb hl, h, hp, hconf]
  simp only [hrange, hgroup, hrecipe]
  rfl

theorem Role.kind_iff {k : StepKind} {r : Role} (h : r.holdsBath = true) : k.role = r ↔ (k = .develop ↔ r = .develop) := by
  cases k <;> cases r <;> simp_all [StepKind.role, Role.holdsBath]

/-- The checks of SET STATION, field by field (R10). -/
theorem State.stationSuits_iff : s.stationSuits n c = true ↔
    1 ≤ n ∧ n ≤ s.cfg.line.count ∧ c.winLow < c.winHigh ∧ c.winHigh ≤ 600 ∧
      (c.depth = 1 ∨ c.depth = 2 ∨ c.depth = 4 ∨ c.depth = 8) ∧ 5 ≤ c.jump ∧ c.jump ≤ 50 ∧ 1 ≤ c.spreadLimit ∧
      c.spreadLimit ≤ 100 ∧ 2 ≤ c.probeHold ∧ c.probeHold ≤ 30 ∧ c.exhPerLoad ≤ 50 ∧ c.slope ≤ 512 ∧
      100 ≤ c.exhLimit ∧ c.exhLimit ≤ 1000 ∧ c.mlPerLoad ≤ 200 ∧
      (c.role.holdsBath = false → c.group = 0) ∧
      (c.role.holdsBath = true → 1 ≤ c.group ∧ c.group ≤ 15 ∧
        (∀ m, m ≠ n → s.isBath m = true → m ≤ 16 → s.group m = c.group → s.role m = c.role) ∧
        ∀ steps ∈ s.cfg.recipes, ∀ st ∈ steps, st.group = c.group → (st.kind = .develop ↔ c.role = .develop)) := by
  have hgroup : s.groupConflict n c = false ↔ (c.role.holdsBath = true →
      ∀ m, m ≠ n → s.isBath m = true → m ≤ 16 → s.group m = c.group → s.role m = c.role) := by
    have hmember (m : Nat) : m ∈ s.groupStations c.group ↔ m ≤ 16 ∧ s.isBath m = true ∧ s.group m = c.group := by
      simp only [State.groupStations, List.mem_filter, State.mem_stations, Bool.and_eq_true, beq_iff_eq]
      constructor
      · rintro ⟨⟨-, hhi, -⟩, hb, hg⟩
        exact ⟨hhi, hb, hg⟩
      · rintro ⟨hhi, hb, hg⟩
        exact ⟨⟨State.one_le_of_isBath hb, hhi, State.configured_of_role (State.role_ne_unused_of_isBath hb)⟩, hb, hg⟩
    rw [State.groupConflict, Bool.and_eq_false_imp]
    refine imp_congr_right fun _ => ?_
    rw [List.any_eq_false]
    simp only [hmember, Bool.and_eq_true, bne_iff_ne, ne_eq, not_and, not_not, and_imp]
    exact ⟨fun h m hne hb hhi hg => h m hhi hb hg hne, fun h m hhi hb hg hne => h m hne hb hhi hg⟩
  have hrecipe : s.recipeConflict c = false ↔ (c.role.holdsBath = true →
      ∀ steps ∈ s.cfg.recipes, ∀ st ∈ steps, st.group = c.group → (st.kind = .develop ↔ c.role = .develop)) := by
    rw [State.recipeConflict, Bool.and_eq_false_imp]
    refine imp_congr_right fun hb => ?_
    simp only [List.any_eq_false, List.any_eq_true, Bool.and_eq_true, beq_iff_eq, bne_iff_ne, ne_eq, not_exists, not_and, not_not,
      Role.kind_iff hb]
  simp only [State.stationSuits, Bool.and_eq_true, Bool.not_eq_true', hgroup, hrecipe, State.configured_iff, StationCfg.inRange,
    within, List.contains_iff_mem, List.mem_cons, List.not_mem_nil, or_false, decide_eq_true_eq]
  cases hb : c.role.holdsBath
  · simp only [Bool.false_eq_true, if_false, beq_iff_eq, false_imp_iff, true_imp_iff, and_true]
    constructor
    · rintro ⟨⟨hlo, hhi⟩, ⟨⟨⟨⟨⟨⟨⟨⟨⟨⟨⟨-, hwl⟩, -, hwh⟩, hw⟩, hd⟩, hj, hj'⟩, hs, hs'⟩, hp, hp'⟩, -, he⟩, -, hsl⟩, hl, hl'⟩, -, hm⟩, hg⟩
      exact ⟨hlo, hhi, hw, hwh, hd, hj, hj', hs, hs', hp, hp', he, hsl, hl, hl', hm, hg⟩
    · rintro ⟨hlo, hhi, hw, hwh, hd, hj, hj', hs, hs', hp, hp', he, hsl, hl, hl', hm, hg⟩
      exact ⟨⟨hlo, hhi⟩, ⟨⟨⟨⟨⟨⟨⟨⟨⟨⟨⟨by omega, by omega⟩, by omega, hwh⟩, hw⟩, hd⟩, hj, hj'⟩, hs, hs'⟩, hp, hp'⟩, by omega, he⟩, by omega, hsl⟩,
        hl, hl'⟩, by omega, hm⟩, hg⟩
  · simp only [if_true, Bool.and_eq_true, decide_eq_true_eq, Bool.true_eq_false, false_imp_iff, true_imp_iff, true_and]
    constructor
    · rintro ⟨⟨⟨⟨hlo, hhi⟩, ⟨⟨⟨⟨⟨⟨⟨⟨⟨⟨⟨-, hwl⟩, -, hwh⟩, hw⟩, hd⟩, hj, hj'⟩, hs, hs'⟩, hp, hp'⟩, -, he⟩, -, hsl⟩, hl, hl'⟩, -, hm⟩, hg⟩,
        hgc⟩, hrc⟩
      exact ⟨hlo, hhi, hw, hwh, hd, hj, hj', hs, hs', hp, hp', he, hsl, hl, hl', hm, hg.1, hg.2, hgc, hrc⟩
    · rintro ⟨hlo, hhi, hw, hwh, hd, hj, hj', hs, hs', hp, hp', he, hsl, hl, hl', hm, hg, hg', hgc, hrc⟩
      exact ⟨⟨⟨⟨hlo, hhi⟩, ⟨⟨⟨⟨⟨⟨⟨⟨⟨⟨⟨by omega, by omega⟩, by omega, hwh⟩, hw⟩, hd⟩, hj, hj'⟩, hs, hs'⟩, hp, hp'⟩, by omega, he⟩,
        by omega, hsl⟩, hl, hl'⟩, by omega, hm⟩, hg, hg'⟩, hgc⟩, hrc⟩

end

end Sys2Proof.Machine
end

section
/-! PROOFS. SET STATION (1.6): the request as a whole. -/

namespace Sys2Proof.Machine

section
variable {s t : State} {f : Frame} {inp : Inputs} {n : Nat} {c : StationCfg}

/-- The part with the new record of a station, before the change of its role. -/
theorem State.setStationCfg_tables (s : State) (n : Nat) (c : StationCfg) :
    (∀ m, (s.setStationCfg n c).bath m = s.bath m) ∧ (∀ m, (s.setStationCfg n c).cradle m = s.cradle m) ∧
    (∀ m, (s.setStationCfg n c).hostClosed m = s.hostClosed m) ∧ ∀ m, m ≠ n → (s.setStationCfg n c).stationCfg m = s.stationCfg m :=
  ⟨fun _ => rfl, fun _ => rfl, fun _ => rfl, fun _ hm => atStation_setStation_other _ _ _ hm⟩

/-- A SET STATION that is taken leaves the part of its change of role, and the reply. -/
structure State.StationSet (s t : State) (f : Frame) (inp : Inputs) (n : Nat) (c : StationCfg) : Prop where
  refit : ((s.taken 0x04#8 f inp).setStationCfg n c).Refit
    (((s.taken 0x04#8 f inp).setStationCfg n c).changeRole n (s.stationCfg n)) n
  eq : t = { (((s.taken 0x04#8 f inp).setStationCfg n c).changeRole n (s.stationCfg n)).judgeDefaulted with
    link := s.replying 0x04#8 f inp [0#8], out := t.out }

theorem StationCfg.place_bytes (hn : n ≤ 255) : u8 (b1 n ++ c.bytes) 0 = n := by
  obtain ⟨h0, -⟩ := c.fields_of_bathBytes n _ (c.payload_eq n)
  omega

theorem StationCfg.fixedLength_bytes (hp : f.payload = b1 n ++ c.bytes) : fixedLength 19 f.payload = true := by
  rw [hp, StationCfg.payload_eq]
  simp [fixedLength, StationCfg.bathBytes, StationCfg.tailBytes]

theorem State.taken_stationSuits : (s.taken 0x04#8 f inp).stationSuits n c = s.stationSuits n c := by
  rw [State.taken, State.accept_eq]
  rfl

theorem exec_setStation (hh : s.hears 0x04#8 f) (hp : f.payload = b1 n ++ c.bytes) (hfree : s.storeWrite = none)
    (hlock : inp.lock = false) (hrest : s.atRest = true) (hn : n ≤ 255) (hfits : c.fits) (hc : s.stationSuits n c = true) :
    ∃ t, exec (.setStation f inp) s = .next t ∧ s.StationSet t f inp n c := by
  have hplace := StationCfg.place_bytes (c := c) hn
  have hrefit := ((s.taken 0x04#8 f inp).setStationCfg n c).refit_changeRole n (s.stationCfg n)
  have howner : (catalogue 0x04#8).2 f.payload (s.taken 0x04#8 f inp) =
      ((s.taken 0x04#8 f inp).applyStation n c, [0#8]) := by
    rw [hp]
    show setStationOwner (b1 n ++ c.bytes) (s.taken 0x04#8 f inp) = _
    have hgranted := setStationOwner_granted (s := s.taken 0x04#8 f inp) (State.taken_storeBusy hfree)
      (by rwa [State.taken_pins]) (by rwa [State.taken_atRest]) (StationCfg.parse_bytes hfits (n := n))
      (by rw [hplace, State.taken_stationSuits, hc])
    rwa [hplace] at hgranted
  rw [State.applyStation, State.taken_stationCfg] at howner
  obtain ⟨t, hexec, ht⟩ := exec_granted (c := .setStation f inp) rfl hh (StationCfg.fixedLength_bytes hp) howner (by
    rw [State.judgeDefaulted_eq, hrefit.frame]; rfl)
  exact ⟨t, hexec, hrefit, ht⟩

/-- The tables of the part after SET STATION are those after the change of role. -/
theorem State.StationSet.tables (h : s.StationSet t f inp n c) (m : Nat) :
    t.bath m = (((s.taken 0x04#8 f inp).setStationCfg n c).changeRole n (s.stationCfg n)).bath m ∧
    t.cradle m = (((s.taken 0x04#8 f inp).setStationCfg n c).changeRole n (s.stationCfg n)).cradle m ∧
    t.valve m = (((s.taken 0x04#8 f inp).setStationCfg n c).changeRole n (s.stationCfg n)).valve m ∧
    t.hostClosed m = (((s.taken 0x04#8 f inp).setStationCfg n c).changeRole n (s.stationCfg n)).hostClosed m ∧
    t.deliveries = (((s.taken 0x04#8 f inp).setStationCfg n c).changeRole n (s.stationCfg n)).deliveries ∧
    t.pump = (((s.taken 0x04#8 f inp).setStationCfg n c).changeRole n (s.stationCfg n)).pump := by
  rw [h.eq, State.judgeDefaulted_eq]
  exact ⟨rfl, rfl, rfl, rfl, rfl, rfl⟩

theorem State.StationSet.stationCfg (h : s.StationSet t f inp n c) (m : Nat) :
    t.stationCfg m = ((s.taken 0x04#8 f inp).setStationCfg n c).stationCfg m := by
  rw [← h.refit.stationCfg m, h.eq, State.judgeDefaulted_eq]
  rfl

/-- Conditions 1 to 3 of R14 read the settings, which judging CONFIG_DEFAULTED leaves. -/
theorem State.StationSet.defaulted (h : s.StationSet t f inp n c) :
    t.line.configDefaulted = if t.rolesPresent = true then false else s.line.configDefaulted := by
  have hline : (((s.taken 0x04#8 f inp).setStationCfg n c).changeRole n (s.stationCfg n)).line = s.line := by
    rw [h.refit.frame]
    exact State.taken_line ..
  have hroles : t.rolesPresent = (((s.taken 0x04#8 f inp).setStationCfg n c).changeRole n (s.stationCfg n)).rolesPresent := by
    rw [h.eq, State.judgeDefaulted_eq]
    rfl
  have hflag : t.line.configDefaulted = if
      (((s.taken 0x04#8 f inp).setStationCfg n c).changeRole n (s.stationCfg n)).rolesPresent = true then false
      else (((s.taken 0x04#8 f inp).setStationCfg n c).changeRole n (s.stationCfg n)).line.configDefaulted := by
    rw [h.eq, State.judgeDefaulted_eq]
  rw [hflag, hroles, hline]

/-- The frame of SET STATION. -/
theorem State.StationSet.frame (h : s.StationSet t f inp n c) :
    t = { s.taken 0x04#8 f inp with out := t.out, baths := t.baths, cradles := t.cradles,
                                    deliveries := t.deliveries, pump := t.pump, link := t.link,
                                    manifold := { s.manifold with valves := t.manifold.valves },
                                    line := { s.line with configDefaulted := t.line.configDefaulted },
                                    cfg := { s.cfg with stations := t.cfg.stations,
                                                        closures := t.cfg.closures } } := by
  have hframe := h.refit.frame
  have heq := h.eq
  rw [State.judgeDefaulted_eq] at heq
  generalize ((s.taken 0x04#8 f inp).setStationCfg n c).changeRole n (s.stationCfg n) = v at hframe heq
  have hline : v.line = s.line := by
    rw [hframe]
    exact State.taken_line ..
  have hmanifold : v.manifold = { s.manifold with valves := v.manifold.valves } := by
    conv_lhs => rw [hframe]
    simp only [State.setStationCfg, State.taken_manifold]
  have hcfg : v.cfg = { s.cfg with stations := v.cfg.stations, closures := v.cfg.closures } := by
    conv_lhs => rw [hframe]
    rw [show v.cfg.stations = ((s.taken 0x04#8 f inp).setStationCfg n c).cfg.stations by rw [hframe]]
    simp only [State.setStationCfg, State.taken_cfg]
  conv_lhs => rw [heq]
  rw [heq]
  simp only
  rw [← hmanifold, ← hcfg, ← hline]
  exact congrArg (fun x : State => { x with
    line := { v.line with configDefaulted := if v.rolesPresent = true then false else v.line.configDefaulted }
    link := s.replying 0x04#8 f inp [0#8], out := t.out, cfg := v.cfg, manifold := v.manifold }) hframe

/-- What the change of role finds of the station: its new record, and the blocks as they were. -/
theorem State.setStationCfg_taken (hlo : 1 ≤ n) (hhi : n ≤ s.cfg.stations.length) :
    ((s.taken 0x04#8 f inp).setStationCfg n c).stationCfg n = c ∧
    ((s.taken 0x04#8 f inp).setStationCfg n c).cradles = s.cradles ∧
    ((s.taken 0x04#8 f inp).setStationCfg n c).baths = s.baths ∧
    ((s.taken 0x04#8 f inp).setStationCfg n c).cfg.closures = s.cfg.closures ∧
    ((s.taken 0x04#8 f inp).setStationCfg n c).deliveries = s.deliveries ∧
    ((s.taken 0x04#8 f inp).setStationCfg n c).pump = s.pump ∧
    ((s.taken 0x04#8 f inp).setStationCfg n c).clock = s.clock := by
  have hcfg : (s.taken 0x04#8 f inp).cfg = s.cfg := State.taken_cfg ..
  refine ⟨?_, ?_⟩
  · rw [State.setStationCfg, State.stationCfg, hcfg]
    exact atStation_setStation_same _ _ _ hlo hhi
  · rw [State.taken, State.accept_eq]
    exact ⟨rfl, rfl, rfl, rfl, rfl, rfl⟩

theorem State.StationSet.pin (h : s.StationSet t f inp n c) (m : Nat) :
    t.pin m = ((s.taken 0x04#8 f inp).setStationCfg n c).pin m := by
  rw [h.frame, State.pin]
  rfl

theorem State.StationSet.role (h : s.StationSet t f inp n c) (hlo : 1 ≤ n) (hhi : n ≤ s.cfg.stations.length)
    (hcount : n ≤ s.cfg.line.count) : t.role n = c.role := by
  have hline : t.cfg.line = s.cfg.line := by rw [h.frame]
  have hconf : t.configured n = true := State.configured_iff.mpr (by rw [hline]; exact ⟨hlo, hcount⟩)
  rw [State.role, if_pos hconf, h.stationCfg, (State.setStationCfg_taken hlo hhi).1]

theorem State.isOpen_of_no_filter (hb : s.isBath n = true) (hf : (s.bath n).filtered = none) : s.isOpen n = false := by
  rw [State.isBath] at hb
  unfold State.isOpen
  cases hr : s.role n with
  | develop | bath => simp only [hf, Option.isSome_none, Bool.and_false, Bool.false_and]
  | unused | load | unload => exact absurd hb (by rw [hr]; decide)

end

/-- Settles O32. -/
theorem setStationReplacesTheRecord : Obligations.SetStationReplacesTheRecord := by
  unfold Obligations.SetStationReplacesTheRecord
  refine ⟨fun f inp s hh hp hfree hlock hl hr hbad => ?_, fun f inp s n c hh hp hfree hlock hn hcount hstations hbaths hcradles
    hvalves hgroup hlow hhigh hdepth hjump hspread hhold hload hslope hlimit hml hmp hml' hmc hmu hme => ?_⟩
  · have hrest : (s.taken 0x04#8 f inp).atRest = true := by rw [State.taken_atRest, State.atRest_iff]; exact ⟨hl, hr⟩
    exact exec_refused (c := .setStation f inp) rfl hh (by simp [fixedLength, hp])
      (setStationOwner_badValue (State.taken_storeBusy hfree) (by rwa [State.taken_pins]) hrest (.inl (StationCfg.parse_unlisted hbad)))
  have hfits : c.fits := ⟨⟨hgroup, hlow, hhigh, hdepth, hjump, hspread, hhold, hload, hslope, hlimit, hml⟩, hmp, hml', hmc, hmu, hme⟩
  have hlen := StationCfg.fixedLength_bytes hp
  refine ⟨fun h => ?_, fun hl hr ok hok => ?_⟩
  · refine exec_refused (c := .setStation f inp) rfl hh hlen
      (setStationOwner_wrongState (State.taken_storeBusy hfree) (by rwa [State.taken_pins]) ?_)
    rw [State.taken_atRest, Bool.eq_false_iff, Ne, State.atRest_iff]
    rintro ⟨hl, hr⟩
    rcases h with ⟨hd, hs⟩ | h
    · rcases hl with hl | hl
      · exact hd hl
      · exact hs hl
    · exact h hr
  have hrest : s.atRest = true := State.atRest_iff.mpr ⟨hl, hr⟩
  rw [← State.stationSuits_iff] at hok
  refine ⟨fun hnot => ?_, fun hyes => ?_⟩
  · have hfalse : s.stationSuits n c = false := Bool.eq_false_iff.mpr fun h => hnot (hok.mpr h)
    refine exec_refused (c := .setStation f inp) rfl hh hlen
      (setStationOwner_badValue (State.taken_storeBusy hfree) (by rwa [State.taken_pins]) (by rwa [State.taken_atRest])
        (.inr ⟨c, by rw [hp]; exact StationCfg.parse_bytes hfits, ?_⟩))
    rw [hp, StationCfg.place_bytes hn, State.taken_stationSuits, hfalse]
  have hsuits := hok.mp hyes
  obtain ⟨hlo, hconf, -⟩ := State.stationSuits_iff.mp hsuits
  obtain ⟨t, hexec, ht⟩ := exec_setStation hh hp hfree hlock hrest hn hfits hsuits
  have hhi : n ≤ s.cfg.stations.length := by omega
  obtain ⟨hcfg, hcr, hba, hcl, hde, hpu, hclock⟩ := State.setStationCfg_taken (f := f) (inp := inp) (c := c) hlo hhi
  have hrole : s.role n = (s.stationCfg n).role := if_pos (State.configured_iff.mpr ⟨hlo, hconf⟩)
  have htrole := ht.role hlo hhi hconf
  have hpin := ht.pin
  have htables := ht.tables
  have hclosed := State.hostClosed_changeRole (s := (s.taken 0x04#8 f inp).setStationCfg n c) (n := n) (old := s.stationCfg n)
  have hothers := ht.refit.others
  have hbath (m : Nat) : ((s.taken 0x04#8 f inp).setStationCfg n c).bath m = s.bath m := by rw [State.bath, hba]; rfl
  have hcradle (m : Nat) : ((s.taken 0x04#8 f inp).setStationCfg n c).cradle m = s.cradle m := by rw [State.cradle, hcr]; rfl
  have hclosure (m : Nat) : ((s.taken 0x04#8 f inp).setStationCfg n c).hostClosed m = s.hostClosed m := by
    rw [State.hostClosed, hcl]; rfl
  have hb : n ≤ ((s.taken 0x04#8 f inp).setStationCfg n c).baths.length := by rw [hba]; omega
  have hc : n ≤ ((s.taken 0x04#8 f inp).setStationCfg n c).cradles.length := by rw [hcr]; omega
  have hunknown := State.exhUnknown_changeRole (old := s.stationCfg n) hlo hb
  have henter := State.changeRole_enter (old := s.stationCfg n) hlo hb hc
  have hleave := State.changeRole_leave (old := s.stationCfg n) hlo hb
  have hkeep := State.changeRole_keep (old := s.stationCfg n) hlo hb
  have hpass := State.changeRole_pass (old := s.stationCfg n) hlo hb hc
  have hdeliveries := State.changeRole_deliveries (s := (s.taken 0x04#8 f inp).setStationCfg n c) (n := n) (old := s.stationCfg n)
  have hstation (m : Nat) (hm : m ≠ n) : t.stationCfg m = s.stationCfg m := by
    rw [ht.stationCfg, (State.setStationCfg_tables _ n c).2.2.2 m hm, State.taken_stationCfg]
  have hmine : t.stationCfg n = c := (ht.stationCfg n).trans hcfg
  rw [hcfg] at hclosed hunknown henter hleave hkeep hpass hdeliveries
  simp only [← hpin, hclock, hbath, hcradle, hclosure, hde, hpu] at hclosed hothers hunknown henter hleave hkeep hpass hdeliveries
  have hdefaulted := ht.defaulted
  have hframe := ht.frame
  have hlink : t.link = s.replying 0x04#8 f inp [0#8] := by rw [ht.eq]
  have hcond (fl : Flag) : t.cond n fl =
      (((s.taken 0x04#8 f inp).setStationCfg n c).changeRole n (s.stationCfg n)).cond n fl := by
    rw [State.cond, (htables n).1, State.cond]
  have hopen : c.role.holdsBath = true → (t.bath n).filtered = none → t.isOpen n = false := fun hn hf =>
    State.isOpen_of_no_filter (by rw [State.isBath, htrole]; exact hn) hf
  clear ht
  generalize ((s.taken 0x04#8 f inp).setStationCfg n c).changeRole n (s.stationCfg n) = w at *
  obtain ⟨htb, htc, htv, hth, htd, htp⟩ := htables n
  rw [hrole]
  simp only [← htb, ← htc, ← htv, ← htd, ← htp, ← hth, ← hcond] at hclosed hunknown henter hleave hkeep hpass hdeliveries
  refine ⟨t, hexec, hlink, hmine, fun m hm => ?_, ?_, fun hnew hold => ?_, fun hnew hold => ?_, ?_, fun hnew hold => ?_,
    fun hd ho => ?_, fun hd ho => ?_, hdefaulted, hframe⟩
  · obtain ⟨hbm, hcm, -, hhm, -⟩ := htables m
    obtain ⟨hbo, hco, hho⟩ := hothers m hm
    exact ⟨hstation m hm, hbm.trans hbo, hcm.trans hco, hhm.trans hho⟩
  · exact hclosed
  · obtain ⟨⟨l, hl⟩, hcr⟩ := henter hnew hold
    have hfil : (t.bath n).filtered = none := by rw [hl]
    exact ⟨hfil, by rw [hl], by rw [hl], by rw [hl]; rfl, by rw [hl], hopen hnew hfil, hcr⟩
  · exact hleave hnew hold
  · exact hdeliveries
  · refine ⟨?_, fun hsame => ?_, fun hne => hpass hne hnew hold⟩
    · by_cases hsame : c.role = (s.stationCfg n).role
      · exact (hkeep hsame hold).2.1
      · rw [(hpass hsame hnew hold).1]
    · obtain ⟨hcr, -, hlatch, hsamedepth, hnewdepth⟩ := hkeep hsame hold
      refine ⟨hcr, hlatch, ?_⟩
      split
      · next hd => simpa only [State.cond, hbath] using hsamedepth hd.symm
      · next hd => simpa only [State.cond, hbath] using hnewdepth (Ne.symm hd)
  · exact hunknown.1 hd ho
  · exact hunknown.2 hd ho

end Sys2Proof.Machine
end

section
/-! PROOFS. STATION SERVICE (1.7). -/

namespace Sys2Proof.Machine

section
variable {s : State} {p : List Byte} {f : Frame} {inp : Inputs} {n : Nat}

theorem Role.closable_iff (r : Role) : r.closable = true ↔ r = .develop ∨ r = .bath ∨ r = .unload := by
  cases r <;> simp [Role.closable]

theorem truthOfCode_toNat (b : Bool) : truthOfCode b.toNat = some b := by cases b <;> rfl

theorem truthOfCode_unlisted {n : Nat} (h : 2 ≤ n) : truthOfCode n = none := by
  obtain ⟨m, rfl⟩ : ∃ m, n = m + 2 := ⟨n - 2, by omega⟩
  rfl

theorem stationServiceOwner_free (hb : s.storeBusy = false) : stationServiceOwner p s =
    if !(s.role (u8 p 0)).closable then refuse .badValue s
    else
      match truthOfCode (u8 p 1) with
      | some closed => (s.setClosure (u8 p 0) closed, replyOk (bBool closed))
      | none => refuse .badValue s := by
  simp only [stationServiceOwner, hb]
  rfl

theorem stationServiceOwner_badValue (hb : s.storeBusy = false)
    (h : (s.role (u8 p 0)).closable = false ∨ 2 ≤ u8 p 1) : stationServiceOwner p s = (s, [3#8]) := by
  rw [stationServiceOwner_free hb]
  rcases h with h | h
  · rw [h]
    rfl
  · rw [truthOfCode_unlisted h]
    cases (s.role (u8 p 0)).closable <;> rfl

theorem stationServiceOwner_granted {closed : Bool} (hb : s.storeBusy = false) (h : (s.role (u8 p 0)).closable = true)
    (hp : u8 p 1 = closed.toNat) : stationServiceOwner p s = (s.setClosure (u8 p 0) closed, 0#8 :: bBool closed) := by
  rw [stationServiceOwner_free hb, h, hp, truthOfCode_toNat]
  rfl

@[simp] theorem State.taken_role {kind : Byte} (n : Nat) : (s.taken kind f inp).role n = s.role n := by
  rw [State.role, State.taken_configured, State.taken_stationCfg, State.role]

/-- A host closure keeps a station from being open and from being usable (R82). -/
theorem State.not_open_of_closed (h : s.hostClosed n = true) (hr : (s.role n).closable = true) :
    s.isOpen n = false ∧ s.isUsable n = false := by
  rw [State.isOpen, State.isUsable, h]
  cases hrole : s.role n with
  | develop | bath | unload => exact ⟨rfl, rfl⟩
  | unused | load => rw [hrole] at hr; cases hr

end

/-- Settles O33. -/
theorem stationServiceSetsTheClosure : Obligations.StationServiceSetsTheClosure := by
  unfold Obligations.StationServiceSetsTheClosure
  intro f inp s n a hh hp hfree hn ok hok
  rw [← Role.closable_iff] at hok
  have hlen : fixedLength 2 f.payload = true := by simp [fixedLength, hp]
  have hn0 : u8 f.payload 0 = n.toNat := by rw [hp]; rfl
  have ha1 : u8 f.payload 1 = a.toNat := by rw [hp]; rfl
  have hbusy : (s.taken 0x05#8 f inp).storeBusy = false := State.taken_storeBusy hfree
  refine ⟨fun hyes closed ha => ?_, fun hbad => ?_⟩
  · have hclosable := hok.mp hyes
    have howner := stationServiceOwner_granted (closed := closed) hbusy (p := f.payload) (by rw [hn0, State.taken_role, hclosable])
      (by rw [ha1, ha]; cases closed <;> rfl)
    obtain ⟨t, hexec, ht⟩ := exec_granted (c := .stationService f inp) rfl hh hlen howner rfl
    rw [hn0] at ht
    have hlo : 1 ≤ n.toNat := (State.configured_iff.mp (State.configured_of_role fun hu => by rw [hu] at hclosable; cases hclosable)).1
    have hrole : t.role n.toNat = s.role n.toNat := by
      rw [← State.taken_role (s := s) (kind := 0x05#8) (f := f) (inp := inp), ht]
      rfl
    have hcfg : (s.taken 0x05#8 f inp).cfg = s.cfg := State.taken_cfg ..
    have hclosures : t.cfg.closures = setStation s.cfg.closures n.toNat closed := by rw [ht, State.setClosure, hcfg]
    have hclosed : t.hostClosed n.toNat = closed := by
      rw [State.hostClosed, hclosures, atStation_setStation_same _ _ _ hlo hn]
    refine ⟨t, hexec, hclosed, fun m hm => ?_, fun hc => ?_, ?_⟩
    · rw [State.hostClosed, hclosures, atStation_setStation_other _ _ _ hm, State.hostClosed]
    · exact State.not_open_of_closed (hclosed.trans hc) (by rw [hrole, hclosable])
    · have hreply : (0#8 :: bBool closed : List Byte) = [0#8, a] := by rw [ha]; cases closed <;> rfl
      rw [ht, State.setClosure, hcfg, hreply]
  · refine exec_refused (c := .stationService f inp) rfl hh hlen (stationServiceOwner_badValue hbusy ?_)
    rw [hn0, ha1, State.taken_role]
    exact hbad.imp_left fun hno => Bool.eq_false_iff.mpr fun h => hno (hok.mpr h)

end Sys2Proof.Machine
end

section
/-! PROOFS. SET CURVE (2.2, 2.5). -/

namespace Sys2Proof.Machine

/-! ### The record (12.11) -/

@[simp] theorem pointBytes_length (ps : List Nat) : (pointBytes ps).length = 2 * ps.length := by
  simp [pointBytes, List.length_flatMap, Nat.mul_comm]

/-- Each point is read back at its place. -/
theorem u16_pointBytes (ps : List Nat) (hps : ∀ p ∈ ps, p ≤ 65535) (i : Nat) : u16 (pointBytes ps) (2 * i) = ps.getD i 0 := by
  induction ps generalizing i with
  | nil => simp [pointBytes, u16, u8]
  | cons q ps ih =>
    rw [pointBytes, List.flatMap_cons, ← pointBytes]
    cases i with
    | zero =>
      have hq := hps q (by simp)
      simp [hq]
    | succ i =>
      rw [u16_append_right _ _ (by simp), List.getD_cons_succ, ← ih (fun p hp => hps p (by simp [hp]))]
      congr 1

/-- A curve is read back from the payload that carries it. -/
theorem Curve.parse_bytes {n : Nat} {c : Curve} (hlen : c.points.length = 17) (htref : c.tref ≤ 65535)
    (hps : ∀ p ∈ c.points, p ≤ 65535) : Curve.parse (b1 n ++ curveBytes (some c)) = c := by
  have htref' : u16 (b1 n ++ curveBytes (some c)) 2 = c.tref := by
    simp only [curveBytes, List.append_assoc]
    simp [htref]
  have hpoint (i : Nat) : u16 (b1 n ++ curveBytes (some c)) (4 + 2 * i) = c.points.getD i 0 := by
    have hsplit : b1 n ++ curveBytes (some c) = (b1 n ++ b1 1 ++ b2 c.tref) ++ pointBytes c.points := by
      simp only [curveBytes, List.append_assoc]
    rw [hsplit, u16_append_right _ _ (by simp), ← u16_pointBytes _ hps]
    congr 1
    simp
  have hpoints : (List.range 17).map (fun i => c.points.getD i 0) = c.points := by
    refine List.ext_getElem (by simp [hlen]) fun i h1 h2 => ?_
    rw [List.getElem_map, List.getElem_range, List.getD_eq_getElem _ _ h2]
  simp only [Curve.parse, htref', hpoint, hpoints]

/-! ### The index of the point at fault (R27) -/

/-- The point of a curve is within its range and not below its predecessor. -/
def pointFits (ps : List Nat) (i : Nat) : Prop :=
  64 ≤ ps.getD i 0 ∧ ps.getD i 0 ≤ 8192 ∧ (i ≠ 0 → ps.getD (i - 1) 0 ≤ ps.getD i 0)

theorem badPoint_iff {ps : List Nat} {i : Nat} :
    badPoint ps = some i ↔ i < 17 ∧ ¬ pointFits ps i ∧ ∀ j, j < i → pointFits ps j := by
  have htest (j : Nat) : (!within 64 (ps.getD j 0) 8192 || (j != 0 && decide (ps.getD j 0 < ps.getD (j - 1) 0))) = false ↔
      pointFits ps j := by
    simp only [within, pointFits, Bool.or_eq_false_iff, Bool.not_eq_false', Bool.and_eq_true, Bool.and_eq_false_imp, bne_iff_ne,
      decide_eq_true_eq, decide_eq_false_iff_not, Nat.not_lt, and_assoc]
  have hfail (j : Nat) : (!within 64 (ps.getD j 0) 8192 || (j != 0 && decide (ps.getD j 0 < ps.getD (j - 1) 0))) = true ↔
      ¬ pointFits ps j := by rw [← htest, Bool.not_eq_false]
  rw [badPoint, List.find?_range_eq_some]
  simp only [List.mem_range, Bool.not_eq_true', htest, hfail, and_left_comm]

theorem badPoint_none {ps : List Nat} : badPoint ps = none ↔ ∀ j, j < 17 → pointFits ps j := by
  constructor
  · intro h j hj
    by_contra hbad
    obtain ⟨k, hk⟩ : ∃ k, badPoint ps = some k := by
      classical
      have hex : ∃ i, i < 17 ∧ ¬ pointFits ps i := ⟨j, hj, hbad⟩
      refine ⟨Nat.find hex, badPoint_iff.mpr ⟨(Nat.find_spec hex).1, (Nat.find_spec hex).2, fun i hi => ?_⟩⟩
      by_contra hnot
      exact Nat.find_min hex hi ⟨by have := (Nat.find_spec hex).1; omega, hnot⟩
    rw [h] at hk
    cases hk
  · intro h
    cases hb : badPoint ps with
    | none => rfl
    | some i =>
      obtain ⟨hi, hbad, -⟩ := badPoint_iff.mp hb
      exact absurd (h i hi) hbad

/-- A curve that does not fall and stays within its range has no point at fault. -/
theorem badPoint_of_sorted {ps : List Nat} (hlen : ps.length = 17) (hs : ps.Pairwise (· ≤ ·))
    (hr : ∀ p ∈ ps, 64 ≤ p ∧ p ≤ 8192) : badPoint ps = none := by
  refine badPoint_none.mpr fun j hj => ?_
  rw [pointFits, List.getD_eq_getElem _ _ (by omega : j < ps.length), List.getD_eq_getElem _ _ (by omega : j - 1 < ps.length)]
  obtain ⟨hlo, hhi⟩ := hr ps[j] (List.getElem_mem _)
  exact ⟨hlo, hhi, fun h0 => List.pairwise_iff_getElem.mp hs _ _ _ _ (by omega)⟩

theorem Curve.fault_tref {c : Curve} (h : 600 < c.tref) : c.fault = some 17 := by
  have hbad : within 0 c.tref 600 = false := by simp [within]; omega
  rw [Curve.fault, hbad]
  rfl

theorem Curve.fault_of_tref {c : Curve} (h : c.tref ≤ 600) : c.fault =
    match badPoint c.points with
    | some i => some i
    | none => if c.points.getD 8 0 = 1024 then none else some 8 := by
  have hgood : within 0 c.tref 600 = true := by simp [within, h]
  rw [Curve.fault, hgood]
  rfl

/-! ### The request -/

section
variable {s : State} {p : List Byte} {f : Frame} {inp : Inputs}

theorem setCurveOwner_free (hb : s.storeBusy = false) (hl : s.pins.lock = false) : setCurveOwner p s =
    match (if u8 p 0 ≤ 3 then truthOfCode (u8 p 1) else none) with
    | none => curveBad 17 s
    | some defined =>
      if s.curveInUse (u8 p 0) then refuse .inUse s
      else if defined then
        match (Curve.parse p).fault with
        | some i => curveBad i s
        | none => (s.putCurve (u8 p 0) (some (Curve.parse p)), resultByte .ok)
      else if s.curveNamed (u8 p 0) then refuse .inUse s
      else (s.putCurve (u8 p 0) none, resultByte .ok) := by
  simp only [setCurveOwner, hb, hl]
  rfl

theorem setCurveOwner_unlisted (hb : s.storeBusy = false) (hl : s.pins.lock = false) (h : 4 ≤ u8 p 0 ∨ 2 ≤ u8 p 1) :
    setCurveOwner p s = (s, [3#8, 17#8]) := by
  have hnone : (if u8 p 0 ≤ 3 then truthOfCode (u8 p 1) else none) = none := by
    split
    · exact truthOfCode_unlisted (by omega)
    · rfl
  rw [setCurveOwner_free hb hl, hnone]
  rfl

section
variable {d : Bool} (hb : s.storeBusy = false) (hl : s.pins.lock = false) (hn : u8 p 0 ≤ 3) (hd : u8 p 1 = d.toNat)
include hb hl hn hd

theorem setCurveOwner_listed : setCurveOwner p s =
    if s.curveInUse (u8 p 0) then refuse .inUse s
    else if d then
      match (Curve.parse p).fault with
      | some i => curveBad i s
      | none => (s.putCurve (u8 p 0) (some (Curve.parse p)), resultByte .ok)
    else if s.curveNamed (u8 p 0) then refuse .inUse s
    else (s.putCurve (u8 p 0) none, resultByte .ok) := by
  rw [setCurveOwner_free hb hl, if_pos hn, hd, truthOfCode_toNat]

theorem setCurveOwner_inUse (h : s.curveInUse (u8 p 0) = true ∨ (d = false ∧ s.curveNamed (u8 p 0) = true)) :
    setCurveOwner p s = (s, [7#8]) := by
  rw [setCurveOwner_listed hb hl hn hd]
  rcases h with h | ⟨rfl, h⟩
  · rw [if_pos h]
    rfl
  · rw [if_neg (by decide : ¬ false = true), if_pos h]
    split <;> rfl

end

section
variable (hb : s.storeBusy = false) (hl : s.pins.lock = false) (hn : u8 p 0 ≤ 3) (hfree : s.curveInUse (u8 p 0) = false)
include hb hl hn hfree

theorem setCurveOwner_fault (hd : u8 p 1 = 1) {i : Nat} (h : (Curve.parse p).fault = some i) :
    setCurveOwner p s = (s, 3#8 :: b1 i) := by
  rw [setCurveOwner_listed (d := true) hb hl hn hd, hfree, h]
  rfl

theorem setCurveOwner_granted (hd : u8 p 1 = 1) (h : (Curve.parse p).fault = none) :
    setCurveOwner p s = (s.putCurve (u8 p 0) (some (Curve.parse p)), [0#8]) := by
  rw [setCurveOwner_listed (d := true) hb hl hn hd, hfree, h]
  rfl

theorem setCurveOwner_deleted (hd : u8 p 1 = 0) (h : s.curveNamed (u8 p 0) = false) :
    setCurveOwner p s = (s.putCurve (u8 p 0) none, [0#8]) := by
  rw [setCurveOwner_listed (d := false) hb hl hn hd, hfree, h]
  rfl

end

theorem State.curveInUse_iff {n : Nat} : s.curveInUse n = true ↔
    ∃ k r i st, k < 24 ∧ s.rack k = some r ∧ r.recipe = some i ∧ i ≤ 7 ∧ st ∈ s.recipe i ∧ st.kind = .develop ∧ st.curve = n := by
  simp only [State.curveInUse, State.recipeInUse, namesCurve, List.any_eq_true, List.mem_range, Bool.and_eq_true, beq_iff_eq,
    Prod.exists, State.mem_racks]
  constructor
  · rintro ⟨i, hi, ⟨k, r, ⟨hk, hr⟩, hrec⟩, st, hst, hkind, hcurve⟩
    exact ⟨k, r, i, st, hk, hr, hrec, by omega, hst, hkind, hcurve⟩
  · rintro ⟨k, r, i, st, hk, hr, hrec, hi, hst, hkind, hcurve⟩
    exact ⟨i, by omega, ⟨k, r, ⟨hk, hr⟩, hrec⟩, st, hst, hkind, hcurve⟩

theorem State.curveNamed_iff {n : Nat} : s.curveNamed n = true ↔
    ∃ steps ∈ s.cfg.recipes, ∃ st ∈ steps, st.kind = .develop ∧ st.curve = n := by
  simp only [State.curveNamed, namesCurve, List.any_eq_true, Bool.and_eq_true, beq_iff_eq]

theorem State.taken_curves {kind : Byte} (n : Nat) : (s.taken kind f inp).curveInUse n = s.curveInUse n ∧
    (s.taken kind f inp).curveNamed n = s.curveNamed n := by
  rw [State.taken, State.accept_eq]
  exact ⟨rfl, rfl⟩

end

/-- Settles O34. -/
theorem setCurveReplacesTheRecord : Obligations.SetCurveReplacesTheRecord := by
  unfold Obligations.SetCurveReplacesTheRecord
  intro f inp s hh hcurves hfree hlock refused hrefused
  have hbusy : (s.taken 0x06#8 f inp).storeBusy = false := State.taken_storeBusy hfree
  have hpins : (s.taken 0x06#8 f inp).pins.lock = false := by rwa [State.taken_pins]
  have hcfg : (s.taken 0x06#8 f inp).cfg = s.cfg := State.taken_cfg ..
  have refuse_of {payload : List Byte} (hlen : f.payload.length = 38)
      (ho : setCurveOwner f.payload (s.taken 0x06#8 f inp) = (s.taken 0x06#8 f inp, payload)) : refused payload :=
    (hrefused _).mpr (exec_refused (c := .setCurve f inp) rfl hh (by simp [fixedLength, hlen]) ho)
  refine ⟨fun n d rest hp hlen hbad => ?_, fun n hn used hused => ?_⟩
  · have h0 : u8 f.payload 0 = n.toNat := by rw [hp]; rfl
    have h1 : u8 f.payload 1 = d.toNat := by rw [hp]; rfl
    exact refuse_of (by simp [hp, hlen]) (setCurveOwner_unlisted hbusy hpins (by rwa [h0, h1]))
  rw [← State.curveInUse_iff] at hused
  refine ⟨fun c hp hpoints htref hps => ?_, fun rest hp hrest => ?_⟩
  · have hlen : f.payload.length = 38 := by simp [hp, curveBytes, hpoints]
    have h0 : u8 f.payload 0 = n := by rw [hp]; simp; omega
    have h1 : u8 f.payload 1 = 1 := by rw [hp]; simp [curveBytes]
    have hparse : Curve.parse f.payload = c := by rw [hp]; exact Curve.parse_bytes hpoints htref hps
    have fault_of {i : Nat} (hnot : ¬ used) (hf : c.fault = some i) : refused (3#8 :: b1 i) :=
      refuse_of hlen (setCurveOwner_fault hbusy hpins (by omega)
        (by rw [h0, (State.taken_curves n).1]; exact Bool.eq_false_iff.mpr fun h => hnot (hused.mpr h)) h1 (by rw [hparse, hf]))
    refine ⟨fun hyes => ?_, fun hnot hbig => fault_of hnot (Curve.fault_tref hbig), fun hnot hsmall hsorted hrange => ?_,
      fun hnot hsmall i hi hbefore hbad => ?_⟩
    · exact refuse_of hlen (setCurveOwner_inUse (d := true) hbusy hpins (by omega) h1
        (.inl (by rw [h0, (State.taken_curves n).1]; exact hused.mp hyes)))
    · have hfault := Curve.fault_of_tref hsmall
      rw [badPoint_of_sorted hpoints hsorted hrange] at hfault
      split
      · next hk =>
        rw [if_pos hk] at hfault
        have howner := setCurveOwner_granted hbusy hpins (p := f.payload) (by omega)
          (by rw [h0, (State.taken_curves n).1]; exact Bool.eq_false_iff.mpr fun h => hnot (hused.mpr h)) h1 (by rw [hparse, hfault])
        obtain ⟨t, hexec, ht⟩ := exec_granted (c := .setCurve f inp) rfl hh (by simp [fixedLength, hlen]) howner rfl
        rw [h0, hparse, State.putCurve, hcfg] at ht
        have hset : t.cfg.curves = s.cfg.curves.set n (some c) := by rw [ht]
        refine ⟨t, hexec, ?_, fun m hm => ?_, ?_⟩
        · rw [State.curve, hset, List.getD_eq_getElem?_getD, List.getElem?_set_self (by omega)]
          rfl
        · rw [State.curve, hset, List.getD_eq_getElem?_getD, List.getElem?_set_ne hm.symm, ← List.getD_eq_getElem?_getD, ← State.curve]
        · rw [ht]
      · next hk =>
        rw [if_neg hk] at hfault
        exact fault_of hnot hfault
    · refine fault_of hnot ?_
      have hpoint : badPoint c.points = some i := badPoint_iff.mpr ⟨hi, fun ⟨hlo, hhi, hprev⟩ => ?_, hbefore⟩
      · rw [Curve.fault_of_tref hsmall, hpoint]
      · rcases hbad with h | h | ⟨h0, h⟩
        · omega
        · omega
        · have := hprev h0
          omega
  · have hlen : f.payload.length = 38 := by simp [hp, hrest]
    have h0 : u8 f.payload 0 = n := by rw [hp]; simp; omega
    have h1 : u8 f.payload 1 = 0 := by rw [hp]; simp; rfl
    refine ⟨fun hyes => ?_, fun hnot hnames => ?_⟩
    · refine refuse_of hlen (setCurveOwner_inUse (d := false) hbusy hpins (by omega) h1 ?_)
      rw [h0, (State.taken_curves n).1, (State.taken_curves n).2]
      exact hyes.imp hused.mp fun h => ⟨rfl, State.curveNamed_iff.mpr h⟩
    · have howner := setCurveOwner_deleted hbusy hpins (p := f.payload) (by omega)
        (by rw [h0, (State.taken_curves n).1]; exact Bool.eq_false_iff.mpr fun h => hnot (hused.mpr h)) h1 (by
          rw [h0, (State.taken_curves n).2, Bool.eq_false_iff, Ne, State.curveNamed_iff]
          rintro ⟨steps, hsteps, st, hst, hkind, hcurve⟩
          exact hnames steps hsteps st hst hkind hcurve)
      obtain ⟨t, hexec, ht⟩ := exec_granted (c := .setCurve f inp) rfl hh (by simp [fixedLength, hlen]) howner rfl
      rw [h0, State.putCurve, hcfg] at ht
      refine ⟨t, hexec, ?_, ht⟩
      rw [State.curve, ht]
      simp only [List.getD_eq_getElem?_getD]
      rw [List.getElem?_set_self (by omega)]
      rfl

end Sys2Proof.Machine
end

section
/-! PROOFS. Dunk times (7.2), SET PATTERN (2.3) and SET ROUTE (11.4). -/

namespace Sys2Proof.Machine

/-! ### Dunk times (R114) -/

section
variable {c : Pattern} {i t : Nat}

/-- The dunk time the model computes is the earliest one later than a second not before the immersion. -/
theorem nextDunk_nextDunkTime (h : i ≤ t) (hint : 1 ≤ c.initialInterval) (hper : 1 ≤ c.period) :
    c.nextDunk i t (nextDunkTime c i t) := by
  have hstep (a b : Nat) (hb : 1 ≤ b) : a / b * b ≤ a ∧ a < (a / b + 1) * b :=
    ⟨Nat.div_mul_le_self a b, by rw [Nat.mul_comm]; exact Nat.lt_mul_div_succ a hb⟩
  have hmul {a b k : Nat} (hlt : a * k < b * k) : a < b := Nat.lt_of_mul_lt_mul_right hlt
  unfold nextDunkTime
  simp only
  by_cases hinit : t < i + c.initialCount * c.initialInterval
  · obtain ⟨hlo, hhi⟩ := hstep (t - i) c.initialInterval hint
    have hcount : (t - i) / c.initialInterval < c.initialCount := hmul (k := c.initialInterval) (by omega)
    have hcap := Nat.mul_le_mul_right c.initialInterval (Nat.succ_le_of_lt hcount)
    rw [if_pos hinit]
    refine ⟨.inl ⟨_, Nat.succ_pos _, hcount, rfl⟩, by omega, fun y hy hty => ?_⟩
    rcases hy with ⟨m, -, -, rfl⟩ | ⟨m, -, rfl⟩
    · have hm : (t - i) / c.initialInterval < m := hmul (k := c.initialInterval) (by omega)
      have := Nat.mul_le_mul_right c.initialInterval (Nat.succ_le_of_lt hm)
      simp only [Nat.succ_eq_add_one] at this
      omega
    · simp only [Nat.succ_eq_add_one] at hcap
      omega
  · obtain ⟨hlo, hhi⟩ := hstep (t - (i + c.initialCount * c.initialInterval)) c.period hper
    rw [if_neg hinit]
    refine ⟨.inr ⟨_, Nat.succ_pos _, rfl⟩, by omega, fun y hy hty => ?_⟩
    rcases hy with ⟨m, -, hm, rfl⟩ | ⟨m, -, rfl⟩
    · have := Nat.mul_le_mul_right c.initialInterval hm
      omega
    · have hm : (t - (i + c.initialCount * c.initialInterval)) / c.period < m := hmul (k := c.period) (by omega)
      have := Nat.mul_le_mul_right c.period (Nat.succ_le_of_lt hm)
      simp only [Nat.succ_eq_add_one] at this
      omega

theorem fixDunk_of_no_dunks (h : c.mode = .none ∨ c.mode = .gas) : fixDunk c i t = none := by
  rw [fixDunk]
  rcases h with h | h <;> rw [h] <;> rfl

/-- The fixed dunk of a pattern in range is the one R114 names. -/
theorem fixDunk_fixes (h : i ≤ t) (hc : c.inRange = true) : c.fixes i t (fixDunk c i t) := by
  have hrange : 1 ≤ c.initialInterval ∧ 1 ≤ c.period := by
    simp only [Pattern.inRange, within, Bool.and_eq_true, decide_eq_true_eq] at hc
    omega
  have hnext := nextDunk_nextDunkTime h hrange.1 hrange.2
  refine ⟨fixDunk_of_no_dunks, fun hm hlate => ?_, fun hm hearly => ⟨_, hnext, ?_⟩⟩
  · have hx : ¬ t < min (nextDunkTime c i t) Config.maxSecond := by
      have : Config.maxSecond = 4294967295 := rfl
      omega
    rw [fixDunk, if_neg (by simp [hx])]
  · have hd : c.mode.dunks = true := by rcases hm with hm | hm <;> rw [hm] <;> rfl
    have hx : t < min (nextDunkTime c i t) Config.maxSecond := by
      have hmax : Config.maxSecond = 4294967295 := rfl
      have := hnext.2.1
      omega
    rw [fixDunk, if_pos (by simp [hd, hx])]
    rfl

end

/-! ### SET PATTERN (R28, R29) -/

theorem PatternMode.ofCode_code (m : PatternMode) : PatternMode.ofCode (min m.code 255) = some m := by cases m <;> rfl

theorem PatternMode.ofCode_unlisted {n : Nat} (h : 4 ≤ n) : PatternMode.ofCode n = Option.none := by
  obtain ⟨m, rfl⟩ : ∃ m, n = m + 4 := ⟨n - 4, by omega⟩
  rfl

/-- The pattern's fields lie within what their bytes hold. -/
def Pattern.fits (c : Pattern) : Prop :=
  c.initialCount ≤ 255 ∧ c.initialInterval ≤ 255 ∧ c.period ≤ 65535 ∧ c.outTime ≤ 255 ∧ c.quiet ≤ 255 ∧ c.everyN ≤ 255

theorem Pattern.parse_bytes {n : Nat} {c : Pattern} (hc : c.fits) : Pattern.parse (b1 n ++ c.bytes) = some c := by
  obtain ⟨hcount, hinterval, hperiod, hout, hquiet, hevery⟩ := hc
  simp only [Pattern.bytes, List.append_assoc, Pattern.parse]
  simp [PatternMode.ofCode_code, hcount, hinterval, hperiod, hout, hquiet, hevery]

theorem Pattern.inRange_iff (c : Pattern) : c.inRange = true ↔
    c.initialCount ≤ 10 ∧ 5 ≤ c.initialInterval ∧ c.initialInterval ≤ 60 ∧ 10 ≤ c.period ∧ c.period ≤ 600 ∧ 2 ≤ c.outTime ∧
    c.outTime ≤ 20 ∧ c.quiet ≤ 60 ∧ 1 ≤ c.everyN ∧ c.everyN ≤ 30 ∧ c.outTime < c.period ∧
    (c.initialCount = 0 ∨ c.outTime < c.initialInterval) := by
  simp [Pattern.inRange, within, and_assoc]

section
variable {s : State} {p : List Byte} {f : Frame} {inp : Inputs} {c : Pattern}

theorem setPatternOwner_free (hb : s.storeBusy = false) : setPatternOwner p s =
    if 7 < u8 p 0 then refuse .badValue s
    else
      match Pattern.parse p with
      | some c => if c.inRange then ((s.putPattern (u8 p 0) c).refixPattern (u8 p 0), resultByte .ok) else refuse .badValue s
      | none => refuse .badValue s := by
  simp only [setPatternOwner, hb]
  rfl

theorem setPatternOwner_unlisted (hb : s.storeBusy = false) (h : 4 ≤ u8 p 1) : setPatternOwner p s = (s, [3#8]) := by
  rw [setPatternOwner_free hb, Pattern.parse, PatternMode.ofCode_unlisted h]
  split <;> rfl

theorem setPatternOwner_badValue (hb : s.storeBusy = false) (hp : Pattern.parse p = some c)
    (h : ¬ (u8 p 0 ≤ 7 ∧ c.inRange = true)) : setPatternOwner p s = (s, [3#8]) := by
  rw [setPatternOwner_free hb, hp]
  split
  · rfl
  · simp only [if_neg fun hc => h ⟨by omega, hc⟩]
    rfl

theorem setPatternOwner_granted (hb : s.storeBusy = false) (hp : Pattern.parse p = some c) (hn : u8 p 0 ≤ 7)
    (hc : c.inRange = true) : setPatternOwner p s = ((s.putPattern (u8 p 0) c).refixPattern (u8 p 0), [0#8]) := by
  rw [setPatternOwner_free hb, if_neg (by omega), hp]
  simp only [hc]
  rfl

/-- A rack's pattern does not change with the patterns' records. -/
theorem State.putPattern_named (n : Nat) (c : Pattern) (k : Nat) :
    (((s.taken 0x08#8 f inp).putPattern n c).rack k).bind ((s.taken 0x08#8 f inp).putPattern n c).patternOf =
      (s.rack k).bind s.patternOf := by
  rw [State.taken, State.accept_eq]
  rfl

/-- What SET PATTERN makes of one plan. -/
theorem State.refixPattern_plans (s : State) (k : Nat) (i : Nat) : (s.refixPattern k).plans[i]? =
    s.plans[i]?.map fun p =>
      if p.dunk.isNone && (s.rack p.slot).bind s.patternOf == some k then s.refix s.clock p else p := by
  rw [State.refixPattern, State.mapPlans, List.getElem?_map]

theorem State.refix_of_pattern {t k : Nat} {q : DunkPlan} (h : (s.rack q.slot).bind s.patternOf = some k) :
    s.refix t q = { q with dunk := fixDunk (s.pattern k) q.immersion t } := by
  rw [State.refix, h]

end

/-! ### SET ROUTE (R170) -/

theorem Source.ofCode_code (c : Source) : Source.ofCode (min c.code 255) = some c := by cases c <;> rfl

theorem Source.ofCode_unlisted {n : Nat} (h : 11 ≤ n) : Source.ofCode n = none := by
  obtain ⟨m, rfl⟩ : ∃ m, n = m + 11 := ⟨n - 11, by omega⟩
  rfl

/-- The route with an argument its source does not take held as 0 (R170). -/
def Route.stored (r : Route) : Route :=
  { r with arg := if r.source = .stationClosed ∨ r.source = .groupOpen then r.arg else 0 }

theorem Source.takesArg_iff (c : Source) : c.takesArg = true ↔ c = .stationClosed ∨ c = .groupOpen := by
  cases c <;> simp [Source.takesArg]

theorem Route.parse_bytes {n : Nat} {r : Route} (h : r.arg ≤ 255) : Route.parse (b1 n ++ r.bytes) = some r.stored := by
  simp only [Route.bytes, List.append_assoc, Route.parse]
  simp [Source.ofCode_code, truthOfCode_toNat, h, Route.stored, ← Source.takesArg_iff]

theorem Route.parse_unlisted {p : List Byte} (h : 11 ≤ u8 p 1 ∨ 2 ≤ u8 p 3) : Route.parse p = none := by
  rw [Route.parse]
  rcases h with h | h
  · rw [Source.ofCode_unlisted h]
  · rw [truthOfCode_unlisted h]
    cases Source.ofCode (u8 p 1) <;> rfl

section
variable {s : State} {p : List Byte} {f : Frame} {inp : Inputs} {r : Route} {n : Nat}

/-- A route stands for an output. -/
def State.putRoute (s : State) (n : Nat) (r : Route) : State :=
  { s with cfg := { s.cfg with routes := s.cfg.routes.set (n - 1) r } }

theorem setRouteOwner_free (hb : s.storeBusy = false) : setRouteOwner p s =
    if !within 1 (u8 p 0) 8 then refuse .badValue s
    else
      match Route.parse p with
      | some r =>
        if s.routeArgOk r then
          (s.putRoute (u8 p 0) r, replyOk (b1 (u8 p 0) ++ bBool ((s.putRoute (u8 p 0) r).indicatorLevel r)))
        else refuse .badValue s
      | none => refuse .badValue s := by
  simp only [setRouteOwner, hb]
  rfl

theorem setRouteOwner_badValue (hb : s.storeBusy = false)
    (h : Route.parse p = none ∨ ∃ r, Route.parse p = some r ∧ ¬ (1 ≤ u8 p 0 ∧ u8 p 0 ≤ 8 ∧ s.routeArgOk r = true)) :
    setRouteOwner p s = (s, [3#8]) := by
  rw [setRouteOwner_free hb]
  rcases h with h | ⟨r, hp, h⟩
  · rw [h]
    split <;> rfl
  · rw [hp]
    by_cases hn : within 1 (u8 p 0) 8 = true
    · have harg : s.routeArgOk r = false := by
        simp only [within, Bool.and_eq_true, decide_eq_true_eq] at hn
        exact Bool.eq_false_iff.mpr fun ha => h ⟨hn.1, hn.2, ha⟩
      simp only [hn, harg]
      rfl
    · rw [Bool.not_eq_true] at hn
      rw [hn]
      rfl

theorem setRouteOwner_granted (hb : s.storeBusy = false) (hp : Route.parse p = some r) (hlo : 1 ≤ u8 p 0) (hhi : u8 p 0 ≤ 8)
    (hr : s.routeArgOk r = true) : setRouteOwner p s =
      (s.putRoute (u8 p 0) r, 0#8 :: b1 (u8 p 0) ++ bBool ((s.putRoute (u8 p 0) r).indicatorLevel r)) := by
  have hn : within 1 (u8 p 0) 8 = true := by simp [within, hlo, hhi]
  rw [setRouteOwner_free hb, hp, hn]
  simp only [hr]
  rfl

theorem State.routeArgOk_iff : s.routeArgOk r.stored = true ↔
    (r.source = .stationClosed → 1 ≤ r.arg ∧ r.arg ≤ s.cfg.line.count) ∧
    (r.source = .groupOpen → 1 ≤ r.arg ∧ r.arg ≤ 15 ∧ s.groupStations r.arg ≠ []) := by
  unfold State.routeArgOk Route.stored
  cases hs : r.source with
  | stationClosed => simp [State.configured_iff]
  | groupOpen => simp [within, and_assoc]
  | off | on | lineReady | alert | linkLost | anyLatch | unloadWaiting | carriageFault | pumpFault => simp

theorem State.taken_routeArgOk {kind : Byte} : (s.taken kind f inp).routeArgOk r = s.routeArgOk r := by
  rw [State.taken, State.accept_eq]
  rfl

/-- An indicator output stands at the level of its route. -/
theorem State.indicator_of_route {u : State} {kind : Byte} {payload : List Byte} (hrun : u.run = .running)
    (hr : u.cfg.routes[n]? = some r) :
    ((u.answer kind f payload).drive).out.indicators.getD n false = u.indicatorLevel r := by
  have hlevel : (u.answer kind f payload).indicatorLevel r = u.indicatorLevel r := rfl
  rw [State.drive_running (s := u.answer kind f payload) hrun]
  show ((u.cfg.routes.map (u.answer kind f payload).indicatorLevel).getD n false) = _
  rw [List.getD_eq_getElem?_getD, List.getElem?_map, hr, ← hlevel]
  rfl

end

/-- Settles O36. -/
theorem setPatternAndSetRouteReplaceTheRecord : Obligations.SetPatternAndSetRouteReplaceTheRecord := by
  unfold Obligations.SetPatternAndSetRouteReplaceTheRecord
  intro f inp s hfree
  refine ⟨fun hh hpatterns => ⟨fun n m rest hp hlen hm => ?_, fun n c hn hp hcount hinterval hperiod hout hquiet hevery => ?_⟩,
    fun hh hroutes => ⟨fun n src arg pol hp hbad => ?_, fun n r hn hp harg => ?_⟩⟩
  · exact exec_refused (c := .setPattern f inp) rfl hh (by simp [fixedLength, hp, hlen])
      (setPatternOwner_unlisted (State.taken_storeBusy hfree) (by rw [hp]; exact hm))
  · have hbusy : (s.taken 0x08#8 f inp).storeBusy = false := State.taken_storeBusy hfree
    have hcfg : (s.taken 0x08#8 f inp).cfg = s.cfg := State.taken_cfg ..
    have hplans : (s.taken 0x08#8 f inp).plans = s.plans := by rw [State.taken, State.accept_eq]; rfl
    have h0 : u8 f.payload 0 = n := by rw [hp]; simp; omega
    have hlen : fixedLength 9 f.payload = true := by rw [hp]; simp [fixedLength, Pattern.bytes]
    have hparse : Pattern.parse f.payload = some c := by
      rw [hp]; exact Pattern.parse_bytes ⟨hcount, hinterval, hperiod, hout, hquiet, hevery⟩
    split
    · next hgood =>
      rw [← Pattern.inRange_iff] at hgood
      obtain ⟨hseven, hrange⟩ := hgood
      have howner := setPatternOwner_granted hbusy hparse (by omega) hrange
      obtain ⟨t, hexec, ht⟩ := exec_granted (c := .setPattern f inp) rfl hh hlen howner rfl
      rw [h0] at ht
      have hset : t.cfg.patterns = s.cfg.patterns.set n c := by
        rw [ht, State.refixPattern, State.mapPlans, State.putPattern, hcfg]
      have hnew : ((s.taken 0x08#8 f inp).putPattern n c).pattern n = c := by
        rw [State.putPattern, hcfg, State.pattern, List.getD_eq_getElem?_getD, List.getElem?_set_self (by omega)]
        rfl
      have hplan (i : Nat) : t.plans[i]? = s.plans[i]?.map fun q =>
          if q.dunk.isNone && (s.rack q.slot).bind s.patternOf == some n then
            ((s.taken 0x08#8 f inp).putPattern n c).refix s.clock q else q := by
        have hstep := ((s.taken 0x08#8 f inp).putPattern n c).refixPattern_plans n i
        simp only [State.putPattern_named] at hstep
        rw [ht]
        refine hstep.trans ?_
        show (s.taken 0x08#8 f inp).plans[i]?.map _ = _
        rw [hplans]
        congr 1
        rw [show ((s.taken 0x08#8 f inp).putPattern n c).clock = s.clock from State.taken_clock ..]
      refine ⟨t, hexec, ?_, fun m hm => ?_, ?_, fun i q hq named hnamed => ⟨fun h => ?_, fun hnone hyes himm => ?_⟩, ?_⟩
      · rw [State.pattern, hset, List.getD_eq_getElem?_getD, List.getElem?_set_self (by omega)]
        rfl
      · rw [State.pattern, hset, List.getD_eq_getElem?_getD, List.getElem?_set_ne hm.symm, ← List.getD_eq_getElem?_getD,
          ← State.pattern]
      · rw [ht, ← hplans]
        exact List.length_map ..
      · rw [← Option.bind_eq_some_iff] at hnamed
        have hcond : (q.dunk.isNone && (s.rack q.slot).bind s.patternOf == some n) = false := by
          rw [Bool.and_eq_false_imp, beq_eq_false_iff_ne]
          intro hnone heq
          rcases h with h | h
          · exact h (Option.isNone_iff_eq_none.mp hnone)
          · exact h (hnamed.mpr heq)
        rw [hplan, hq, Option.map_some, hcond]
        rfl
      · rw [← Option.bind_eq_some_iff] at hnamed
        have hpat := hnamed.mp hyes
        have hrefix : ((s.taken 0x08#8 f inp).putPattern n c).refix s.clock q =
            { q with dunk := fixDunk c q.immersion s.clock } := by
          rw [State.refix_of_pattern ((State.putPattern_named n c q.slot).trans hpat), hnew]
        refine ⟨{ q with dunk := fixDunk c q.immersion s.clock }, ?_, rfl, fixDunk_fixes himm hrange⟩
        rw [hplan, hq, Option.map_some, hnone, hpat, hrefix]
        simp
      · rw [ht, State.refixPattern, State.mapPlans, State.putPattern, hcfg]
    · next hbad =>
      rw [← Pattern.inRange_iff] at hbad
      exact exec_refused (c := .setPattern f inp) rfl hh hlen (setPatternOwner_badValue hbusy hparse (by rwa [h0]))
  · exact exec_refused (c := .setRoute f inp) rfl hh (by simp [fixedLength, hp])
      (setRouteOwner_badValue (State.taken_storeBusy hfree) (.inl (Route.parse_unlisted (by rw [hp]; exact hbad))))
  · have hbusy : (s.taken 0x1B#8 f inp).storeBusy = false := State.taken_storeBusy hfree
    have hcfg : (s.taken 0x1B#8 f inp).cfg = s.cfg := State.taken_cfg ..
    have h0 : u8 f.payload 0 = n := by rw [hp]; simp; omega
    have hlen : fixedLength 4 f.payload = true := by rw [hp]; simp [fixedLength, Route.bytes]
    have hparse : Route.parse f.payload = some r.stored := by rw [hp]; exact Route.parse_bytes harg
    split
    · next hgood =>
      rw [← State.routeArgOk_iff] at hgood
      obtain ⟨hlo, hhi, hok⟩ := hgood
      have howner := setRouteOwner_granted hbusy hparse (by omega) (by omega) (by rwa [State.taken_routeArgOk])
      have hexec := exec_owner (c := .setRoute f inp) rfl hh hlen
      rw [show (catalogue 0x1B#8).2 f.payload (s.taken 0x1B#8 f inp) = _ from howner, h0] at hexec
      have hroute : ((s.taken 0x1B#8 f inp).putRoute n r.stored).cfg.routes[n - 1]? = some r.stored := by
        rw [State.putRoute, hcfg]
        exact List.getElem?_set_self (by omega)
      have hrun : ((s.taken 0x1B#8 f inp).putRoute n r.stored).run = .running := by
        rw [State.putRoute, State.taken, State.accept_eq]
        exact hh.1
      have hlevel (payload : List Byte) := State.indicator_of_route (kind := 0x1B#8) (f := f) (payload := payload) hrun hroute
      generalize hpay : (0#8 :: b1 n ++ bBool (((s.taken 0x1B#8 f inp).putRoute n r.stored).indicatorLevel r.stored) : List Byte) = payload at hexec
      have ht := State.drive_answer_eq (s := s) (inp := inp) (kind := 0x1B#8) (f := f)
        (u := (s.taken 0x1B#8 f inp).putRoute n r.stored) rfl payload
      rw [← hlevel payload] at hpay
      generalize (((s.taken 0x1B#8 f inp).putRoute n r.stored).answer 0x1B#8 f payload).drive = t at hexec ht hpay
      refine ⟨t, hexec, ?_, ?_⟩
      · rw [ht, State.putRoute, hcfg]
        rfl
      · rw [hpay]
        conv_lhs => rw [ht]
        rw [ht, State.putRoute, hcfg]
    · next hbad =>
      rw [← State.routeArgOk_iff] at hbad
      refine exec_refused (c := .setRoute f inp) rfl hh hlen (setRouteOwner_badValue hbusy (.inr ⟨_, hparse, ?_⟩))
      rwa [h0, State.taken_routeArgOk]

end Sys2Proof.Machine
end

section
/-! PROOFS. SET BURSTS (7.5): the entries read back from their bytes, the staged map, the apply. -/

namespace Sys2Proof.Machine

/-! ### Records of one length in a row -/

/-- A byte of the record at place `j` among records of `k` bytes. -/
theorem u8_flatMap {α : Type} {g : α → List Byte} {k : Nat} (hg : ∀ x, (g x).length = k) (l : List α) (after : List Byte)
    {j i : Nat} {x : α} (hj : l[j]? = some x) (hi : i < k) : u8 (l.flatMap g ++ after) (k * j + i) = u8 (g x) i := by
  induction l generalizing j with
  | nil => cases hj
  | cons y l ih =>
    rw [List.flatMap_cons, List.append_assoc]
    cases j with
    | zero =>
      obtain rfl : y = x := by simpa using hj
      rw [Nat.mul_zero, Nat.zero_add, u8_append_left _ _ (by rw [hg]; exact hi)]
    | succ j =>
      have hlen : (g y).length ≤ k * (j + 1) + i := by rw [hg, Nat.mul_succ]; omega
      rw [u8_append_right _ _ hlen, hg, show k * (j + 1) + i - k = k * j + i by rw [Nat.mul_succ]; omega]
      exact ih (by simpa using hj)

theorem length_flatMap_of {α : Type} {g : α → List Byte} {k : Nat} (hg : ∀ x, (g x).length = k) (l : List α) :
    (l.flatMap g).length = k * l.length := by
  simp [List.length_flatMap, hg, Nat.mul_comm]

theorem mapM_of_some {α β : Type} {l : List α} {f : α → Option β} {g : α → β} (h : ∀ x ∈ l, f x = some (g x)) :
    l.mapM f = some (l.map g) := by
  induction l with
  | nil => rfl
  | cons y l ih =>
    rw [List.mapM_cons, h y (by simp), ih fun x hx => h x (by simp [hx])]
    rfl

theorem mapM_of_none {α β : Type} {l : List α} {f : α → Option β} {x : α} (hx : x ∈ l) (h : f x = none) :
    l.mapM f = none := by
  induction l with
  | nil => cases hx
  | cons y l ih =>
    rw [List.mapM_cons]
    rcases List.mem_cons.mp hx with rfl | hx
    · rw [h]
      rfl
    · rw [ih hx]
      cases f y <;> rfl

theorem map_getD_range {α : Type} (l : List α) (d : α) : (List.range l.length).map (fun j => l.getD j d) = l := by
  refine List.ext_getElem (by simp) fun i h1 h2 => ?_
  rw [List.getElem_map, List.getElem_range, List.getD_eq_getElem _ _ h2]

/-! ### The entries of the request (R120) -/

/-- An entry of SET BURSTS is in range. -/
def burstFits (e : Nat × Burst) : Prop := 1 ≤ e.1 ∧ e.1 ≤ 16 ∧ e.2.onTick ≤ 199 ∧ e.2.offTick ≤ 199

/-- The payload of SET BURSTS. -/
def burstsPayload (es : List (Nat × Burst)) (apply : Bool) : List Byte :=
  b1 es.length ++ bBool apply ++ es.flatMap fun e => e.2.bytes e.1

section
variable {es : List (Nat × Burst)} {apply : Bool}

theorem burst_length (e : Nat × Burst) : (e.2.bytes e.1).length = 4 := by simp [Burst.bytes]

theorem u8_burstsPayload {j i : Nat} {e : Nat × Burst} (hj : es[j]? = some e) (hi : i < 4) :
    u8 (burstsPayload es apply) (2 + 4 * j + i) = u8 (e.2.bytes e.1) i := by
  have hafter : burstsPayload es apply = (b1 es.length ++ bBool apply) ++ (es.flatMap (fun e => e.2.bytes e.1) ++ []) := by
    rw [List.append_nil]
    rfl
  rw [hafter, u8_append_right _ _ (by simp; omega), ← u8_flatMap burst_length es [] hj hi]
  congr 1
  simp
  omega

section
variable (hes : ∀ e ∈ es, e.1 ≤ 255 ∧ e.2.onTick ≤ 255 ∧ e.2.offTick ≤ 255)
include hes

theorem parseBurst_payload {j : Nat} {e : Nat × Burst} (hj : es[j]? = some e) :
    (burstFits e → parseBurst (burstsPayload es apply) (2 + 4 * j) = some e) ∧
    (¬ burstFits e → parseBurst (burstsPayload es apply) (2 + 4 * j) = none) := by
  obtain ⟨hn, hon, hoff⟩ := hes e (List.mem_of_getElem? hj)
  have h0 : u8 (burstsPayload es apply) (2 + 4 * j) = e.1 := by
    rw [← Nat.add_zero (2 + 4 * j), u8_burstsPayload hj (by omega)]
    simp [Burst.bytes, hn]
  have h1 : u8 (burstsPayload es apply) (2 + 4 * j + 1) = e.2.enabled.toNat := by
    rw [u8_burstsPayload hj (by omega)]
    simp [Burst.bytes]
  have h2 : u8 (burstsPayload es apply) (2 + 4 * j + 2) = e.2.onTick := by
    rw [u8_burstsPayload hj (by omega)]
    simp [Burst.bytes, hon]
  have h3 : u8 (burstsPayload es apply) (2 + 4 * j + 3) = e.2.offTick := by
    rw [u8_burstsPayload hj (by omega)]
    simp [Burst.bytes, hoff]
  have hfits : (within 1 e.1 16 && within 0 e.2.onTick 199 && within 0 e.2.offTick 199) = true ↔ burstFits e := by
    simp [within, burstFits, and_assoc]
  rw [parseBurst, h0, h1, h2, h3, truthOfCode_toNat]
  exact ⟨fun h => if_pos (hfits.mpr h), fun h => if_neg (mt hfits.mp h)⟩

section
variable (hlen : es.length ≤ 255)
include hlen

theorem parseBursts_fits (h : ∀ e ∈ es, burstFits e) : parseBursts (burstsPayload es apply) = some es := by
  have h0 : u8 (burstsPayload es apply) 0 = es.length := by simp [burstsPayload, List.append_assoc, hlen]
  rw [parseBursts, h0, mapM_of_some (g := fun j => es.getD j (0, .factory)), map_getD_range]
  intro j hj
  have hj' : j < es.length := List.mem_range.mp hj
  rw [List.getD_eq_getElem _ _ hj']
  exact (parseBurst_payload hes (List.getElem?_eq_getElem hj')).1 (h _ (List.getElem_mem _))

theorem parseBursts_bad {e : Nat × Burst} (he : e ∈ es) (h : ¬ burstFits e) : parseBursts (burstsPayload es apply) = none := by
  obtain ⟨j, hj⟩ := List.mem_iff_getElem?.mp he
  have h0 : u8 (burstsPayload es apply) 0 = es.length := by simp [burstsPayload, List.append_assoc, hlen]
  have hlt : j < es.length := (List.getElem?_eq_some_iff.mp hj).1
  rw [parseBursts, h0]
  exact mapM_of_none (List.mem_range.mpr hlt) ((parseBurst_payload hes hj).2 h)

end
end

/-! ### The staged map -/

theorem burstOf_putBursts_other (m : List Burst) {n : Nat} (h : ∀ e ∈ es, e.1 ≠ n) :
    burstOf (putBursts m es) n = burstOf m n := by
  induction es generalizing m with
  | nil => rfl
  | cons e es ih =>
    rw [putBursts, List.foldl_cons, ← putBursts, ih _ fun x hx => h x (by simp [hx])]
    exact atStation_setStation_other _ _ _ (h e (by simp)).symm

theorem burstOf_putBursts_same (m : List Burst) (hm : m.length = 16) (hnd : (es.map (·.1)).Nodup)
    (hes : ∀ e ∈ es, burstFits e) {e : Nat × Burst} (he : e ∈ es) : burstOf (putBursts m es) e.1 = e.2 := by
  induction es generalizing m with
  | nil => cases he
  | cons x es ih =>
    rw [List.map_cons, List.nodup_cons] at hnd
    obtain ⟨hx1, hx16, -⟩ := hes x (by simp)
    rw [putBursts, List.foldl_cons, ← putBursts]
    rcases List.mem_cons.mp he with rfl | he
    · rw [burstOf_putBursts_other _ fun y hy heq => hnd.1 (List.mem_map.mpr ⟨y, hy, heq⟩)]
      exact atStation_setStation_same _ _ _ hx1 (by omega)
    · refine ih _ ?_ hnd.2 (fun y hy => hes y (by simp [hy])) he
      rw [← hm]
      cases x.1 <;> simp [setStation]

/-- Entries of different stations are at most sixteen. -/
theorem bursts_length_le (hnd : (es.map (·.1)).Nodup) (hes : ∀ e ∈ es, burstFits e) : es.length ≤ 16 := by
  have hsub : es.map (·.1) ⊆ allStations := fun n hn => by
    obtain ⟨e, he, rfl⟩ := List.mem_map.mp hn
    exact mem_allStations.mpr ⟨(hes e he).1, (hes e he).2.1⟩
  have hle := (hnd.subperm hsub).length_le
  rw [List.length_map] at hle
  exact hle

end

/-! ### The request -/

section
variable {s : State} {p : List Byte} {f : Frame} {inp : Inputs} {es : List (Nat × Burst)} {apply : Bool}

/-- The part with its staged map written. -/
def State.stage (s : State) (es : List (Nat × Burst)) : State :=
  { s with manifold := { s.manifold with staged := putBursts s.manifold.staged es } }

theorem setBurstsOwner_free (hb : s.storeBusy = false) : setBurstsOwner p s =
    match parseBursts p, truthOfCode (u8 p 1) with
    | some es, some apply =>
      if 16 < u8 p 0 ∨ ¬ (es.map (·.1)).Nodup then refuse .badValue s
      else
        let r := if apply then (s.stage es).requestApply else (s.stage es, [0, 0, 0])
        (r.1, replyOk (bBool r.1.manifold.applyPending ++ r.2.flatMap b1))
    | _, _ => refuse .badValue s := by
  simp only [setBurstsOwner, hb]
  rfl

theorem setBurstsOwner_badValue (hb : s.storeBusy = false)
    (h : parseBursts p = none ∨ truthOfCode (u8 p 1) = none ∨ 16 < u8 p 0 ∨
      ∃ es, parseBursts p = some es ∧ ¬ (es.map (·.1)).Nodup) : setBurstsOwner p s = (s, [3#8]) := by
  rw [setBurstsOwner_free hb]
  split
  · next es apply hp ha =>
    rw [if_pos]
    · rfl
    · rcases h with h | h | h | ⟨es', h, hnd⟩
      · rw [hp] at h; cases h
      · rw [ha] at h; cases h
      · exact .inl h
      · obtain rfl : es = es' := by simpa [hp] using h
        exact .inr hnd
  · rfl

/-- What a SET BURSTS makes of the part, and the outcome and pair it answers. -/
def State.bursts (s : State) (es : List (Nat × Burst)) (apply : Bool) : State × List Nat :=
  if apply then (s.stage es).requestApply else (s.stage es, [0, 0, 0])

theorem setBurstsOwner_granted (hb : s.storeBusy = false) (hp : parseBursts p = some es) (ha : u8 p 1 = apply.toNat)
    (hlen : u8 p 0 ≤ 16) (hnd : (es.map (·.1)).Nodup) : setBurstsOwner p s = ((s.bursts es apply).1,
      0#8 :: bBool (s.bursts es apply).1.manifold.applyPending ++ (s.bursts es apply).2.flatMap b1) := by
  have hgood : ¬ (16 < u8 p 0 ∨ ¬ (es.map (·.1)).Nodup) := by
    rintro (h | h)
    · omega
    · exact h hnd
  rw [setBurstsOwner_free hb, hp, ha, truthOfCode_toNat]
  simp only [if_neg hgood]
  rfl

theorem State.bursts_kept (h : apply = false) : s.bursts es apply = (s.stage es, [0, 0, 0]) := by
  rw [State.bursts, h]
  rfl

theorem State.bursts_pending (h : apply = true) (hr : s.manifold.running = true) : s.bursts es apply =
    ({ s.stage es with manifold := { (s.stage es).manifold with applyPending := true } }, [0, 0, 0]) := by
  rw [State.bursts, if_pos h, State.requestApply, if_pos (show (s.stage es).manifold.running = true from hr)]

theorem State.bursts_applied (h : apply = true) (hr : s.manifold.running = false) : s.bursts es apply =
    ((s.stage es).applyBursts, [if (clash (putBursts s.manifold.staged es)).isSome then 2 else 1,
      (pairOf (putBursts s.manifold.staged es)).1, (pairOf (putBursts s.manifold.staged es)).2]) := by
  rw [State.bursts, if_pos h, State.requestApply, if_neg (show ¬ (s.stage es).manifold.running = true by rw [show (s.stage es).manifold.running = false from hr]; decide)]
  rfl

theorem State.bursts_frame (s : State) (es : List (Nat × Burst)) (apply : Bool) : (s.bursts es apply).1 = { s with
    cfg := { s.cfg with live := (s.bursts es apply).1.cfg.live }
    manifold := { s.manifold with
      staged := putBursts s.manifold.staged es, applyPending := (s.bursts es apply).1.manifold.applyPending }
    events := (s.bursts es apply).1.events, lost := (s.bursts es apply).1.lost } := by
  cases ha : apply with
  | false => rfl
  | true =>
    cases hr : s.manifold.running with
    | true =>
      rw [State.bursts_pending rfl hr]
      rfl
    | false =>
      rw [State.bursts_applied rfl hr]
      have happly := (s.stage es).applyBursts_eq
      generalize (s.stage es).applyBursts = w at happly
      rw [happly]
      rfl

theorem pairBytes {m : List Burst} {i j : Nat} (h : lowestShared (·.onTick) m i j) :
    [2, (pairOf m).1, (pairOf m).2].flatMap b1 = [2#8, BitVec.ofNat 8 i, BitVec.ofNat 8 j] := by
  obtain ⟨-, hij, hj, -⟩ := h.1
  have hpair : pairOf m = (i, j) := by
    rw [pairOf, clash, lowestPair_iff.mpr h]
    rfl
  have hi' : min i 255 = i := by omega
  have hj' : min j 255 = j := by omega
  simp only [hpair, List.flatMap_cons, List.flatMap_nil, b1, hi', hj']
  rfl

end

/-- Settles O37. -/
theorem setBurstsWritesTheStagedMap : Obligations.SetBurstsWritesTheStagedMap := by
  unfold Obligations.SetBurstsWritesTheStagedMap
  refine ⟨fun f inp s es apply hh hfree hstaged hes hp ok hok => ?_, fun f inp s n a rest hh hfree hp hrest hbad => ?_⟩
  · have hbusy : (s.taken 0x09#8 f inp).storeBusy = false := State.taken_storeBusy hfree
    have hcfg : (s.taken 0x09#8 f inp).cfg = s.cfg := State.taken_cfg ..
    have hmanifold : (s.taken 0x09#8 f inp).manifold = s.manifold := State.taken_manifold ..
    have hclock : (s.taken 0x09#8 f inp).clock = s.clock := State.taken_clock ..
    have hpay : f.payload = burstsPayload es apply := hp
    have hbytes : f.payload.length = 2 + 4 * es.length := by
      rw [hpay, burstsPayload, List.length_append, length_flatMap_of burst_length]
      simp
    have hes255 : es.length ≤ 255 := by have := hh.2.2.1; omega
    have h0 : u8 f.payload 0 = es.length := by rw [hpay]; simp [burstsPayload, List.append_assoc, hes255]
    have h1 : u8 f.payload 1 = apply.toNat := by rw [hpay]; simp [burstsPayload, List.append_assoc]
    have hlen : countedLength 0 4 f.payload = true := by simp [countedLength, h0, hbytes]
    refine ⟨fun hnot => ?_, fun hyes => ?_⟩
    · refine exec_refused (c := .setBursts f inp) rfl hh hlen (setBurstsOwner_badValue hbusy ?_)
      by_cases hfits : ∀ e ∈ es, burstFits e
      · exact .inr (.inr (.inr ⟨es, by rw [hpay]; exact parseBursts_fits hes hes255 hfits, fun hnd => hnot (hok.mpr ⟨hfits, hnd⟩)⟩))
      · obtain ⟨e, he, hbad⟩ : ∃ e ∈ es, ¬ burstFits e := by simpa using hfits
        exact .inl (by rw [hpay]; exact parseBursts_bad hes hes255 he hbad)
    · obtain ⟨hfits, hnd⟩ := hok.mp hyes
      have hle := bursts_length_le hnd hfits
      have howner := setBurstsOwner_granted hbusy (by rw [hpay]; exact parseBursts_fits hes hes255 hfits) h1 (by omega) hnd
      have hframe := (s.taken 0x09#8 f inp).bursts_frame es apply
      have hkept := State.bursts_kept (s := s.taken 0x09#8 f inp) (es := es) (apply := apply)
      have hpending := State.bursts_pending (s := s.taken 0x09#8 f inp) (es := es) (apply := apply)
      have happlied := State.bursts_applied (s := s.taken 0x09#8 f inp) (es := es) (apply := apply)
      obtain ⟨t, hexec, ht⟩ := exec_granted (c := .setBursts f inp) (u := ((s.taken 0x09#8 f inp).bursts es apply).1) rfl hh hlen howner
        (by rw [hframe])
      have hclear := State.applyBursts_of_clear (s := (s.taken 0x09#8 f inp).stage es)
      have hclash (i j : Nat) := State.applyBursts_of_clash (s := (s.taken 0x09#8 f inp).stage es) (i := i) (j := j)
      have hdone := ((s.taken 0x09#8 f inp).stage es).applyBursts_eq
      have hstage : ((s.taken 0x09#8 f inp).stage es).manifold.staged = putBursts s.manifold.staged es := by
        rw [State.stage, hmanifold]
      have hfound : ((s.taken 0x09#8 f inp).stage es).cfg.live = s.cfg.live := by rw [State.stage, hcfg]
      have hfoundClock : ((s.taken 0x09#8 f inp).stage es).clock = s.clock := hclock
      rw [hcfg, hmanifold] at hframe
      have hlive : t.cfg.live = ((s.taken 0x09#8 f inp).bursts es apply).1.cfg.live := by rw [ht]
      have hevents : t.events = ((s.taken 0x09#8 f inp).bursts es apply).1.events := by rw [ht]
      have hlost : t.lost = ((s.taken 0x09#8 f inp).bursts es apply).1.lost := by rw [ht]
      have happend : t.manifold.applyPending = ((s.taken 0x09#8 f inp).bursts es apply).1.manifold.applyPending := by rw [ht]
      have hmap : t.manifold.staged = putBursts s.manifold.staged es := by rw [ht, hframe]
      refine ⟨t, ((s.taken 0x09#8 f inp).bursts es apply).2.flatMap b1, t.manifold.staged, hexec, rfl, ?_, fun n b hb => ?_,
        fun n hn => ?_, ?_, fun ha => ?_, fun ha hr => ?_, fun ha hr => ?_, fun hno => ?_, ?_⟩
      · rw [hmap, putBursts_length, hstaged]
      · rw [hmap]
        exact burstOf_putBursts_same _ hstaged hnd hfits hb
      · rw [hmap]
        exact burstOf_putBursts_other _ hn
      · rw [happend, ht]
      · rw [hlive, happend, hkept ha, State.stage, hcfg, hmanifold]
        exact ⟨rfl, rfl, rfl⟩
      · rw [hlive, happend, hpending ha (by rwa [hmanifold]), State.stage, hcfg]
        exact ⟨rfl, rfl, rfl⟩
      · have hap := happlied ha (by rwa [hmanifold])
        rw [hmanifold] at hap
        rw [hlive, happend, hap, hmap]
        refine ⟨by rw [hdone], fun hc => ?_, fun i j hij => ?_, fun hno => ?_⟩
        · have hnone := clash_eq_none_iff.mpr hc
          obtain ⟨hl, happlied, hshared⟩ := hclear (by rw [hstage]; exact hnone)
          rw [hstage] at hl happlied hshared
          rw [hfound] at happlied
          refine ⟨hl, by rw [hnone, pairOf, hnone]; rfl, (happlied.of_clock hfoundClock).congr ?_, fun i j hij => ?_⟩
          · rw [hevents, hap]
          · exact ((hshared i j hij).of_clock hfoundClock).congr (by rw [hevents, hap])
        · obtain ⟨hc, hpost⟩ := hclash i j (by rw [hstage]; exact lowestPair_iff.mpr hij)
          refine ⟨by rw [hc, hfound], ?_, (hpost.of_clock hfoundClock).congr (by rw [hevents, hap])⟩
          rw [show clash (putBursts s.manifold.staged es) = some (i, j) from lowestPair_iff.mpr hij]
          exact pairBytes hij
        · obtain ⟨i, j, -, h⟩ := clash_of_not_mapClear hno
          exact ⟨i, j, h⟩
      · rw [hevents, hlost]
        rcases hno with ha | hr
        · rw [hkept ha]
          exact ⟨rfl, rfl⟩
        · cases ha : apply with
          | false => exact ⟨rfl, rfl⟩
          | true =>
            rw [State.bursts_pending rfl (by rwa [hmanifold])]
            exact ⟨rfl, rfl⟩
      · have hlink : t.link = s.replying 0x09#8 f inp _ := congrArg State.link ht
        conv_lhs => rw [ht, ← hlink]
        rw [hlive, hevents, hlost, hmap, happend]
        exact congrArg (fun x : State => { x with link := t.link, out := t.out }) hframe
  · have h0 : u8 f.payload 0 = n.toNat := by rw [hp]; rfl
    have h1 : u8 f.payload 1 = a.toNat := by rw [hp]; rfl
    refine exec_refused (c := .setBursts f inp) rfl hh (by simp [countedLength, h0, hp ▸ (by simp [hrest]; omega : (n :: a :: rest).length = 2 + 4 * n.toNat)])
      (setBurstsOwner_badValue (State.taken_storeBusy hfree) ?_)
    rw [h0, h1]
    rcases hbad with h | h
    · exact .inr (.inl (truthOfCode_unlisted h))
    · exact .inr (.inr (.inl h))

end Sys2Proof.Machine
end

section
/-! PROOFS. SET RECIPE (2.1, 2.5). -/

namespace Sys2Proof.Machine

/-! ### A step of the payload (12.11) -/

/-- The step's fields lie within what their bytes hold; a pattern's number is not the code of none. -/
def Step.fits (st : Step) : Prop :=
  st.group ≤ 255 ∧ st.drain ≤ 255 ∧ (∀ p, st.pattern = some p → p ≤ 254) ∧ st.nominal ≤ 65535 ∧ st.curve ≤ 255 ∧
  st.tolerance ≤ 255 ∧ st.immersion ≤ 65535 ∧ st.stretch ≤ 65535

theorem step_length (st : Step) : st.bytes.length = 12 := by simp [Step.bytes]

/-- The payload of SET RECIPE for `count` steps, of which `steps` are the first. -/
def recipePayload (n count : Nat) (steps : List Step) (rest : List Byte) : List Byte :=
  b1 n ++ b1 count ++ steps.flatMap Step.bytes ++ rest

section
variable {n count : Nat} {steps : List Step} {rest : List Byte} {j : Nat} {st : Step}

theorem u8_recipePayload (hj : steps[j]? = some st) {i : Nat} (hi : i < 12) :
    u8 (recipePayload n count steps rest) (2 + 12 * j + i) = u8 st.bytes i := by
  have hsplit : recipePayload n count steps rest = (b1 n ++ b1 count) ++ (steps.flatMap Step.bytes ++ rest) := by
    rw [recipePayload, List.append_assoc]
  rw [hsplit, u8_append_right _ _ (by simp; omega), ← u8_flatMap step_length steps rest hj hi]
  congr 1
  simp
  omega

theorem u16_recipePayload (hj : steps[j]? = some st) {i : Nat} (hi : i + 1 < 12) :
    u16 (recipePayload n count steps rest) (2 + 12 * j + i) = u16 st.bytes i := by
  rw [u16, u8_recipePayload hj (by omega), show 2 + 12 * j + i + 1 = 2 + 12 * j + (i + 1) from rfl, u8_recipePayload hj hi, ← u16]

theorem u8_recipePayload_rest (i : Nat) :
    u8 (recipePayload n count steps rest) (2 + 12 * steps.length + i) = u8 rest i := by
  have hlen : (b1 n ++ b1 count ++ steps.flatMap Step.bytes).length = 2 + 12 * steps.length := by
    rw [List.length_append, length_flatMap_of step_length]
    simp
  rw [recipePayload, u8_append_right _ _ (by omega), hlen]
  congr 1
  omega

theorem StepKind.ofCode_code (k : StepKind) : StepKind.ofCode (min k.code 255) = some k := by cases k <;> rfl

theorem StepKind.ofCode_unlisted {n : Nat} (h : 2 ≤ n) : StepKind.ofCode n = none := by
  obtain ⟨m, rfl⟩ : ∃ m, n = m + 2 := ⟨n - 2, by omega⟩
  rfl

theorem stepPattern_listed {pat : Option Nat} (h : ∀ p, pat = some p → p ≤ 7) : stepPattern (min (pat.getD 255) 255) = some pat := by
  cases pat with
  | none => rfl
  | some p =>
    have hp := h p rfl
    rw [Option.getD_some, show min p 255 = p by omega, stepPattern, if_pos hp]

theorem stepPattern_unlisted {p : Nat} (h : 8 ≤ p ∧ p ≤ 254) : stepPattern p = none := by
  rw [stepPattern, if_neg (by omega), if_neg (by omega)]

/-- A step is read back with the fields of the other kind as 0, or not at all where its pattern is not listed. -/
theorem Step.parse_payload (hj : steps[j]? = some st) (hst : st.fits) :
    ((∀ p, st.pattern = some p → p ≤ 7) →
      Step.parse (recipePayload n count steps rest) (2 + 12 * j) = some st.ofKind) ∧
    (∀ p, st.pattern = some p → 7 < p → Step.parse (recipePayload n count steps rest) (2 + 12 * j) = none) := by
  obtain ⟨hgroup, hdrain, hpat, hnominal, hcurve, htolerance, himmersion, hstretch⟩ := hst
  have h0 : u8 (recipePayload n count steps rest) (2 + 12 * j) = st.group := by
    rw [← Nat.add_zero (2 + 12 * j), u8_recipePayload hj (by omega)]
    simp only [Step.bytes, List.append_assoc]
    simp [hgroup]
  have h1 : u8 (recipePayload n count steps rest) (2 + 12 * j + 1) = min st.kind.code 255 := by
    rw [u8_recipePayload hj (by omega)]
    simp only [Step.bytes, List.append_assoc]
    simp
  have h2 : u8 (recipePayload n count steps rest) (2 + 12 * j + 2) = st.drain := by
    rw [u8_recipePayload hj (by omega)]
    simp only [Step.bytes, List.append_assoc]
    simp [hdrain]
  have h3 : u8 (recipePayload n count steps rest) (2 + 12 * j + 3) = min (st.pattern.getD 255) 255 := by
    rw [u8_recipePayload hj (by omega)]
    simp only [Step.bytes, List.append_assoc]
    simp
  have h4 : u16 (recipePayload n count steps rest) (2 + 12 * j + 4) = st.nominal := by
    rw [u16_recipePayload hj (by omega)]
    simp only [Step.bytes, List.append_assoc]
    simp [hnominal]
  have h6 : u8 (recipePayload n count steps rest) (2 + 12 * j + 6) = st.curve := by
    rw [u8_recipePayload hj (by omega)]
    simp only [Step.bytes, List.append_assoc]
    simp [hcurve]
  have h7 : u8 (recipePayload n count steps rest) (2 + 12 * j + 7) = st.tolerance := by
    rw [u8_recipePayload hj (by omega)]
    simp only [Step.bytes, List.append_assoc]
    simp [htolerance]
  have h8 : u16 (recipePayload n count steps rest) (2 + 12 * j + 8) = st.immersion := by
    rw [u16_recipePayload hj (by omega)]
    simp only [Step.bytes, List.append_assoc]
    simp [himmersion]
  have h10 : u16 (recipePayload n count steps rest) (2 + 12 * j + 10) = st.stretch := by
    rw [u16_recipePayload hj (by omega)]
    simp only [Step.bytes, List.append_assoc]
    simp [hstretch]
  rw [Step.parse, h0, h1, h2, h3, h4, h6, h7, h8, h10, StepKind.ofCode_code]
  refine ⟨fun h => ?_, fun p hp h => ?_⟩
  · rw [stepPattern_listed h]
    cases hk : st.kind <;> simp [Step.ofKind, hk]
  · have hbig := hpat p hp
    rw [hp, Option.getD_some, show min p 255 = p by omega, stepPattern_unlisted (by omega)]
    cases st.kind <;> rfl

theorem Step.parse_unlisted {p : List Byte} {o : Nat} (h : 2 ≤ u8 p (o + 1) ∨ (8 ≤ u8 p (o + 3) ∧ u8 p (o + 3) ≤ 254)) :
    Step.parse p o = none := by
  rw [Step.parse]
  rcases h with h | h
  · rw [StepKind.ofCode_unlisted h]
  · rw [stepPattern_unlisted h]
    rcases StepKind.ofCode (u8 p (o + 1)) with _ | k
    · rfl
    · cases k <;> rfl

/-! ### The checks of a step (R22) -/

theorem Step.inRange_ofKind (st : Step) : st.ofKind.inRange = true ↔ 1 ≤ st.group ∧ st.group ≤ 15 ∧ st.drain ≤ 30 ∧
    (st.kind = .develop → 30 ≤ st.nominal ∧ st.nominal ≤ 3600 ∧ st.curve ≤ 3 ∧ st.tolerance ≤ 200) ∧
    (st.kind = .bath → 10 ≤ st.immersion ∧ st.immersion ≤ 3600 ∧ st.stretch ≤ 3600) := by
  unfold Step.ofKind Step.inRange
  cases st.kind <;> simp [within, and_assoc]

theorem Step.ofKind_same (st : Step) : st.ofKind.group = st.group ∧ st.ofKind.kind = st.kind ∧
    (st.kind = .develop → st.ofKind.curve = st.curve) := by
  unfold Step.ofKind
  cases st.kind <;> simp

section
variable {s : State}

/-- A step of the payload is at fault exactly where it does not serve. -/
theorem State.stepBad_iff (hfits : ∀ x ∈ steps, x.fits) (hj : steps[j]? = some st) :
    s.stepBad (recipePayload n count steps rest) j = true ↔ ¬ s.stepServes steps j := by
  have hparse := Step.parse_payload (n := n) (count := count) (rest := rest) hj (hfits st (List.mem_of_getElem? hj))
  rw [← Bool.not_eq_false, not_iff_not]
  by_cases hpat : ∀ p, st.pattern = some p → p ≤ 7
  · obtain ⟨hgroup, hkind, hcurve⟩ := st.ofKind_same
    have hrole : (s.groupStations st.group).any (fun m => s.role m != st.kind.role) = false ↔
        ∀ m ∈ s.groupStations st.group, (s.role m = .develop ↔ st.kind = .develop) := by
      rw [List.any_eq_false]
      refine forall₂_congr fun m hm => ?_
      have hb : s.isBath m = true := by
        rw [State.groupStations, List.mem_filter, Bool.and_eq_true] at hm
        exact hm.2.1
      rw [bne_iff_ne, not_not, eq_comm, Role.kind_iff hb]
      exact Iff.comm
    have hdefined : (st.kind == .develop && (s.curve st.ofKind.curve).isNone) = false ↔
        (st.kind = .develop → s.curve st.curve ≠ none) := by
      rw [Bool.and_eq_false_imp, beq_iff_eq]
      refine imp_congr_right fun h => ?_
      rw [hcurve h, Option.isNone_eq_false_iff, Option.isSome_iff_ne_none]
    have hprev : (j != 0 && u8 (recipePayload n count steps rest) (2 + 12 * j) ==
        u8 (recipePayload n count steps rest) (2 + 12 * (j - 1))) = false ↔
        ∀ a, 1 ≤ j → steps[j - 1]? = some a → a.group ≠ st.group := by
      have hbyte {i : Nat} {a : Step} (ha : steps[i]? = some a) :
          u8 (recipePayload n count steps rest) (2 + 12 * i) = a.group := by
        rw [← Nat.add_zero (2 + 12 * i), u8_recipePayload ha (by omega)]
        simp only [Step.bytes, List.append_assoc]
        simp [(hfits a (List.mem_of_getElem? ha)).1]
      rw [Bool.and_eq_false_imp, bne_iff_ne, hbyte hj]
      constructor
      · intro h a h1 ha heq
        have := h (by omega)
        rw [hbyte ha, heq, beq_self_eq_true] at this
        cases this
      · intro h h0
        have hlt : j < steps.length := (List.getElem?_eq_some_iff.mp hj).1
        have ha := List.getElem?_eq_getElem (show j - 1 < steps.length by omega)
        rw [hbyte ha, beq_eq_false_iff_ne]
        exact (h _ (by omega) ha).symm
    rw [State.stepBad, hparse.1 hpat]
    simp only [Bool.or_eq_false_iff, Bool.not_eq_false', hgroup, hrole, hdefined, hprev, hkind, Step.inRange_ofKind,
      List.isEmpty_eq_false_iff]
    constructor
    · rintro ⟨⟨⟨⟨⟨hg, hg', hd, hdev, hbath⟩, hne⟩, hroles⟩, hdef⟩, hpr⟩ x hx
      obtain rfl : st = x := by simpa [hj] using hx
      refine ⟨hg, hg', hd, hpat, fun hk => ?_, hbath, hne, hroles, hpr⟩
      obtain ⟨h1, h2, h3, h4⟩ := hdev hk
      exact ⟨h1, h2, h3, h4, hdef hk⟩
    · intro h
      obtain ⟨hg, hg', hd, -, hdev, hbath, hne, hroles, hpr⟩ := h st hj
      refine ⟨⟨⟨⟨⟨hg, hg', hd, fun hk => ?_, hbath⟩, hne⟩, hroles⟩, fun hk => ?_⟩, hpr⟩
      · obtain ⟨h1, h2, h3, h4, -⟩ := hdev hk
        exact ⟨h1, h2, h3, h4⟩
      · obtain ⟨-, -, -, -, h5⟩ := hdev hk
        exact h5
  · obtain ⟨p, hp, hbig⟩ : ∃ p, st.pattern = some p ∧ 7 < p := by simpa using hpat
    rw [State.stepBad, hparse.2 p hp hbig]
    refine ⟨fun h => Bool.noConfusion h, fun h => ?_⟩
    obtain ⟨-, -, -, hp', -⟩ := h st hj
    have := hp' p hp
    omega

theorem State.recipeFault_first {p : List Byte} (hj : j < u8 p 1) (hbad : s.stepBad p j = true)
    (hgood : ∀ i, i < j → s.stepBad p i = false) : s.recipeFault p steps = some (j + 1) := by
  have hfind : (List.range (u8 p 1)).find? (s.stepBad p) = some j := by
    rw [List.find?_range_eq_some]
    exact ⟨hbad, List.mem_range.mpr hj, fun i hi => by rw [hgood i hi]; rfl⟩
  rw [State.recipeFault, hfind]

theorem State.recipeFault_none {p : List Byte} (hgood : ∀ i, i < u8 p 1 → s.stepBad p i = false) :
    s.recipeFault p steps = if 4 < (steps.filter fun st => st.kind == .develop).length then some 0 else none := by
  have hfind : (List.range (u8 p 1)).find? (s.stepBad p) = none := by
    rw [List.find?_eq_none]
    intro i hi
    rw [hgood i (List.mem_range.mp hi)]
    decide
  rw [State.recipeFault, hfind]

/-! ### The request -/

variable {p : List Byte} {f : Frame} {inp : Inputs}

/-- The steps a payload spells. -/
def stepsOf (p : List Byte) : List Step := (parseSteps p).filterMap id

theorem setRecipeOwner_free (hb : s.storeBusy = false) : setRecipeOwner p s =
    if 7 < u8 p 0 ∨ 12 < u8 p 1 then recipeRefused .badValue 0 s
    else if s.recipeInUse (u8 p 0) then recipeRefused .inUse 0 s
    else
      match s.recipeFault p (stepsOf p) with
      | some k => recipeRefused .badValue k s
      | none => (s.putRecipe (u8 p 0) (stepsOf p), resultByte .ok) := by
  simp only [setRecipeOwner, hb]
  rfl

theorem setRecipeOwner_outside (hb : s.storeBusy = false) (h : 7 < u8 p 0 ∨ 12 < u8 p 1) :
    setRecipeOwner p s = (s, [3#8, 0#8]) := by
  rw [setRecipeOwner_free hb, if_pos h]
  rfl

section
variable (hb : s.storeBusy = false) (h7 : u8 p 0 ≤ 7) (h12 : u8 p 1 ≤ 12)
include hb h7 h12

theorem setRecipeOwner_inUse (h : s.recipeInUse (u8 p 0) = true) : setRecipeOwner p s = (s, [7#8, 0#8]) := by
  rw [setRecipeOwner_free hb, if_neg (by omega), if_pos h]
  rfl

theorem setRecipeOwner_fault (h : s.recipeInUse (u8 p 0) = false) {k : Nat} (hk : s.recipeFault p (stepsOf p) = some k) :
    setRecipeOwner p s = (s, 3#8 :: b1 k) := by
  rw [setRecipeOwner_free hb, if_neg (by omega), h, hk]
  rfl

theorem setRecipeOwner_granted (h : s.recipeInUse (u8 p 0) = false) (hk : s.recipeFault p (stepsOf p) = none) :
    setRecipeOwner p s = (s.putRecipe (u8 p 0) (stepsOf p), [0#8]) := by
  rw [setRecipeOwner_free hb, if_neg (by omega), h, hk]
  rfl

end

theorem State.recipeInUse_iff {n : Nat} :
    s.recipeInUse n = true ↔ ∃ k r, k < 24 ∧ s.rack k = some r ∧ r.recipe = some n := by
  simp only [State.recipeInUse, List.any_eq_true, beq_iff_eq, Prod.exists, State.mem_racks, and_assoc]

theorem State.taken_recipe {kind : Byte} (n j : Nat) (p : List Byte) :
    (s.taken kind f inp).recipeInUse n = s.recipeInUse n ∧ (s.taken kind f inp).stepBad p j = s.stepBad p j := by
  rw [State.taken, State.accept_eq]
  exact ⟨rfl, rfl⟩

end

theorem stepsOf_payload (hfits : ∀ x ∈ steps, x.fits) (hpat : ∀ x ∈ steps, ∀ p, x.pattern = some p → p ≤ 7)
    (hlen : steps.length ≤ 255) : stepsOf (recipePayload n steps.length steps []) = steps.map Step.ofKind := by
  have h1 : u8 (recipePayload n steps.length steps []) 1 = steps.length := by
    simp only [recipePayload, List.append_assoc]
    simp [hlen]
  have hparse : parseSteps (recipePayload n steps.length steps []) = steps.map fun st => some st.ofKind := by
    rw [parseSteps, h1]
    refine List.ext_getElem (by simp) fun i hi hi' => ?_
    have hlt : i < steps.length := by simpa using hi
    rw [List.getElem_map, List.getElem_range, List.getElem_map]
    exact (Step.parse_payload (List.getElem?_eq_getElem hlt) (hfits _ (List.getElem_mem _))).1 (hpat _ (List.getElem_mem _))
  rw [stepsOf, hparse, List.filterMap_map]
  exact List.filterMap_eq_map_iff_forall_eq_some.mpr fun _ _ => rfl

end

/-- Settles O35. -/
theorem setRecipeReplacesTheRecipe : Obligations.SetRecipeReplacesTheRecipe := by
  unfold Obligations.SetRecipeReplacesTheRecipe
  intro f inp s hh hrecipes hfree refused hrefused
  have hbusy : (s.taken 0x07#8 f inp).storeBusy = false := State.taken_storeBusy hfree
  have hcfg : (s.taken 0x07#8 f inp).cfg = s.cfg := State.taken_cfg ..
  have refuse_of {payload : List Byte} (hlen : countedLength 1 12 f.payload = true)
      (ho : setRecipeOwner f.payload (s.taken 0x07#8 f inp) = (s.taken 0x07#8 f inp, payload)) : refused payload :=
    (hrefused _).mpr (exec_refused (c := .setRecipe f inp) rfl hh hlen ho)
  refine ⟨fun n c rest hp hlen hbad => ?_, fun n steps rest hn hmod hcount hp hfits => ?_⟩
  · have h0 : u8 f.payload 0 = n.toNat := by rw [hp]; rfl
    have h1 : u8 f.payload 1 = c.toNat := by rw [hp]; rfl
    refine refuse_of ?_ (setRecipeOwner_outside hbusy (by rwa [h0, h1]))
    rw [countedLength, h1, hp]
    simp [hlen]
    omega
  have hpay : f.payload = recipePayload n (steps.length + rest.length / 12) steps rest := hp
  have h0 : u8 f.payload 0 = n := by
    rw [hpay]
    simp only [recipePayload, List.append_assoc]
    simp
    omega
  have h1 : u8 f.payload 1 = steps.length + rest.length / 12 := by
    rw [hpay]
    simp only [recipePayload, List.append_assoc]
    simp
    omega
  have hlen : countedLength 1 12 f.payload = true := by
    have hbytes : f.payload.length = 2 + 12 * steps.length + rest.length := by
      rw [hpay, recipePayload, List.length_append, List.length_append, length_flatMap_of step_length]
      simp
    have hdiv : 12 * (rest.length / 12) = rest.length := by omega
    rw [countedLength, h1, hbytes]
    simp
    omega
  have hinUse : (s.taken 0x07#8 f inp).recipeInUse (u8 f.payload 0) = s.recipeInUse n := by
    rw [h0]
    exact (State.taken_recipe n 0 f.payload).1
  have hbad (j : Nat) : (s.taken 0x07#8 f inp).stepBad f.payload j = s.stepBad f.payload j :=
    (State.taken_recipe n j f.payload).2
  have hserves {j : Nat} (hj : j < steps.length) : s.stepBad f.payload j = true ↔ ¬ s.stepServes steps j := by
    rw [hpay]
    exact State.stepBad_iff hfits (List.getElem?_eq_getElem hj)
  refine ⟨fun hused => ?_, fun hunused => ?_⟩
  · exact refuse_of hlen (setRecipeOwner_inUse hbusy (by omega) (by omega) (by rw [hinUse]; exact State.recipeInUse_iff.mpr hused))
  have hunused' : (s.taken 0x07#8 f inp).recipeInUse (u8 f.payload 0) = false := by
    rw [hinUse, Bool.eq_false_iff, Ne, State.recipeInUse_iff]
    rintro ⟨k, r, hk, hr, hrec⟩
    exact hunused k r hk hr hrec
  have fault_of {k : Nat} (hk : (s.taken 0x07#8 f inp).recipeFault f.payload (stepsOf f.payload) = some k) :
      refused (3#8 :: b1 k) := refuse_of hlen (setRecipeOwner_fault hbusy (by omega) (by omega) hunused' hk)
  have first_bad {j : Nat} (hj : j < steps.length + rest.length / 12) (hb : s.stepBad f.payload j = true)
      (hgood : ∀ i, i < j → s.stepBad f.payload i = false) : refused [3#8, BitVec.ofNat 8 (j + 1)] := by
    have h := fault_of (State.recipeFault_first (j := j) (by omega) (by rwa [hbad]) fun i hi => by rw [hbad]; exact hgood i hi)
    rwa [b1, show min (j + 1) 255 = j + 1 by omega] at h
  have good_of {i : Nat} (hi : i < steps.length) (h : s.stepServes steps i) : s.stepBad f.payload i = false :=
    Bool.eq_false_iff.mpr fun hb => (hserves hi).mp hb h
  refine ⟨fun j hj hnot hbefore => ?_, fun hall => ⟨fun hne hunlisted => ?_, fun hnil hmany => ?_, fun hnil hfew => ?_⟩⟩
  · exact first_bad (by omega) ((hserves hj).mpr hnot) fun i hi => good_of (by omega) (hbefore i hi)
  · have hpos : 0 < rest.length := List.length_pos_iff.mpr hne
    refine first_bad (by omega) ?_ fun i hi => good_of hi (hall i hi)
    rw [hpay, State.stepBad, Step.parse_unlisted (by rwa [u8_recipePayload_rest, u8_recipePayload_rest])]
  all_goals
    subst hnil
    simp only [List.length_nil, Nat.zero_div, Nat.add_zero] at h1 hpay
    have hsteps : stepsOf f.payload = steps.map Step.ofKind := by
      rw [hpay]
      refine stepsOf_payload hfits (fun x hx p hp' => ?_) (by omega)
      obtain ⟨j, hj⟩ := List.mem_iff_getElem?.mp hx
      obtain ⟨-, -, -, hpat, -⟩ := hall j (List.getElem?_eq_some_iff.mp hj).1 x hj
      exact hpat p hp'
    have hdevelop : ((steps.map Step.ofKind).filter fun st => st.kind == .develop).length =
        (steps.filter fun st => st.kind == .develop).length := by
      rw [List.filter_map, List.length_map]
      congr 2
      funext st
      simp only [Function.comp_apply, st.ofKind_same.2.1]
    have hfault := State.recipeFault_none (s := s.taken 0x07#8 f inp) (p := f.payload) (steps := stepsOf f.payload)
      fun i hi => by rw [hbad]; exact good_of (by omega) (hall i (by omega))
    rw [hsteps, hdevelop] at hfault
  · rw [if_pos hmany, ← hsteps] at hfault
    exact fault_of hfault
  · rw [if_neg (by omega), ← hsteps] at hfault
    have howner := setRecipeOwner_granted hbusy (by omega) (by omega) hunused' hfault
    obtain ⟨t, hexec, ht⟩ := exec_granted (c := .setRecipe f inp) rfl hh hlen howner rfl
    rw [h0, hsteps, State.putRecipe, hcfg] at ht
    have hset : t.cfg.recipes = s.cfg.recipes.set n (steps.map Step.ofKind) := by rw [ht]
    refine ⟨t, hexec, ?_, fun m hm => ?_, ?_⟩
    · rw [State.recipe, hset, List.getD_eq_getElem?_getD, List.getElem?_set_self (by omega)]
      rfl
    · rw [State.recipe, hset, List.getD_eq_getElem?_getD, List.getElem?_set_ne hm.symm, ← List.getD_eq_getElem?_getD,
        ← State.recipe]
    · rw [ht]

end Sys2Proof.Machine
end

section
/-! PROOFS. CARRIAGE CLEAR (6.10, 9.5): the end of an orphan, the Driver that turns from rest, the return to READY. -/

namespace Sys2Proof.Machine

section
variable {s t : State} {k n : Nat} {r : Rack}

/-! ### The end of an orphan (R72) -/

/-- The part with the orphan of a slot ended, before what that brings about for the line. -/
def State.orphanEnds (s : State) (k n : Nat) (r : Rack) : State :=
  ((s.forgetRack k r).freeSlot k).post .rackRemoved n k 0 0

theorem State.endOrphan_eq (h : s.rack k = some r) : s.endOrphan k n = (s.orphanEnds k n r).settleLine k := by
  rw [State.endOrphan, h]
  rfl

theorem State.orphanEnds_eq (s : State) (k n : Nat) (r : Rack) : s.orphanEnds k n r = { s.forgetRack k r with
    slots := s.slots.set k none
    events := (s.post .rackRemoved n k 0 0).events
    lost := (s.post .rackRemoved n k 0 0).lost } := by
  have hpost := State.post_same (u := (s.forgetRack k r).freeSlot k) (k := .rackRemoved) (a := n) (b := k) (c := 0) (d := 0) (s := s)
    (by rw [State.freeSlot, State.forgetRack_eq]) (by rw [State.freeSlot, State.forgetRack_eq])
    (by rw [State.freeSlot, State.forgetRack_eq])
  refine (State.post_eq _ _ _ _ _ _).trans ?_
  rw [hpost.1, hpost.2, State.freeSlot, State.forgetRack_slots]

theorem State.orphanEnds_rack_same : (s.orphanEnds k n r).rack k = none := by
  rw [State.orphanEnds_eq, State.rack]
  by_cases h : k < s.slots.length <;> simp [List.getD_eq_getElem?_getD, h]

theorem State.orphanEnds_rack_other {j : Nat} (hj : j ≠ k) : (s.orphanEnds k n r).rack j = s.rack j := by
  rw [State.orphanEnds_eq, State.rack]
  simp [List.getD_eq_getElem?_getD, Ne.symm hj, State.rack]

theorem State.orphanEnds_completions : (s.orphanEnds k n r).completions = s.completions := by
  rw [State.orphanEnds_eq, State.forgetRack_eq]

theorem State.orphanEnds_posted : s.posted (s.orphanEnds k n r) .rackRemoved n k 0 0 := by
  rw [State.orphanEnds_eq]
  exact (State.posted_post (u := s) rfl).congr rfl

/-! ### What is settled while the fault is not cleared -/

theorem State.leaveEvacuation_frame (s : State) (k : Nat) : s.leaveEvacuation k = { s with
    evacOrder := (s.leaveEvacuation k).evacOrder, events := (s.leaveEvacuation k).events, lost := (s.leaveEvacuation k).lost } := by
  unfold State.leaveEvacuation
  split
  · simp only
    split
    · exact (State.post_eq _ _ _ _ _ _).trans (by simp [State.postLine])
    · rfl
  · rfl

theorem State.settleLine_of_uncleared (hl : s.line.state = .faulted) (hc : s.driver.faultCleared = false) :
    s.settleLine k = s.leaveEvacuation k := by
  have hframe := s.leaveEvacuation_frame k
  have hline : (s.leaveEvacuation k).line = s.line := by rw [hframe]
  have hdriver : (s.leaveEvacuation k).driver = s.driver := by rw [hframe]
  have hrecovery : (s.leaveEvacuation k).judgeRecovery = s.leaveEvacuation k := by
    simp [State.judgeRecovery, State.recoverable, hdriver, hc]
  have hdrain : (s.leaveEvacuation k).judgeDrain = s.leaveEvacuation k := by simp [State.judgeDrain, hline, hl]
  rw [State.settleLine, hrecovery, hdrain]

/-! ### The Driver turns from rest (R95) -/

/-- A Driver that turns from rest stands, waits or approaches; it knows no other position than before or than the code shows. -/
theorem State.turn_of_idle (h : s.driver.state = .idle) :
    (s.turn.driver.state = .idle ∨ s.turn.driver.state = .waiting ∨ s.turn.driver.state = .approaching) ∧
    (s.turn.driver.position = s.driver.position ∨ s.turn.driver.position = s.pins.atStation) ∧
    s.turn.driver.faultCleared = s.driver.faultCleared ∧
    (s.schedule = [] → s.turn.driver = s.driver.rest .idle) := by
  unfold State.turn
  simp only [h]
  cases hs : s.schedule with
  | nil => exact ⟨.inl rfl, .inl rfl, rfl, fun _ => rfl⟩
  | cons e l =>
    simp only [List.head?_cons]
    split
    · exact ⟨.inr (.inl rfl), .inl rfl, rfl, nofun⟩
    · unfold State.approach
      simp only
      split
      · exact ⟨.inl h, .inl rfl, rfl, nofun⟩
      · split
        · next hstands => exact ⟨.inr (.inl rfl), .inr (State.standsAt_iff.mp hstands).1.symm, rfl, nofun⟩
        · exact ⟨.inr (.inr rfl), .inl rfl, rfl, nofun⟩

/-! ### The return to READY (R110, R112) -/

theorem State.finishClear_of_left (h : s.someRack s.remains = true) : s.finishClear = s := by
  rw [State.finishClear, State.recoverable, h, Bool.not_true, Bool.and_false]
  rfl

theorem State.settled_finishClear (s : State) : s.Settled s.finishClear := by
  unfold State.finishClear
  split
  · exact (s.settled_post _ _ _ _ _).trans (State.settled_judgeRecovery _)
  · exact .refl s

/-- With nothing left to evacuate CARRIAGE CLEAR returns the line to READY. -/
theorem State.finishClear_of_none_left (hl : s.line.state = .faulted) (hc : s.driver.faultCleared = true)
    (h : s.someRack s.remains = false) : s.finishClear.line.state = .ready ∧
      s.finishClear.line.carriageFault = s.line.carriageFault ∧ s.posted s.finishClear .evacuationDone 0 255 0 0 ∧ s.posted s.finishClear .lineState 0 255 0 (3 * 256 + 5) := by
  have hrec : s.recoverable = true := by rw [State.recoverable, hl, hc, h]; rfl
  have hframe := State.post_eq s .evacuationDone 0 255 0 0
  have hrec' : (s.postLine .evacuationDone 0 0).recoverable = true := by
    rw [State.postLine, hframe]
    exact hrec
  have hfinish : s.finishClear = (s.postLine .evacuationDone 0 0).enterLine .ready .recovered := by
    rw [State.finishClear, if_pos hrec, State.judgeRecovery, if_pos hrec']
  have hdone : s.posted (s.postLine .evacuationDone 0 0) .evacuationDone 0 255 0 0 := State.posted_post rfl
  have hsettled := (s.postLine .evacuationDone 0 0).settled_enterLine .ready .recovered
  rw [hfinish]
  refine ⟨?_, ?_, hdone.of_prefix hsettled.posts, ?_⟩
  · rw [State.enterLine_line]
    rfl
  · rw [State.enterLine_line, State.entered, State.postLine, State.post_line]
  · exact (State.enterLine_posted .ready .recovered).of_clock (by rw [State.postLine, State.post_clock])

theorem State.Settled.driver (h : s.Settled t) : t.driver = { s.driver with faultCleared := t.driver.faultCleared } := by
  cases h; rfl
theorem State.Settled.pins (h : s.Settled t) : t.pins = s.pins := by cases h; rfl
theorem State.Settled.run (h : s.Settled t) : t.run = s.run := by cases h; rfl

/-! ### The rack on the carriage (R110) -/

/-- Deciding the rack that was on the carriage leaves the line, the settings, the link and the pins as they are. -/
structure State.Decided (s v : State) : Prop where
  frame : v = { s with
    slots := v.slots, completions := v.completions, schedule := v.schedule, timelines := v.timelines, deferred := v.deferred
    driver := v.driver, plans := v.plans, manifold := v.manifold, events := v.events, lost := v.lost, evacOrder := v.evacOrder }
  empty : s.schedule = [] → v.schedule = []

/-- The end of a rack while the fault is not cleared settles nothing but the evacuation order. -/
theorem State.decided_of_ends {u : State} {slots : List (Option Rack)} {completions : List Completion} {events : List Event}
    {lost : Nat} (hl : s.line.state = .faulted) (hc : s.driver.faultCleared = false) (hu : u = { s.forgetRack k r with
      slots := slots, completions := completions, events := events, lost := lost }) :
    u.settleLine k = u.leaveEvacuation k ∧ s.Decided (u.leaveEvacuation k) := by
  have hleave := u.leaveEvacuation_frame k
  rw [State.forgetRack_eq] at hu
  subst hu
  refine ⟨State.settleLine_of_uncleared hl hc, ?_, fun hs => ?_⟩
  · generalize State.leaveEvacuation _ k = v at hleave
    rw [hleave]
  · rw [hleave]
    show dropBooked k s.schedule = []
    rw [hs]
    rfl

section
variable (hl : s.line.state = .faulted) (hc : s.driver.faultCleared = false) (hr : s.rack k = some r)
include hl hc hr

theorem State.loseCarried_record (hrec : r.recipe ≠ none) : s.Decided (s.loseCarried k r) ∧
    s.rackEnded (s.loseCarried k r) k r .lost ∧ s.posted (s.loseCarried k r) .rackRemoved 0 k r.tag 5 ∧
    ∀ j, j ≠ k → (s.loseCarried k r).rack j = s.rack j := by
  obtain ⟨hsettle, hdecided⟩ := State.decided_of_ends hl hc (s.rackEnds_eq k 0 r .lost)
  have hsettled := (s.rackEnds k 0 r .lost).settled_leaveEvacuation k
  rw [State.loseCarried, if_neg (by simpa using hrec), State.endRack_eq hr, hsettle]
  refine ⟨hdecided, (State.rackEnds_ended hr).congr (State.rack_congr hsettled.slots k) (by rw [hsettled.completions]),
    State.rackEnds_posted.of_prefix hsettled.posts, fun j hj => ?_⟩
  rw [State.rack_congr hsettled.slots, State.rackEnds_rack_other hj]

theorem State.loseCarried_orphan (hrec : r.recipe = none) : s.Decided (s.loseCarried k r) ∧
    (s.loseCarried k r).rack k = none ∧ (s.loseCarried k r).completions = s.completions ∧
    s.posted (s.loseCarried k r) .rackRemoved 0 k 0 0 ∧ ∀ j, j ≠ k → (s.loseCarried k r).rack j = s.rack j := by
  obtain ⟨hsettle, hdecided⟩ := State.decided_of_ends (completions := (s.forgetRack k r).completions) hl hc (s.orphanEnds_eq k 0 r)
  have hsettled := (s.orphanEnds k 0 r).settled_leaveEvacuation k
  rw [State.loseCarried, if_pos (by simpa using hrec), State.endOrphan_eq hr, hsettle]
  refine ⟨hdecided, ?_, ?_, State.orphanEnds_posted.of_prefix hsettled.posts, fun j hj => ?_⟩
  · rw [State.rack_congr hsettled.slots, State.orphanEnds_rack_same]
  · rw [hsettled.completions, State.orphanEnds_completions]
  · rw [State.rack_congr hsettled.slots, State.orphanEnds_rack_other hj]

end

end

/-! ### The command -/

section
variable {s : State} {f : Frame} {inp : Inputs}

theorem State.cannotClear_iff : s.cannotClear = false ↔ s.line.state = .faulted ∧ s.driver.faultCleared = false ∧
    1 ≤ s.pins.atStation ∧ s.pins.atStation ≤ s.cfg.line.count ∧ (s.pins.hoistUp = true ∨ s.pins.hoistDown = true) ∧
    (s.pins.hook = true → s.carried ≠ none) := by
  simp only [State.cannotClear, Bool.or_eq_false_iff, bne_eq_false_iff_eq, Bool.not_eq_false', State.configured_iff,
    Bool.or_eq_true, Bool.and_eq_false_imp, Option.isNone_eq_false_iff, Option.isSome_iff_ne_none, and_assoc]

@[simp] theorem State.taken_carried {kind : Byte} : (s.taken kind f inp).carried = s.carried := by
  rw [State.carried, State.taken_racks, State.carried]

theorem State.decided_decideCarried (hl : s.line.state = .faulted) (hc : s.driver.faultCleared = false) :
    s.Decided s.decideCarried := by
  unfold State.decideCarried
  split
  · next k r h =>
    have hr := (State.find_racks.mp h).2.1
    split
    · exact ⟨rfl, id⟩
    · by_cases hrec : r.recipe = none
      · exact (State.loseCarried_orphan hl hc hr hrec).1
      · exact (State.loseCarried_record hl hc hr hrec).1
  · exact ⟨rfl, id⟩

/-- An owner that leaves the link as it finds it, with the outputs after its command. -/
theorem exec_granted_driven {c : Instr} {kind : Byte} {lengthOk : List Byte → Bool} {u : State} {payload : List Byte}
    (hreq : requestOf c = some (kind, lengthOk, f, inp)) (hh : s.hears kind f) (hlen : lengthOk f.payload = true)
    (ho : (catalogue kind).2 f.payload (s.taken kind f inp) = (u, payload)) (hl : u.link = (s.taken kind f inp).link) :
    ∃ t, exec c s = .next t ∧ t = { u with link := s.replying kind f inp payload, out := t.out } ∧ t.outputsFollow :=
  ⟨_, (exec_owner hreq hh hlen).trans (by rw [ho]), State.drive_answer_eq hl payload, State.drive_outputsFollow _⟩

/-- The part after an accepted CARRIAGE CLEAR. -/
def State.carriageCleared (s : State) : State := s.decideCarried.clearFault.finishClear.turn

/-- The reply of an accepted CARRIAGE CLEAR. -/
def State.clearReply (s : State) : List Byte :=
  0#8 :: b1 s.pins.atStation ++ bBool s.pins.hook ++ slotTag (if s.pins.hook then s.carried else none) ++
    slotTag (if s.pins.hook then none else s.lostRack)

theorem carriageClearOwner_granted {p : List Byte} (h : s.cannotClear = false) :
    carriageClearOwner p s = (s.carriageCleared, s.clearReply) := by
  rw [carriageClearOwner, h]
  rfl

/-- What CARRIAGE CLEAR makes of the part, from what deciding the rack makes of it. -/
structure State.Cleared (v t : State) (n : Nat) : Prop where
  slots : t.slots = v.slots
  completions : t.completions = v.completions
  posts : v.events <+: t.events
  carriageFault : t.line.carriageFault = false
  position : t.driver.position = n
  standing : t.driver.state = .idle ∨ t.driver.state = .waiting ∨ t.driver.state = .approaching
  empty : v.schedule = [] → t.driver.state = .idle ∧ t.driver.goTo = n ∧ t.schedule = []
  left : v.someRack v.remains = true → t.line.state = .faulted ∧ t.driver.faultCleared = true
  none_left : v.someRack v.remains = false → t.line.state = .ready ∧ v.posted t .evacuationDone 0 255 0 0 ∧
    v.posted t .lineState 0 255 0 (3 * 256 + 5)

theorem State.cleared_clearFault (v : State) (hl : v.line.state = .faulted) :
    State.Cleared v v.clearFault.finishClear.turn v.pins.atStation := by
  have hsettled := v.clearFault.settled_finishClear
  have hleft (h : v.someRack v.remains = true) : v.clearFault.finishClear = v.clearFault := State.finishClear_of_left h
  have hnone := State.finishClear_of_none_left (s := v.clearFault) hl rfl
  have hremains : v.clearFault.someRack v.clearFault.remains = v.someRack v.remains := rfl
  have hidle : v.clearFault.finishClear.driver.state = .idle := by rw [hsettled.driver]; rfl
  obtain ⟨hstanding, hposition, hcleared, hempty⟩ := State.turn_of_idle hidle
  have hturn := v.clearFault.finishClear.turn_eq
  have hpos : v.clearFault.finishClear.driver.position = v.pins.atStation := by rw [hsettled.driver]; rfl
  have hgo : v.clearFault.finishClear.driver.goTo = v.pins.atStation := by rw [hsettled.driver]; rfl
  have hpins : v.clearFault.finishClear.pins = v.pins := hsettled.pins
  have hline : v.clearFault.finishClear.turn.line = v.clearFault.finishClear.line := by rw [hturn]
  have hevents : v.clearFault.finishClear.turn.events = v.clearFault.finishClear.events := by rw [hturn]
  refine ⟨?_, ?_, ?_, ?_, ?_, hstanding, fun h => ?_, fun h => ?_, fun h => ?_⟩
  · rw [hturn]
    exact hsettled.slots
  · rw [hturn]
    exact hsettled.completions
  · rw [hevents]
    exact hsettled.posts
  · rw [hline]
    cases h : v.someRack v.remains with
    | true => rw [hleft h]; rfl
    | false => exact (hnone (hremains.trans h)).2.1
  · rcases hposition with h | h
    · rw [h, hpos]
    · rw [h, hpins]
  · have hsched : v.clearFault.finishClear.schedule = [] := hsettled.schedule.trans h
    rw [hempty hsched, hturn]
    exact ⟨rfl, hgo, hsched⟩
  · rw [hline, hcleared, hleft h]
    exact ⟨hl, rfl⟩
  · obtain ⟨hready, -, hdone, hstate⟩ := hnone (hremains.trans h)
    rw [hline]
    exact ⟨hready, (hdone.of_clock (s := v) rfl).congr hevents, (hstate.of_clock (s := v) rfl).congr hevents⟩

theorem exec_carriageClear (hh : s.hears 0x12#8 f) (hp : f.payload = []) (h : (s.taken 0x12#8 f inp).cannotClear = false) :
    ∃ t, exec (.carriageClear f inp) s = .next t ∧ t.link = s.replying 0x12#8 f inp (s.taken 0x12#8 f inp).clearReply ∧
      t.out.raise = false ∧ t.out.lower = false ∧ (s.taken 0x12#8 f inp).Decided (s.taken 0x12#8 f inp).decideCarried ∧
      State.Cleared (s.taken 0x12#8 f inp).decideCarried t inp.atStation := by
  obtain ⟨hl, hc, -⟩ := State.cannotClear_iff.mp h
  have hdecided := State.decided_decideCarried hl hc
  have hframe := hdecided.frame
  have hpins : (s.taken 0x12#8 f inp).decideCarried.pins = inp := by rw [hframe]; exact State.taken_pins
  have hcleared := State.cleared_clearFault (s.taken 0x12#8 f inp).decideCarried (by rw [hframe]; exact hl)
  rw [hpins] at hcleared
  have hlink : (s.taken 0x12#8 f inp).carriageCleared.link = (s.taken 0x12#8 f inp).link := by
    rw [State.carriageCleared, State.turn_eq]
    refine (State.settled_finishClear _).link.trans ?_
    show (s.taken 0x12#8 f inp).decideCarried.link = _
    rw [hframe]
  obtain ⟨t, hexec, ht, hout⟩ := exec_granted_driven (c := .carriageClear f inp) rfl hh (by simp [fixedLength, hp])
    (carriageClearOwner_granted (p := f.payload) h) hlink
  have hrun : t.run = .running := by
    rw [ht]
    show (s.taken 0x12#8 f inp).decideCarried.clearFault.finishClear.turn.run = _
    rw [State.turn_eq]
    refine (State.settled_finishClear _).run.trans ?_
    show (s.taken 0x12#8 f inp).decideCarried.run = _
    rw [hframe, State.taken, State.accept_eq]
    exact hh.1
  obtain ⟨hraise, hlower, -⟩ := hout hrun
  have hdriver : t.driver = (s.taken 0x12#8 f inp).carriageCleared.driver := by rw [ht]
  have hstanding := hcleared.standing
  have hnot {x : DriverState} (hx : x = .raise ∨ x = .lower) : t.driver.state ≠ x := by
    rw [hdriver]
    rintro rfl
    rcases hstanding with h | h | h <;> rcases hx with hx | hx <;> rw [State.carriageCleared, h] at hx <;> cases hx
  refine ⟨t, hexec, by rw [ht], Bool.eq_false_iff.mpr fun h => hnot (.inl rfl) (hraise.mp h),
    Bool.eq_false_iff.mpr fun h => hnot (.inr rfl) (hlower.mp h), hdecided, ?_⟩
  obtain ⟨h1, h2, h3, h4, h5, h6, h7, h8, h9⟩ := hcleared
  rw [ht]
  exact ⟨h1, h2, h3, h4, h5, h6, h7, h8, h9⟩

end

section
variable {s v t : State} {f : Frame} {inp : Inputs} {k : Nat} {r : Rack}

theorem State.Decided.isBath (h : s.Decided v) (n : Nat) : v.isBath n = s.isBath n := by
  rw [h.frame]
  rfl

/-- What remains is what was left apart from the rack that was on the carriage. -/
theorem State.remains_of_others (hd : s.Decided v) (hother : ∀ j, s.carried.map (·.1) ≠ some j → v.rack j = s.rack j)
    (hself : ∀ j q, s.carried.map (·.1) = some j → v.rack j = some q → s.isBath q.station = false ∧ q.phase ≠ .onCarriage) :
    v.someRack v.remains = false ↔
      ∀ e ∈ s.racks, s.carried.map (·.1) ≠ some e.1 → s.isBath e.2.station = false ∧ e.2.phase ≠ .onCarriage := by
  have hnot (q : Rack) : v.remains q = false ↔ s.isBath q.station = false ∧ q.phase ≠ .onCarriage := by
    rw [Bool.eq_false_iff, Ne, State.remains_iff, hd.isBath, not_or, Bool.not_eq_true]
  simp only [State.someRack, List.any_eq_false, Bool.not_eq_true, hnot, Prod.forall, State.mem_racks]
  constructor
  · rintro h j q ⟨hj, hq⟩ hne
    exact h j q ⟨hj, (hother j hne).trans hq⟩
  · rintro h j q ⟨hj, hq⟩
    by_cases hne : s.carried.map (·.1) = some j
    · exact hself j q hne hq
    · exact h j q ⟨hj, (hother j hne).symm.trans hq⟩ hne

theorem State.isBath_zero : s.isBath 0 = false :=
  Bool.eq_false_iff.mpr fun h => absurd (State.one_le_of_isBath h) (by decide)

end

/-- Settles O45. -/
theorem carriageClearFreesTheCarriage : Obligations.CarriageClearFreesTheCarriage := by
  unfold Obligations.CarriageClearFreesTheCarriage
  intro f inp s hh hp clearable hclearable
  have hcan : (s.taken 0x12#8 f inp).cannotClear = false ↔ clearable := by
    rw [hclearable, State.cannotClear_iff]
    simp only [State.taken_pins, State.taken_line, State.taken_driver, State.taken_cfg, State.taken_carried]
  refine ⟨fun hno => ?_, fun hyes => ?_⟩
  · have hcannot : (s.taken 0x12#8 f inp).cannotClear = true := Bool.not_eq_false _ ▸ fun h => hno (hcan.mp h)
    exact exec_refused (c := .carriageClear f inp) rfl hh (by simp [fixedLength, hp]) (if_pos hcannot)
  obtain ⟨t, hexec, hlink, hraise, hlower, hdecided, ht⟩ := exec_carriageClear hh hp (hcan.mpr hyes)
  obtain ⟨hl, hc, -, -, -, hhook⟩ := hclearable.mp hyes
  have htl : (s.taken 0x12#8 f inp).line.state = s.line.state := by rw [State.taken_line]
  have htc : (s.taken 0x12#8 f inp).driver.faultCleared = s.driver.faultCleared := by rw [State.taken_driver]
  have htr {k : Nat} {r : Rack} (h : s.rack k = some r) : (s.taken 0x12#8 f inp).rack k = some r :=
    (State.rack_congr (State.taken_slots ..) k).trans h
  have hlost {k : Nat} {r : Rack} (hk : s.carried = some (k, r)) (hhk : inp.hook = false) :
      (s.taken 0x12#8 f inp).decideCarried = (s.taken 0x12#8 f inp).loseCarried k r := by
    rw [State.decideCarried, State.taken_carried, hk]
    exact if_neg (by rw [State.taken_pins, hhk]; decide)
  have hkept (hnone : s.carried = none) : (s.taken 0x12#8 f inp).decideCarried = s.taken 0x12#8 f inp := by
    rw [State.decideCarried, State.taken_carried, hnone]
  refine ⟨t, hexec, ht.carriageFault, ht.position, hraise, hlower, fun hs => ?_, fun k r hk hhk => ?_, fun k r hk hhk => ?_,
    fun hnone => ?_, fun hleft => ?_⟩
  · exact ht.empty (hdecided.empty (by rwa [State.taken_schedule]))
  · have hr := (State.find_racks.mp hk).2.1
    have hk24 := (State.find_racks.mp hk).1
    have hcarry : r.phase = .onCarriage := by simpa using (State.find_racks.mp hk).2.2.1
    have hv : (s.taken 0x12#8 f inp).decideCarried = (s.taken 0x12#8 f inp).setRack k r.interrupt := by
      rw [State.decideCarried, State.taken_carried, hk]
      exact if_pos (by rw [State.taken_pins]; exact hhk)
    have hself : (s.taken 0x12#8 f inp).decideCarried.rack k = some r.interrupt := by
      rw [hv, State.rack_setRack_same _ _ (by rw [State.taken_slots]; exact State.rack_lt hr)]
    obtain ⟨hstate, hcleared⟩ := ht.left (State.someRack_iff.mpr ⟨(k, r.interrupt), State.mem_racks.mpr ⟨hk24, hself⟩,
      State.remains_iff.mpr (.inr hcarry)⟩)
    refine ⟨?_, fun j hj => ?_, hstate, hcleared, ?_⟩
    · rw [State.rack_congr ht.slots, hself]
      rfl
    · rw [State.rack_congr ht.slots, hv, State.rack_setRack_other _ _ hj, State.rack_congr (State.taken_slots ..)]
    · rw [hlink, State.clearReply, State.taken_pins, State.taken_carried, hhk, hk]
      simp only [List.append_assoc, slotTag]
      rfl
  · have hr := (State.find_racks.mp hk).2.1
    have hv : (s.taken 0x12#8 f inp).decideCarried = (s.taken 0x12#8 f inp).loseCarried k r := hlost hk hhk
    have hreply (h : slotTag (s.taken 0x12#8 f inp).lostRack = slotTag (if r.recipe.isSome then some (k, r) else none)) :
        (s.taken 0x12#8 f inp).clearReply = 0#8 :: b1 inp.atStation ++ [0#8] ++ [255#8, 0#8, 0#8] ++
          slotTag (if r.recipe.isSome then some (k, r) else none) := by
      rw [State.clearReply, State.taken_pins, hhk, ← h]
      rfl
    have hlostRack : (s.taken 0x12#8 f inp).lostRack = if r.recipe.isSome then some (k, r) else none := by
      rw [State.lostRack, State.taken_carried, hk, Option.filter_some]
    have hreply' := hreply (by rw [hlostRack])
    by_cases hrec : r.recipe = none
    · obtain ⟨-, hgone, hcompletions, hposted, hother⟩ := State.loseCarried_orphan (htl.trans hl) (htc.trans hc) (htr hr) hrec
      rw [← hv] at hgone hcompletions hposted hother
      refine ⟨fun j hj => ?_, fun _ => ⟨?_, ?_, ?_, ?_⟩, fun h => absurd hrec h⟩
      · rw [State.rack_congr ht.slots, hother j hj, State.rack_congr (State.taken_slots ..)]
      · rw [State.rack_congr ht.slots, hgone]
      · rw [ht.completions, hcompletions, State.taken_completions]
      · exact (hposted.of_clock (State.taken_clock ..)).of_prefix ht.posts
      · rw [hlink, hreply', hrec]
        simp only [List.append_assoc]
        rfl
    · obtain ⟨-, hended, hposted, hother⟩ := State.loseCarried_record (htl.trans hl) (htc.trans hc) (htr hr) hrec
      rw [← hv] at hended hposted hother
      refine ⟨fun j hj => ?_, fun h => absurd h hrec, fun _ => ⟨?_, ?_, ?_⟩⟩
      · rw [State.rack_congr ht.slots, hother j hj, State.rack_congr (State.taken_slots ..)]
      · exact (hended.of_clock (State.taken_clock ..)).congr (State.rack_congr ht.slots k) (by rw [ht.completions])
      · exact (hposted.of_clock (State.taken_clock ..)).of_prefix ht.posts
      · rw [hlink, hreply', if_pos (Option.isSome_iff_ne_none.mpr hrec)]
        simp only [List.append_assoc]
        rfl
  · have hv := hkept hnone
    refine ⟨by rw [ht.slots, hv, State.taken_slots], ?_⟩
    have hhookless : inp.hook = false := Bool.eq_false_iff.mpr fun h => hhook h hnone
    rw [hlink, State.clearReply, State.taken_pins, hhookless, State.lostRack, State.taken_carried, hnone]
    simp only [List.append_assoc, slotTag]
    rfl
  · have hremains := State.remains_of_others hdecided (fun j hj => ?_) (fun j q hj hq => ?_)
    · simp only [State.taken_racks, State.taken_carried, State.taken_isBath] at hremains
      split
      · next h =>
        obtain ⟨hready, hdone, hstate⟩ := ht.none_left (hremains.mpr h)
        have hclock : (s.taken 0x12#8 f inp).decideCarried.clock = s.clock := by rw [hdecided.frame]; exact State.taken_clock ..
        exact ⟨hready, hdone.of_clock hclock, hstate.of_clock hclock⟩
      · next h => exact ht.left (Bool.not_eq_false _ ▸ fun hf => h (hremains.mp hf))
    · rw [State.taken_carried] at hj
      rcases hleft with hnone | hhk
      · rw [hkept hnone]
      · cases hk : s.carried with
        | none => rw [hkept hk]
        | some e =>
          obtain ⟨k, r⟩ := e
          have hne : j ≠ k := fun h => hj (by rw [hk, h]; rfl)
          rw [hlost hk hhk]
          by_cases hrec : r.recipe = none
          · exact (State.loseCarried_orphan (htl.trans hl) (htc.trans hc) (htr (State.find_racks.mp hk).2.1) hrec).2.2.2.2 j hne
          · exact (State.loseCarried_record (htl.trans hl) (htc.trans hc) (htr (State.find_racks.mp hk).2.1) hrec).2.2.2 j hne
    · rw [State.taken_carried] at hj
      obtain ⟨⟨k, r⟩, hk, rfl⟩ := Option.map_eq_some_iff.mp hj
      rcases hleft with hnone | hhk
      · rw [hnone] at hk
        cases hk
      · rw [hlost hk hhk] at hq
        by_cases hrec : r.recipe = none
        · rw [(State.loseCarried_orphan (htl.trans hl) (htc.trans hc) (htr (State.find_racks.mp hk).2.1) hrec).2.1] at hq
          cases hq
        · rcases (State.loseCarried_record (htl.trans hl) (htc.trans hc) (htr (State.find_racks.mp hk).2.1) hrec).2.1 with
            ⟨hgone, -⟩ | ⟨-, x, hx, hphase, hstation, -⟩
          · rw [hgone] at hq
            cases hq
          · obtain rfl : x = q := by simpa [hx] using hq
            rw [hstation, hphase]
            exact ⟨State.isBath_zero, nofun⟩

end Sys2Proof.Machine
end

section
/-! PROOFS. The start-up load (1.11, 4.8). -/

namespace Sys2Proof.Machine

/-! ### The cradles, the exhaustion flags and the presence samples of the load -/

section
variable {s : State} {l : List Nat} {m : Nat}

theorem State.foldl_beginFalling_eq (s : State) (l : List Nat) (start : Nat) :
    l.foldl (fun t n => t.beginFalling n start) s =
      { s with cradles := (l.foldl (fun t n => t.beginFalling n start) s).cradles } := by
  induction l generalizing s with
  | nil => rfl
  | cons n l ih => rw [List.foldl_cons, ih]; rfl

/-- The cradle of every station of the list is commanded down (R113). -/
theorem State.cradle_foldl_beginFalling (start : Nat) (h1 : 1 ≤ m) (hm : m ≤ s.cradles.length) :
    (l.foldl (fun t n => t.beginFalling n start) s).cradle m =
      if m ∈ l then ⟨if (s.pin m).cradleDown = true then .down else .falling, start, (s.cradle m).outTime⟩ else s.cradle m := by
  induction l generalizing s with
  | nil => rfl
  | cons n l ih =>
    rw [List.foldl_cons, ih (by simpa [State.beginFalling, State.setCradle] using hm)]
    have hpin : (s.beginFalling n start).pin m = s.pin m := rfl
    rw [hpin]
    by_cases hmn : m = n
    · subst hmn
      have hsame : (s.beginFalling m start).cradle m = _ := State.cradle_setCradle_same _ _ h1 hm
      rw [hsame, if_pos List.mem_cons_self]
      split <;> rfl
    · have hother : (s.beginFalling n start).cradle m = s.cradle m := State.cradle_setCradle_other _ _ hmn
      simp only [hother, List.mem_cons, hmn, false_or]

theorem State.foldl_assertExhUnknown_eq (s : State) (l : List Nat) :
    l.foldl (fun t n => t.assertFlag n .exhUnknown) s =
      { s with baths := (l.foldl (fun t n => t.assertFlag n .exhUnknown) s).baths } := by
  induction l generalizing s with
  | nil => rfl
  | cons n l ih =>
    refine (ih (s.assertFlag n .exhUnknown)).trans ?_
    exact congrArg (fun x : State => { x with
      baths := (l.foldl (fun (t : State) n => t.assertFlag n .exhUnknown) (s.assertFlag n .exhUnknown)).baths }) (s.assertExhUnknown_frame n)

theorem State.assertExhUnknown_length (n : Nat) : (s.assertFlag n .exhUnknown).baths.length = s.baths.length := by
  rw [State.assertExhUnknown_eq]
  split
  · rfl
  · simp [State.setBath]

theorem State.foldl_assertExhUnknown_length :
    (l.foldl (fun t n => t.assertFlag n .exhUnknown) s).baths.length = s.baths.length := by
  induction l generalizing s with
  | nil => rfl
  | cons n l ih => rw [List.foldl_cons, ih, State.assertExhUnknown_length]

/-- EXH_UNKNOWN stands at every station of the list, and elsewhere as before (R134). -/
theorem State.cond_foldl_assertExhUnknown (h1 : 1 ≤ m) (hm : m ≤ s.baths.length) :
    (l.foldl (fun t n => t.assertFlag n .exhUnknown) s).cond m .exhUnknown = true ↔ m ∈ l ∨ s.cond m .exhUnknown = true := by
  induction l generalizing s with
  | nil => simp
  | cons n l ih =>
    rw [List.foldl_cons, ih (by rwa [State.assertExhUnknown_length])]
    by_cases hmn : m = n
    · subst hmn
      have hset : (s.assertFlag m .exhUnknown).cond m .exhUnknown = true := by
        rw [State.cond, State.bath_assertExhUnknown h1 hm]
        exact FlagSet.get_set_same (s.bath m).conds .exhUnknown true
      simp [hset]
    · have hother : (s.assertFlag n .exhUnknown).cond m .exhUnknown = s.cond m .exhUnknown := by
        rw [State.assertExhUnknown_eq]
        split
        · rfl
        · rw [State.cond, State.bath_setBath_other _ _ hmn, State.cond]
      rw [hother, List.mem_cons, or_iff_right hmn]

theorem State.foldl_firstPresence_eq (s : State) (l : List Nat) :
    l.foldl State.firstPresence s = { s with baths := (l.foldl State.firstPresence s).baths } := by
  induction l generalizing s with
  | nil => rfl
  | cons n l ih => rw [List.foldl_cons, ih]; rfl

/-- The presence of every station of the list is sampled, and no condition changes (R70). -/
theorem State.bath_foldl_firstPresence (h1 : 1 ≤ m) (hm : m ≤ s.baths.length) :
    (l.foldl State.firstPresence s).bath m = if m ∈ l then { s.bath m with presence := (s.pin m).presence } else s.bath m := by
  induction l generalizing s with
  | nil => rfl
  | cons n l ih =>
    rw [List.foldl_cons, ih (by simpa [State.firstPresence, State.setBath] using hm)]
    have hpin : (s.firstPresence n).pin m = s.pin m := rfl
    rw [hpin]
    by_cases hmn : m = n
    · subst hmn
      have hsame : (s.firstPresence m).bath m = { s.bath m with presence := (s.pin m).presence } :=
        State.bath_setBath_same _ _ h1 hm
      rw [hsame, if_pos List.mem_cons_self]
      split <;> rfl
    · have hother : (s.firstPresence n).bath m = s.bath m := State.bath_setBath_other _ _ hmn
      simp only [hother, List.mem_cons, hmn, false_or]

/-! ### The orphans (R70) -/

theorem State.foldl_findOrphan_eq (s : State) (l : List Nat) : l.foldl State.findOrphan s = { s with
    slots := (l.foldl State.findOrphan s).slots, events := (l.foldl State.findOrphan s).events
    lost := (l.foldl State.findOrphan s).lost } := by
  induction l generalizing s with
  | nil => rfl
  | cons n l ih =>
    have hone : s.findOrphan n = { s with
        slots := (s.findOrphan n).slots, events := (s.findOrphan n).events, lost := (s.findOrphan n).lost } := by
      unfold State.findOrphan
      split
      · simp only [State.post_slots]
        exact State.post_eq _ _ _ _ _ _
      · rfl
    refine (ih (s.findOrphan n)).trans ?_
    exact congrArg (fun x : State => { x with
      slots := (l.foldl State.findOrphan (s.findOrphan n)).slots, events := (l.foldl State.findOrphan (s.findOrphan n)).events
      lost := (l.foldl State.findOrphan (s.findOrphan n)).lost }) hone

/-- Every slot from `j` on is free. -/
def State.freeFrom (s : State) (j : Nat) : Prop := s.slots.length = 24 ∧ ∀ i, j ≤ i → s.rack i = none

theorem State.lowestFree_of_freeFrom {j : Nat} (h : s.freeFrom j) (hj : j < 24) : ∃ k, s.lowestFree = some k ∧ k ≤ j := by
  cases hk : s.lowestFree with
  | none =>
    have hall := List.find?_eq_none.mp hk j (by simp [allSlots, hj])
    rw [h.2 j le_rfl] at hall
    exact absurd rfl hall
  | some k =>
    refine ⟨k, rfl, ?_⟩
    rw [State.lowestFree, allSlots, List.find?_range_eq_some] at hk
    by_contra hlt
    have hused := hk.2.2 j (by omega)
    rw [h.2 j le_rfl] at hused
    cases hused

/-- What the search for orphans over a list of stations leaves. -/
structure State.OrphansFound (s t : State) (l : List Nat) : Prop where
  found : ∀ n ∈ l, ∃ k, t.rack k = some (.orphanAt n s.clock)
  kept : ∀ k r, s.rack k = some r → t.rack k = some r
  only : ∀ k r, t.rack k = some r → s.rack k = some r ∨
    ∃ n ∈ l, r = .orphanAt n s.clock ∧ (⟨s.clock, .orphanFound, n, k, 0, 0⟩ : Event) ∈ t.events
  events : ∃ es, t.events = s.events ++ es ∧ ∀ e ∈ es, e.kind = .orphanFound ∧ e.tag = 0
  lost : t.lost = s.lost

theorem State.orphansFound_foldl {j : Nat} (hfree : s.freeFrom j) (hj : j + l.length ≤ 24)
    (hev : s.events.length + l.length ≤ 64) : s.OrphansFound (l.foldl State.findOrphan s) l := by
  induction l generalizing s j with
  | nil => exact ⟨nofun, fun _ _ h => h, fun _ _ h => .inl h, ⟨[], by simp, nofun⟩, rfl⟩
  | cons n l ih =>
    rw [List.length_cons] at hj hev
    obtain ⟨k, hk, hkj⟩ := State.lowestFree_of_freeFrom hfree (by omega)
    have hstep : s.findOrphan n = (s.setRack k (.orphanAt n s.clock)).post .orphanFound n k 0 0 := by
      rw [State.findOrphan, hk]
    have hslots : (s.findOrphan n).slots = (s.setRack k (.orphanAt n s.clock)).slots := by rw [hstep, State.post_slots]
    have hclock : (s.findOrphan n).clock = s.clock := by rw [hstep, State.post_clock, State.setRack_clock]
    obtain ⟨hevents, hlost⟩ : (s.findOrphan n).events = s.events ++ [⟨s.clock, .orphanFound, n, k, 0, 0⟩] ∧
        (s.findOrphan n).lost = s.lost := by
      rw [hstep]
      rcases (s.setRack k (.orphanAt n s.clock)).post_cases .orphanFound n k 0 0 with ⟨-, h⟩ | ⟨hfull, -⟩
      · rw [h]
        exact ⟨rfl, rfl⟩
      · rw [State.setRack_events] at hfull
        omega
    have hself : (s.findOrphan n).rack k = some (.orphanAt n s.clock) := by
      rw [State.rack_congr hslots, State.rack_setRack_same _ _ (by have := hfree.1; omega)]
    have hother {i : Nat} (hi : i ≠ k) : (s.findOrphan n).rack i = s.rack i := by
      rw [State.rack_congr hslots, State.rack_setRack_other _ _ hi]
    have hnext : (s.findOrphan n).freeFrom (j + 1) := by
      refine ⟨by rw [hslots]; simpa [State.setRack] using hfree.1, fun i hi => ?_⟩
      rw [hother (by omega)]
      exact hfree.2 i (by omega)
    have hrest := ih hnext (by omega) (by rw [hevents, List.length_append]; simp; omega)
    rw [List.foldl_cons]
    obtain ⟨hfound, hkept, honly, ⟨es, hes, hkinds⟩, hlost'⟩ := hrest
    rw [hclock] at hfound honly
    refine ⟨fun x hx => ?_, fun i r hi => ?_, fun i r hi => ?_, ⟨⟨s.clock, .orphanFound, n, k, 0, 0⟩ :: es, ?_, fun e he => ?_⟩,
      hlost'.trans hlost⟩
    · rcases List.mem_cons.mp hx with rfl | hx
      · exact ⟨k, hkept k _ hself⟩
      · exact hfound x hx
    · refine hkept i r ?_
      rw [hother, hi]
      rintro rfl
      rw [State.rack_lowestFree hk] at hi
      cases hi
    · rcases honly i r hi with h | ⟨x, hx, hr, he⟩
      · by_cases hik : i = k
        · subst hik
          obtain rfl : Rack.orphanAt n s.clock = r := by simpa [hself] using h
          exact .inr ⟨n, List.mem_cons_self, rfl, by rw [hes, hevents]; simp⟩
        · exact .inl (by rwa [hother hik] at h)
      · exact .inr ⟨x, List.mem_cons_of_mem _ hx, hr, he⟩
    · rw [hes, hevents, List.append_assoc]
      rfl
    · rcases List.mem_cons.mp he with rfl | he
      · exact ⟨rfl, rfl⟩
      · exact hkinds e he

theorem State.OrphansFound.congr {u t : State} (h : s.OrphansFound t l) (hs : u.slots = s.slots) (hc : u.clock = s.clock)
    (he : u.events = s.events) (hl : u.lost = s.lost) : u.OrphansFound t l := by
  obtain ⟨hfound, hkept, honly, hevents, hlost⟩ := h
  refine ⟨?_, ?_, ?_, ?_, ?_⟩
  · rwa [hc]
  · simpa only [State.rack_congr hs] using hkept
  · simpa only [State.rack_congr hs, hc] using honly
  · rwa [he]
  · rwa [hl]

end

end Sys2Proof.Machine
end

section
/-! PROOFS. The start-up load over an image and over none (1.11). -/

namespace Sys2Proof.Machine

section
variable {s : State} {cause : ResetCause} {inp : Inputs}

/-- The end of the start-up load. -/
theorem exec_startupLoadDone (hrun : s.run = .loading cause) :
    exec (.startupLoadDone inp) s = .next ((s.latch inp).loadDone cause).drive := by
  have hend : (s.latch inp).endLoad = (s.latch inp).loadDone cause := by
    rw [State.endLoad, show (s.latch inp).run = .loading cause from hrun]
  rw [show exec (.startupLoadDone inp) s = event inp State.endLoad s from rfl, event_loading hrun, hend]

theorem State.takeSettings_tables (c : Settings) (d : Bool) : (s.takeSettings c d).cfg = c ∧
    (s.takeSettings c d).events = [] ∧ (s.takeSettings c d).lost = 0 ∧ (s.takeSettings c d).clock = s.clock :=
  ⟨rfl, rfl, rfl, rfl⟩

/-! ### No image -/

theorem State.load_none (h : s.nv = .blank ∨ s.nv = .damaged ∨ ∃ c check, s.nv = .image c check ∧ crc16 c.bytes ≠ check) :
    s.nv.load = none := by
  rcases h with h | h | ⟨c, check, h, hbad⟩ <;> rw [h]
  · rfl
  · rfl
  · rw [NvImage.load, if_neg hbad]

/-- Under the factory defaults every station is UNUSED. -/
theorem State.role_of_factory (h : s.cfg = .factory) (n : Nat) : s.role n = .unused := by
  have hcfg : s.stationCfg n = .factory := by
    rw [State.stationCfg, h]
    show atStation (List.replicate 16 StationCfg.factory) StationCfg.factory n = StationCfg.factory
    cases n with
    | zero => rfl
    | succ k =>
      rw [atStation, List.getD_eq_getElem?_getD, List.getElem?_replicate]
      split <;> rfl
  rw [State.role, hcfg]
  split <;> rfl

/-- With every station UNUSED the load finds no cradle, no exhaustion flag and no orphan. -/
theorem State.lowerCradles_of_unused (h : ∀ n, s.role n = .unused) : s.lowerCradles = s := by
  have hnone : s.bathStations = [] := by
    rw [State.bathStations, List.filter_eq_nil_iff]
    intro n _
    rw [State.isBath, h]
    decide
  rw [State.lowerCradles, hnone]
  rfl

theorem State.doubtExhaustion_of_unused (h : ∀ n, s.role n = .unused) : s.doubtExhaustion = s := by
  have hnone : (s.stations.filter fun n => s.role n == .develop) = [] := by
    rw [List.filter_eq_nil_iff]
    intro n _
    rw [h]
    decide
  rw [State.doubtExhaustion, hnone]
  rfl

theorem State.createOrphans_of_unused (h : ∀ n, s.role n = .unused) : s.createOrphans = s := by
  have hnone : (s.stations.filter fun n => (s.role n).keepsOrphan) = [] := by
    rw [List.filter_eq_nil_iff]
    intro n _
    rw [h]
    decide
  rw [State.createOrphans, hnone]
  rfl

theorem State.loadDone_of_none (h : s.nv.load = none) : s.loadDone cause = { s.takeSettings .factory true with
    events := [⟨s.clock, .resetDone, 0, 255, 0, cause.code⟩, ⟨s.clock, .configDefaulted, 0, 255, 0, 0⟩] } := by
  have hunused : ∀ n, (s.takeSettings .factory true).role n = .unused := State.role_of_factory rfl
  rw [State.loadDone, h]
  simp only [Option.getD_none, Option.isNone_none, if_true]
  rw [State.lowerCradles_of_unused hunused, State.doubtExhaustion_of_unused hunused]
  exact State.createOrphans_of_unused (State.role_of_factory rfl)

end

/-- Settles O5. -/
theorem failedImageLoadsTheDefaults : Obligations.FailedImageLoadsTheDefaults := by
  unfold Obligations.FailedImageLoadsTheDefaults
  intro s cause inp hrun hnv
  have hload := State.loadDone_of_none (s := s.latch inp) (cause := cause) (State.load_none hnv)
  refine ⟨_, exec_startupLoadDone hrun, ?_⟩
  have ht := State.drive_eq ((s.latch inp).loadDone cause)
  rw [hload] at ht ⊢
  generalize State.drive _ = t at ht
  refine ⟨by rw [ht]; rfl, by rw [ht]; rfl, ?_, ?_, ?_, ?_, ?_, ?_, ?_, by rw [ht]; rfl, by rw [ht]; rfl, ?_⟩
  all_goals rw [ht]
  · exact ⟨rfl, fun c hc => List.eq_of_mem_replicate hc⟩
  · exact fun b hb => List.eq_of_mem_replicate hb
  · exact fun b hb => List.eq_of_mem_replicate hb
  · exact fun b hb => List.eq_of_mem_replicate hb
  · exact ⟨rfl, fun c hc => List.eq_of_mem_replicate hc⟩
  · exact ⟨rfl, fun c hc => List.eq_of_mem_replicate hc⟩
  · exact ⟨rfl, fun c hc => List.eq_of_mem_replicate hc⟩
  · rfl

/-! ### An image that passes its check -/

section
variable {s : State} {cause : ResetCause} {c : Settings} {n : Nat}

/-- The stations whose presence the load samples (R70). -/
def State.sampledAtLoad (s : State) : List Nat := s.stations.filter fun n => (s.role n).keepsOrphan

/-- Those of them that show a rack. -/
def State.shownAtLoad (s : State) : List Nat := s.sampledAtLoad.filter fun n => (s.pin n).presence

/-- The part with its settings, its cradles commanded down and EXH_UNKNOWN set, before RESET_DONE. -/
def State.prepared (s : State) (c : Settings) : State := (s.takeSettings c false).lowerCradles.doubtExhaustion

/-- The part as the load finds it for its first presence samples. -/
def State.readied (s : State) (c : Settings) (cause : ResetCause) : State := (s.prepared c).postLine .resetDone 0 cause.code

theorem State.loadDone_of_image (h : s.nv.load = some c) : s.loadDone cause =
    (s.readied c cause).shownAtLoad.foldl State.findOrphan
      ((s.readied c cause).sampledAtLoad.foldl State.firstPresence (s.readied c cause)) := by
  rw [State.loadDone, h]
  rfl

theorem State.prepared_frame : s.prepared c = { s.takeSettings c false with
    cradles := (s.takeSettings c false).lowerCradles.cradles, baths := (s.prepared c).baths } := by
  have hlower := (s.takeSettings c false).foldl_beginFalling_eq (s.takeSettings c false).bathStations 0
  have hdoubt := (s.takeSettings c false).lowerCradles.foldl_assertExhUnknown_eq
    ((s.takeSettings c false).lowerCradles.stations.filter fun n => (s.takeSettings c false).lowerCradles.role n == .develop)
  refine hdoubt.trans ?_
  exact congrArg (fun x : State => { x with baths := (s.prepared c).baths }) hlower

theorem State.readied_eq : s.readied c cause = { s.prepared c with events := [⟨s.clock, .resetDone, 0, 255, 0, cause.code⟩] } := by
  have hev : (s.prepared c).events = [] := by rw [State.prepared_frame]; rfl
  have hclock : (s.prepared c).clock = s.clock := by rw [State.prepared_frame]; rfl
  rcases (s.prepared c).post_cases .resetDone 0 255 0 cause.code with ⟨-, h⟩ | ⟨hfull, -⟩
  · exact h.trans (congrArg (fun es : List Event => { s.prepared c with events := es }) (by rw [hev, hclock]; rfl))
  · rw [hev] at hfull
    exact absurd hfull (by decide)

theorem State.allStations_nodup : allStations.Nodup := by decide

theorem State.shownAtLoad_length (s : State) : s.shownAtLoad.length ≤ 16 := by
  have h1 := List.length_filter_le (fun n => (s.pin n).presence) s.sampledAtLoad
  have h2 := List.length_filter_le (fun n => (s.role n).keepsOrphan) s.stations
  have h3 := List.length_filter_le s.configured allStations
  have h4 : allStations.length = 16 := by decide
  rw [← State.shownAtLoad] at h1
  rw [← State.sampledAtLoad] at h2
  rw [← State.stations] at h3
  omega

theorem Role.keepsOrphan_iff (r : Role) : r.keepsOrphan = true ↔ r = .develop ∨ r = .bath ∨ r = .unload := by
  cases r <;> simp [Role.keepsOrphan]

theorem State.mem_sampledAtLoad : n ∈ s.sampledAtLoad ↔
    1 ≤ n ∧ n ≤ 16 ∧ (s.role n = .develop ∨ s.role n = .bath ∨ s.role n = .unload) := by
  rw [State.sampledAtLoad, List.mem_filter, State.mem_stations, Role.keepsOrphan_iff]
  constructor
  · rintro ⟨⟨h1, h16, -⟩, hr⟩
    exact ⟨h1, h16, hr⟩
  · rintro ⟨h1, h16, hr⟩
    exact ⟨⟨h1, h16, State.configured_of_role fun hu => by rw [hu] at hr; simp at hr⟩, hr⟩

theorem State.mem_shownAtLoad : n ∈ s.shownAtLoad ↔
    1 ≤ n ∧ n ≤ 16 ∧ (s.role n = .develop ∨ s.role n = .bath ∨ s.role n = .unload) ∧ (s.pin n).presence = true := by
  rw [State.shownAtLoad, List.mem_filter, State.mem_sampledAtLoad]
  simp only [and_assoc]

/-- What the load over a good image leaves, from the part with the image's settings. -/
structure State.Loaded (s t : State) (c : Settings) (cause : ResetCause) : Prop where
  frame : t = { s.takeSettings c false with
    slots := t.slots, events := t.events, lost := 0, baths := t.baths, cradles := t.cradles }
  orphans : State.OrphansFound { s.takeSettings c false with events := [⟨s.clock, .resetDone, 0, 255, 0, cause.code⟩] } t
    (s.takeSettings c false).shownAtLoad
  presence : ∀ n ∈ (s.takeSettings c false).sampledAtLoad, n ≤ s.baths.length →
    (t.bath n).presence = (s.pin n).presence
  unknown : ∀ n, 1 ≤ n → n ≤ 16 → n ≤ s.baths.length → (t.cond n .exhUnknown = true ↔
    (s.takeSettings c false).role n = .develop ∨ s.cond n .exhUnknown = true)
  cradle : ∀ n, 1 ≤ n → n ≤ 16 → n ≤ s.cradles.length → (s.takeSettings c false).isBath n = true →
    t.cradle n = ⟨if (s.pin n).cradleDown = true then .down else .falling, 0, (s.cradle n).outTime⟩

theorem State.loaded_loadDone (h : s.nv.load = some c) (hslots : s.slots = List.replicate 24 none) :
    s.Loaded (s.loadDone cause) c cause := by
  have hreadied := State.readied_eq (s := s) (c := c) (cause := cause)
  have hprepared := State.prepared_frame (s := s) (c := c)
  have hsampled : (s.readied c cause).sampledAtLoad = (s.takeSettings c false).sampledAtLoad := by
    rw [hreadied, hprepared]; rfl
  have hshown : (s.readied c cause).shownAtLoad = (s.takeSettings c false).shownAtLoad := by
    rw [hreadied, hprepared]; rfl
  have hlower := (s.takeSettings c false).foldl_beginFalling_eq (s.takeSettings c false).bathStations 0
  rw [← State.lowerCradles] at hlower
  have hlowbaths : (s.takeSettings c false).lowerCradles.baths = s.baths := by rw [hlower]; rfl
  have hlength : (s.prepared c).baths.length = s.baths.length :=
    State.foldl_assertExhUnknown_length.trans (congrArg List.length hlowbaths)
  generalize hg : (s.readied c cause).sampledAtLoad.foldl State.firstPresence (s.readied c cause) = g
  have hgframe := (s.readied c cause).foldl_firstPresence_eq (s.readied c cause).sampledAtLoad
  rw [hg, hreadied, hprepared] at hgframe
  have hgbath (n : Nat) (h1 : 1 ≤ n) (hn : n ≤ s.baths.length) := State.bath_foldl_firstPresence (s := s.readied c cause)
    (l := (s.readied c cause).sampledAtLoad) h1 (by rw [hreadied]; exact hlength ▸ hn)
  have hgcradles : g.cradles = (s.takeSettings c false).lowerCradles.cradles := by rw [hgframe]
  have hgslots : g.slots = s.slots := by rw [hgframe]; rfl
  have hgevents : g.events = [⟨s.clock, .resetDone, 0, 255, 0, cause.code⟩] := by rw [hgframe]
  have hfound := State.orphansFound_foldl (s := g) (l := (s.readied c cause).shownAtLoad) (j := 0)
    ⟨by rw [hgslots, hslots]; rfl, fun i _ => by
      rw [State.rack, hgslots, hslots, List.getD_eq_getElem?_getD, List.getElem?_replicate]
      split <;> rfl⟩
    (by have := (s.readied c cause).shownAtLoad_length; omega)
    (by have := (s.readied c cause).shownAtLoad_length; rw [hgevents]; simp; omega)
  have hframe := g.foldl_findOrphan_eq (s.readied c cause).shownAtLoad
  rw [State.loadDone_of_image h, hg]
  rw [hshown] at hfound hframe ⊢
  generalize (s.takeSettings c false).shownAtLoad.foldl State.findOrphan g = t at hfound hframe
  have htbaths : t.baths = g.baths := by rw [hframe]
  have htcradles : t.cradles = g.cradles := by rw [hframe]
  have htlost : t.lost = 0 := hfound.lost.trans (by rw [hgframe]; rfl)
  have htbath (n : Nat) (h1 : 1 ≤ n) (hn : n ≤ s.baths.length) : t.bath n = if n ∈ (s.takeSettings c false).sampledAtLoad then
      { (s.prepared c).bath n with presence := (s.pin n).presence } else (s.prepared c).bath n := by
    have hbath : t.bath n = g.bath n := by rw [State.bath, htbaths, State.bath]
    have hpin : (s.readied c cause).pin n = s.pin n := by rw [hreadied, hprepared]; rfl
    have hsame : (s.readied c cause).bath n = (s.prepared c).bath n := by rw [hreadied]; rfl
    rw [hbath, ← hg, hgbath n h1 hn, hsampled, hpin, hsame]
  refine ⟨?_, hfound.congr ?_ ?_ ?_ ?_, fun n hn hlen => ?_, fun n h1 h16 hlen => ?_, fun n h1 h16 hlen hb => ?_⟩
  · rw [htbaths, htcradles, ← htlost]
    conv_lhs => rw [hframe, hgframe]
    rw [hgframe]
  · rw [hgslots]
    rfl
  · rw [hgframe]
  · rw [hgevents]
  · rw [hgframe]
  · rw [htbath n (State.mem_sampledAtLoad.mp hn).1 hlen, if_pos hn]
  · have hcond : t.cond n .exhUnknown = (s.prepared c).cond n .exhUnknown := by
      rw [State.cond, htbath n h1 hlen, State.cond]
      split <;> rfl
    have hunknown := State.cond_foldl_assertExhUnknown (s := (s.takeSettings c false).lowerCradles) (m := n)
      (l := (s.takeSettings c false).lowerCradles.stations.filter fun n => (s.takeSettings c false).lowerCradles.role n == .develop)
      h1 (by rw [hlowbaths]; exact hlen)
    have hrole : (s.takeSettings c false).lowerCradles.role n = (s.takeSettings c false).role n := by rw [hlower]; rfl
    have hbefore : (s.takeSettings c false).lowerCradles.cond n .exhUnknown = s.cond n .exhUnknown := by
      rw [State.cond, State.bath, hlowbaths]
      rfl
    rw [hcond]
    refine hunknown.trans ?_
    rw [hbefore, List.mem_filter, State.mem_stations, beq_iff_eq, hrole]
    refine or_congr_left ⟨fun h => h.2, fun h => ⟨⟨h1, h16, ?_⟩, h⟩⟩
    exact State.configured_of_role (by rw [hrole, h]; nofun)
  · have hcradle := State.cradle_foldl_beginFalling (s := s.takeSettings c false) (l := (s.takeSettings c false).bathStations) 0 h1 hlen
    have hmem : n ∈ (s.takeSettings c false).bathStations := by
      rw [State.bathStations, List.mem_filter, State.mem_stations]
      exact ⟨⟨h1, h16, State.configured_of_role (State.role_ne_unused_of_isBath hb)⟩, hb⟩
    rw [if_pos hmem] at hcradle
    have hself : t.cradle n = (s.takeSettings c false).lowerCradles.cradle n := by rw [State.cradle, htcradles, hgcradles, State.cradle]
    exact hself.trans hcradle

end

/-- Settles O6. -/
theorem storedImageLoads : Obligations.StoredImageLoads := by
  unfold Obligations.StoredImageLoads
  intro s cause c inp hrun hnv hslots hbaths hcradles hclock
  have hload : (s.latch inp).nv.load = some c := by
    show s.nv.load = some c
    rw [hnv, NvImage.load, if_pos rfl]
  have hl := State.loaded_loadDone (cause := cause) hload (show (s.latch inp).slots = _ from hslots)
  refine ⟨_, exec_startupLoadDone hrun, ?_⟩
  have ht := State.drive_eq ((s.latch inp).loadDone cause)
  generalize (s.latch inp).loadDone cause = w at hl ht
  generalize w.drive = t at ht
  obtain ⟨hframe, ⟨hfound, -, honly, ⟨es, hevents, hkinds⟩, -⟩, hpresence, hunknown, hcradle⟩ := hl
  have hcfg : t.cfg = c := by rw [ht]; show w.cfg = c; rw [hframe]; rfl
  have hpins : t.pins = inp := by rw [ht]; show w.pins = inp; rw [hframe]; rfl
  have hpin (n : Nat) : t.pin n = (s.latch inp).pin n := by rw [State.pin, hpins]; rfl
  have hrole (n : Nat) : t.role n = ((s.latch inp).takeSettings c false).role n := by
    rw [State.role, State.configured, State.stationCfg, hcfg]
    rfl
  have hrack (k : Nat) : t.rack k = w.rack k := by rw [ht]; rfl
  have hbath (n : Nat) : t.bath n = w.bath n := by rw [ht]; rfl
  have hev : t.events = w.events := by rw [ht]
  have hfree (k : Nat) : (s.latch inp).rack k = none := by
    rw [State.rack, show (s.latch inp).slots = _ from hslots, List.getD_eq_getElem?_getD, List.getElem?_replicate]
    split <;> rfl
  have hshown {n : Nat} := State.mem_shownAtLoad (s := (s.latch inp).takeSettings c false) (n := n)
  have honly' {k : Nat} {r : Rack} (h : t.rack k = some r) : ∃ n ∈ ((s.latch inp).takeSettings c false).shownAtLoad,
      r = .orphanAt n 0 ∧ (⟨0, .orphanFound, n, k, 0, 0⟩ : Event) ∈ w.events := by
    rw [hrack] at h
    rcases honly k r h with h | h
    · rw [show ({ (s.latch inp).takeSettings c false with events := _ } : State).rack k = (s.latch inp).rack k from rfl, hfree] at h
      cases h
    · rw [show ({ (s.latch inp).takeSettings c false with events := _ } : State).clock = 0 from hclock] at h
      exact h
  refine ⟨by rw [ht]; show w.run = _; rw [hframe]; rfl, hcfg, by rw [ht]; show w.nv = _; rw [hframe]; rfl,
    by rw [ht]; show w.line.configDefaulted = _; rw [hframe]; rfl, by rw [ht]; show w.link.path = _; rw [hframe]; rfl,
    by rw [ht]; show w.link.baud = _; rw [hframe]; rfl, ?_, ?_, by rw [ht]; show w.manifold.staged = _; rw [hframe]; rfl,
    by rw [ht]; show w.manifold.applyPending = _; rw [hframe]; rfl, by rw [ht]; show w.lost = _; rw [hframe], ?_, ?_,
    fun n h1 h16 => ?_, fun k r h => ?_, fun n h1 h16 hr => ?_, fun n h1 h16 => ?_, fun n h1 h16 hb => ?_⟩
  · rw [ht]
    show w.link.addr = _
    rw [hframe]
    rfl
  · rw [ht]
    show w.link.watchdog = _
    rw [hframe]
    show Watchdog.start c.line.linkTimeout 0 = _
    rw [Watchdog.start, addSec, Nat.zero_add]
    rfl
  · rw [hev, hevents]
    show some (⟨s.clock, _, _, _, _, _⟩ : Event) = _
    rw [hclock]
  · rw [hev, hevents]
    exact hkinds
  · rw [hpin]
    constructor
    · rintro ⟨hr, hp⟩
      obtain ⟨k, hk⟩ := hfound n (hshown.mpr ⟨h1, h16, by rwa [← hrole], hp⟩)
      exact ⟨k, _, (hrack k).trans hk, rfl⟩
    · rintro ⟨k, r, hk, rfl⟩
      obtain ⟨n, hn, rfl, -⟩ := honly' hk
      obtain ⟨-, -, hr, hp⟩ := hshown.mp hn
      exact ⟨by rw [hrole]; exact hr, hp⟩
  · obtain ⟨n, hn, rfl, he⟩ := honly' h
    obtain ⟨h1, h16, hr, hp⟩ := hshown.mp hn
    refine ⟨rfl, rfl, rfl, rfl, rfl, rfl, ?_, by rw [hev]; exact he⟩
    rw [hbath]
    exact (hpresence n (State.mem_sampledAtLoad.mpr ⟨h1, h16, hr⟩) (hbaths.symm ▸ h16)).trans hp
  · rw [hbath, hpin]
    exact hpresence n (State.mem_sampledAtLoad.mpr ⟨h1, h16, by simpa only [hrole] using hr⟩) (hbaths.symm ▸ h16)
  · rw [hrole, State.cond, hbath]
    exact hunknown n h1 h16 (hbaths.symm ▸ h16)
  · have hc := hcradle n h1 h16 (hcradles.symm ▸ h16) (by rw [State.isBath, ← hrole]; exact hb)
    have hsame : t.cradle n = w.cradle n := by rw [ht]; rfl
    rw [hsame, hc, hpin]
    exact ⟨rfl, rfl⟩

end Sys2Proof.Machine
end

section
/-! PROOFS. Station flags that come true (8.3), cradles and dunks (7.1, 7.2). -/

namespace Sys2Proof.Machine

/-! ### A flag is asserted (R130) -/

section
variable {s : State} {n : Nat} {f : Flag}

theorem State.assertFlag_of_held (h : s.cond n f = true ∨ s.masked n f = true) : s.assertFlag n f = s := by
  rw [State.assertFlag, if_pos (by simpa using h)]

section
variable (hc : s.cond n f = false) (hm : s.masked n f = false) (hf : f ≠ .exhUnknown)
include hc hm hf

/-- A flag that comes true sets its condition and its latch and posts FLAG_ASSERTED. -/
theorem State.assertFlag_of_new : s.assertFlag n f = { s.setBath n { s.bath n with
      conds := (s.bath n).conds.set f true, latches := (s.bath n).latches.set f true } with
    events := (s.post .flagAsserted n (s.occupantOf n).1 (s.occupantOf n).2 f.bit).events
    lost := (s.post .flagAsserted n (s.occupantOf n).1 (s.occupantOf n).2 f.bit).lost } := by
  have hpost := State.post_same (u := s.setBath n { s.bath n with
      conds := (s.bath n).conds.set f true, latches := (s.bath n).latches.set f true }) (k := .flagAsserted) (a := n)
    (b := (s.occupantOf n).1) (c := (s.occupantOf n).2) (d := f.bit) (s := s) rfl rfl rfl
  rw [← hpost.1, ← hpost.2]
  simp only [State.assertFlag, hc, hm, Bool.or_self, Bool.false_eq_true, if_false, if_neg hf]
  exact State.post_eq _ _ _ _ _ _

theorem State.assertFlag_posted : s.posted (s.assertFlag n f) .flagAsserted n (s.occupantOf n).1 (s.occupantOf n).2 f.bit := by
  rw [State.assertFlag_of_new hc hm hf]
  exact (State.posted_post (u := s) rfl).congr rfl

end
end

/-! ### The cradle commands (R113, R116) -/

section
variable {s : State} {n : Nat} {inp : Inputs}

/-- A command that changes one cradle alone. -/
theorem exec_cradle {c : Instr} {f : State → State} {v : Cradle} (hrun : s.run = .running) (hexec : exec c s = event inp f s)
    (h1 : 1 ≤ n) (hn : n ≤ s.cradles.length)
    (hv : f (s.latch inp) = (s.latch inp).setCradle n v ∨ (f (s.latch inp) = s.latch inp ∧ v = s.cradle n)) :
    ∃ t, exec c s = .next t ∧ t = { s with pins := inp, out := t.out, cradles := t.cradles } ∧
      (∀ m, m ≠ n → t.cradle m = s.cradle m) ∧ t.cradle n = v := by
  refine ⟨_, exec_of_effect hrun hexec rfl, ?_⟩
  have ht := State.drive_eq (f (s.latch inp))
  generalize (f (s.latch inp)).drive = t at ht
  rcases hv with hv | ⟨hv, rfl⟩
  · rw [hv] at ht
    refine ⟨by rw [ht]; rfl, fun m hm => ?_, ?_⟩
    · rw [ht]
      exact State.cradle_setCradle_other _ _ hm
    · rw [ht]
      exact State.cradle_setCradle_same _ _ h1 hn
  · rw [hv] at ht
    refine ⟨by rw [ht]; rfl, fun m hm => by rw [ht]; rfl, by rw [ht]; rfl⟩

/-- A lift output follows the cradle of its station. -/
theorem State.lift_of_cradle (hrun : s.run = .running) (h1 : 1 ≤ n) (hn : n ≤ s.cradles.length) (d : Bool) :
    s.drive.out.lifts.getD (n - 1) d = (s.cradle n).state.lifts := by
  obtain ⟨k, rfl⟩ : ∃ k, n = k + 1 := ⟨n - 1, by omega⟩
  have hk : k < s.cradles.length := by omega
  rw [State.drive_running hrun]
  show (s.cradles.map fun c => c.state.lifts).getD k d = _
  rw [State.cradle, atStation, List.getD_eq_getElem _ _ hk, List.getD_eq_getElem _ _ (by simpa using hk), List.getElem_map]

theorem State.cradleOverdue_iff : s.cradleOverdue n = true ↔
    min ((s.cradle n).since + s.cfg.line.cradleTime) 4294967295 ≤ s.clock ∧
      (((s.cradle n).state = .rising ∧ (s.pin n).cradleUp = false) ∨
        ((s.cradle n).state = .falling ∧ (s.pin n).cradleDown = false)) := by
  unfold State.cradleOverdue
  cases h : (s.cradle n).state <;> simp [addSec, Config.maxSecond]

end

section
variable {s : State} {n : Nat} {inp : Inputs}

theorem exec_cradleTimeout_early (hrun : s.run = .running) (h : (s.latch inp).cradleOverdue n = false) :
    ∃ t, exec (.cradleTimeout n inp) s = .next t ∧
      t = { s with pins := inp, out := t.out, cradles := t.cradles, baths := t.baths, events := t.events, lost := t.lost } ∧
      (∀ m, m ≠ n → t.cradle m = s.cradle m ∧ t.bath m = s.bath m) ∧
      t.cradle n = s.cradle n ∧ t.bath n = s.bath n ∧ t.events = s.events := by
  obtain ⟨t, hexec, ht⟩ := exec_idle (c := .cradleTimeout n inp) (f := fun t => t.cradleTimeout n) hrun rfl (if_neg (by simp [h]))
  refine ⟨t, hexec, ?_⟩
  rw [ht]
  exact ⟨rfl, fun m hm => ⟨rfl, rfl⟩, rfl, rfl, rfl⟩

/-- The part with a cradle HELD. -/
def State.hold (s : State) (n : Nat) : State := s.setCradle n { s.cradle n with state := .held }

/-- A cradle that misses its limit is HELD and CRADLE_FAULT asserted (R116). -/
theorem exec_cradleTimeout_overdue (hrun : s.run = .running) (h1 : 1 ≤ n) (hn : n ≤ s.cradles.length) (hb : n ≤ s.baths.length)
    (h : (s.latch inp).cradleOverdue n = true) :
    ∃ t, exec (.cradleTimeout n inp) s = .next t ∧
      t = { s with pins := inp, out := t.out, cradles := t.cradles, baths := t.baths, events := t.events, lost := t.lost } ∧
      (∀ m, m ≠ n → t.cradle m = s.cradle m ∧ t.bath m = s.bath m) ∧
      t.cradle n = ⟨.held, (s.cradle n).since, (s.cradle n).outTime⟩ ∧ t.out.lifts.getD (n - 1) true = false ∧
      t.cond n .cradleFault = true ∧
      (s.cond n .cradleFault = false → (t.bath n).latches.cradleFault = true ∧
        (s.events.length < 64 → t.events = s.events ++
          [⟨s.clock, .flagAsserted, n, (s.occupantOf n).1, (s.occupantOf n).2, 6⟩])) ∧
      (s.cond n .cradleFault = true → t.events = s.events) := by
  have heff : (s.latch inp).cradleTimeout n = ((s.latch inp).hold n).assertFlag n .cradleFault := if_pos h
  have hmask : ((s.latch inp).hold n).masked n .cradleFault = false := State.masked_of_not_maskable _ _ rfl
  have hheld : ((s.latch inp).hold n).cradle n = ⟨.held, (s.cradle n).since, (s.cradle n).outTime⟩ :=
    State.cradle_setCradle_same _ _ h1 hn
  have hframe := State.assertFlag_eq ((s.latch inp).hold n) n .cradleFault
  have hother (m : Nat) (hm : m ≠ n) : (((s.latch inp).hold n).assertFlag n .cradleFault).bath m = s.bath m :=
    State.bath_assertFlag_other _ _ hm
  have hon (hc : s.cond n .cradleFault = true) := State.assertFlag_of_held (s := (s.latch inp).hold n) (n := n) (.inl hc)
  have hnew (hc : s.cond n .cradleFault = false) := State.assertFlag_of_new (s := (s.latch inp).hold n) hc hmask nofun
  have hlift := State.lift_of_cradle (s := ((s.latch inp).hold n).assertFlag n .cradleFault) (n := n) (by rw [hframe]; exact hrun) h1
    (by rw [hframe]; simpa [State.hold, State.setCradle] using hn) true
  refine ⟨_, exec_of_effect (f := fun t => t.cradleTimeout n) hrun rfl heff, ?_⟩
  have ht := State.drive_eq (((s.latch inp).hold n).assertFlag n .cradleFault)
  generalize ((s.latch inp).hold n).assertFlag n .cradleFault = w at *
  have hcradle (m : Nat) : w.cradle m = ((s.latch inp).hold n).cradle m := by rw [hframe]; rfl
  rw [hcradle, hheld] at hlift
  generalize w.drive = t at *
  have htbath (m : Nat) : t.bath m = w.bath m := by rw [ht]; rfl
  have htcradle (m : Nat) : t.cradle m = w.cradle m := by rw [ht]; rfl
  have htevents : t.events = w.events := by rw [ht]
  refine ⟨by rw [ht, hframe]; rfl, fun m hm => ⟨?_, (htbath m).trans (hother m hm)⟩, (htcradle n).trans ((hcradle n).trans hheld),
    hlift, ?_, fun hc => ⟨?_, fun hroom => ?_⟩, fun hc => ?_⟩
  · rw [htcradle, hcradle]
    exact State.cradle_setCradle_other _ _ hm
  · rw [State.cond, htbath]
    cases hc : s.cond n .cradleFault with
    | true =>
      rw [hon hc]
      exact hc
    | false =>
      rw [hnew hc]
      exact (congrArg (fun b : Bath => b.conds.get .cradleFault) (State.bath_setBath_same _ _ h1 hb)).trans
        (FlagSet.get_set_same (s.bath n).conds .cradleFault true)
  · rw [htbath, hnew hc]
    exact (congrArg (fun b : Bath => b.latches.get .cradleFault) (State.bath_setBath_same _ _ h1 hb)).trans
      (FlagSet.get_set_same (s.bath n).latches .cradleFault true)
  · rw [htevents, hnew hc]
    rcases ((s.latch inp).hold n).post_cases .flagAsserted n (((s.latch inp).hold n).occupantOf n).1
      (((s.latch inp).hold n).occupantOf n).2 Flag.cradleFault.bit with ⟨-, hp⟩ | ⟨hfull, -⟩
    · rw [hp]
      rfl
    · exact absurd hroom (not_lt.mpr hfull)
  · rw [htevents, hon hc]
    rfl

end

/-- Settles O19. -/
theorem cradlesMove : Obligations.CradlesMove := by
  unfold Obligations.CradlesMove
  rintro n inp s hrun h1 h16 hcradles hbaths pin rfl
  have hn : n ≤ s.cradles.length := by omega
  have hpin : (s.latch inp).pin n = inp.stations.getD (n - 1) ⟨false, 0, false, false, false, false⟩ := by
    obtain ⟨k, rfl⟩ : ∃ k, n = k + 1 := ⟨n - 1, by omega⟩
    rfl
  rw [← hpin]
  refine ⟨exec_cradle (f := fun t => t.cradleUp n) hrun rfl h1 hn ?_, exec_cradle (f := fun t => t.dunkOutEnd n) hrun rfl h1 hn ?_,
    exec_cradle (f := fun t => t.cradleDown n) hrun rfl h1 hn ?_, ?_⟩
  · split
    · next h => exact .inl (if_pos h)
    · next h => exact .inr ⟨if_neg h, rfl⟩
  · split
    · next h => exact .inl (if_pos h)
    · next h => exact .inr ⟨if_neg h, rfl⟩
  · split
    · next h => exact .inl (if_pos h)
    · next h => exact .inr ⟨if_neg h, rfl⟩
  · have hover : (s.latch inp).cradleOverdue n = true ↔
        min ((s.cradle n).since + s.cfg.line.cradleTime) 4294967295 ≤ s.clock ∧
          (((s.cradle n).state = .rising ∧ ((s.latch inp).pin n).cradleUp = false) ∨
            ((s.cradle n).state = .falling ∧ ((s.latch inp).pin n).cradleDown = false)) := State.cradleOverdue_iff
    split
    · next h => exact exec_cradleTimeout_overdue hrun h1 hn (by omega) (hover.mpr h)
    · next h => exact exec_cradleTimeout_early hrun (Bool.eq_false_iff.mpr fun ho => h (hover.mp ho))

end Sys2Proof.Machine
end

section
/-! PROOFS. A dunk that comes due (7.2). -/

namespace Sys2Proof.Machine

section
variable {s : State} {p : DunkPlan} {d : Dunk} {r : Rack} {k pat : Nat} {pre post : List DunkPlan}

theorem State.dunkNow_of_due (hp : s.plans = pre ++ p :: post) (hk : p.slot = k) (hother : ∀ q ∈ pre ++ post, q.slot ≠ k)
    (hd : p.dunk = some d) (hdue : d.second ≤ s.clock) : s.dunkNow k = s.dunkDue p d := by
  have hfind : s.plans.find? (·.slot == k) = some p := by
    rw [hp, List.find?_append, List.find?_eq_none.mpr fun q hq => by simp [hother q (List.mem_append_left _ hq)]]
    simp [hk]
  simp only [State.dunkNow, hfind, hd, if_pos hdue]

theorem State.dunkFits_iff (hr : s.rack p.slot = some r) : s.dunkFits p d = true ↔ (s.cradle p.station).state = .down ∧
    ∀ x, r.nextStart = some x → s.clock < x ∧ min (s.clock + (d.outTime + d.quiet)) 4294967295 ≤ x := by
  rw [State.dunkFits, hr]
  cases hx : r.nextStart <;> simp [hx, addSec, Config.maxSecond]

/-- What a dunk that is given or skipped makes of the plans (R114). -/
theorem mapPlans_of_one {g : DunkPlan → DunkPlan} (hk : p.slot = k) (hother : ∀ q ∈ pre ++ post, q.slot ≠ k) :
    ((pre ++ p :: post).map fun q => if q.slot = p.slot then g q else q) = pre ++ g p :: post := by
  have hsame (l : List DunkPlan) (hl : ∀ q ∈ l, q.slot ≠ k) : (l.map fun q => if q.slot = p.slot then g q else q) = l := by
    refine (List.map_congr_left fun q hq => ?_).trans (List.map_id l)
    exact if_neg (by rw [hk]; exact hl q hq)
  rw [List.map_append, List.map_cons, if_pos rfl, hsame pre fun q hq => hother q (List.mem_append_left _ hq),
    hsame post fun q hq => hother q (List.mem_append_right _ hq)]

/-- The plan of a rack after its dunk: a dunk is fixed from the pattern its step names. -/
def DunkPlan.next (p : DunkPlan) (c : Pattern) (t : Nat) : DunkPlan := { p with dunk := fixDunk c p.immersion t }

theorem State.dunkDue_plans {u : State} (hu : u = { s with cradles := u.cradles, manifold := u.manifold })
    (hp : s.plans = pre ++ p :: post) (hk : p.slot = k) (hother : ∀ q ∈ pre ++ post, q.slot ≠ k)
    (hr : s.rack p.slot = some r) (hpat : s.patternOf r = some pat) :
    (u.mapPlans fun q => if q.slot = p.slot then u.refix u.clock q else q) =
      { u with plans := pre ++ p.next (s.pattern pat) s.clock :: post } := by
  have hrack : (u.rack p.slot).bind u.patternOf = some pat := by
    rw [hu]
    exact Option.bind_eq_some_iff.mpr ⟨r, hr, hpat⟩
  have hplans : u.plans = pre ++ p :: post := by rw [hu]; exact hp
  have hnext : u.refix u.clock p = p.next (s.pattern pat) s.clock := by
    rw [State.refix_of_pattern hrack, hu]
    rfl
  rw [State.mapPlans, hplans, mapPlans_of_one hk hother, hnext]

end

/-- Settles O18. -/
theorem dunksComeDue : Obligations.DunksComeDue := by
  unfold Obligations.DunksComeDue
  intro inp s k p pre post d r pat hrun hp hk hother hd hdue hr hphase hpat hcradles h1 h16
  have hrp : s.rack p.slot = some r := by rw [hk]; exact hr
  have hnow : (s.latch inp).dunkNow k = (s.latch inp).dunkDue p d := State.dunkNow_of_due (s := s.latch inp) hp hk hother hd hdue
  have hfits := State.dunkFits_iff (s := s.latch inp) (p := p) (d := d) hrp
  have hplans {u : State} (hu : u = { s.latch inp with cradles := u.cradles, manifold := u.manifold }) :=
    State.dunkDue_plans hu hp hk hother hrp hpat
  have hnext : ∃ q, pre ++ p.next (s.pattern pat) s.clock :: post = pre ++ q :: post ∧ q.slot = k ∧ q.station = p.station ∧
      q.immersion = p.immersion ∧ ((s.pattern pat).mode = .none ∨ (s.pattern pat).mode = .gas → q.dunk = none) ∧
      ((s.pattern pat).inRange = true → p.immersion ≤ s.clock → (s.pattern pat).fixes p.immersion s.clock q.dunk) :=
    ⟨_, rfl, hk, rfl, rfl, fixDunk_of_no_dunks, fun hrange himm => fixDunk_fixes himm hrange⟩
  have hn : p.station ≤ s.cradles.length := by omega
  refine ⟨_, exec_of_effect (f := fun t => t.dunkNow k) hrun rfl hnow, ?_⟩
  by_cases hgive : (s.latch inp).dunkFits p d = true
  · obtain ⟨hdown, hstart⟩ := hfits.mp hgive
    have heff : (s.latch inp).dunkDue p d = { (s.latch inp).beginDunk p.station d.outTime with
        plans := pre ++ p.next (s.pattern pat) s.clock :: post } := by
      rw [State.dunkDue, if_pos hgive]
      exact hplans rfl
    have hself : ((s.latch inp).beginDunk p.station d.outTime).cradle p.station =
        ⟨if ((s.latch inp).pin p.station).cradleUp = true then .out else .rising, s.clock, d.outTime⟩ :=
      State.cradle_setCradle_same _ _ h1 hn
    have hlift := State.lift_of_cradle (s := { (s.latch inp).beginDunk p.station d.outTime with
        plans := pre ++ p.next (s.pattern pat) s.clock :: post }) hrun h1 (by simpa [State.beginDunk, State.setCradle] using hn) false
    have hcr (n : Nat) : State.cradle { (s.latch inp).beginDunk p.station d.outTime with
        plans := pre ++ p.next (s.pattern pat) s.clock :: post } n = ((s.latch inp).beginDunk p.station d.outTime).cradle n := rfl
    rw [hcr, hself] at hlift
    rw [heff]
    have ht := State.drive_eq { (s.latch inp).beginDunk p.station d.outTime with
        plans := pre ++ p.next (s.pattern pat) s.clock :: post }
    generalize State.drive _ = t at ht hlift
    have htc (n : Nat) : t.cradle n = ((s.latch inp).beginDunk p.station d.outTime).cradle n := by rw [ht]; rfl
    have htv (n : Nat) : t.valve n = ((s.latch inp).setValve p.station false).valve n := by rw [ht]; rfl
    have htplans : t.plans = pre ++ p.next (s.pattern pat) s.clock :: post := by rw [ht]
    refine ⟨by rw [ht]; rfl, fun n hne => ⟨?_, ?_⟩, fun _ _ => ⟨?_, ?_, ?_⟩, fun hnot => ?_, by rwa [htplans]⟩
    · rw [htc]
      exact State.cradle_setCradle_other _ _ hne
    · rw [htv]
      exact State.valve_setValve_other _ _ hne
    · rw [htc, hself, ht]
      rfl
    · rw [htv]
      exact atStation_setStation_of (P := fun b => b = false) rfl rfl
    · rw [hlift]
      split <;> rfl
    · rcases hnot with hnot | ⟨x, hx, hlate⟩
      · exact absurd hdown hnot
      · obtain ⟨h1, h2⟩ := hstart x hx
        have hclock : (s.latch inp).clock = s.clock := rfl
        omega
  · have heff : (s.latch inp).dunkDue p d = { s.latch inp with plans := pre ++ p.next (s.pattern pat) s.clock :: post } := by
      rw [State.dunkDue, if_neg hgive]
      exact hplans rfl
    rw [heff]
    have ht := State.drive_eq { s.latch inp with plans := pre ++ p.next (s.pattern pat) s.clock :: post }
    generalize State.drive _ = t at ht
    have htplans : t.plans = pre ++ p.next (s.pattern pat) s.clock :: post := by rw [ht]
    refine ⟨by rw [ht]; rfl, fun n _ => by rw [ht]; exact ⟨rfl, rfl⟩, fun hdown hstart => absurd (hfits.mpr ⟨hdown, hstart⟩) hgive,
      fun _ => by rw [ht]; exact ⟨rfl, rfl⟩, by rwa [htplans]⟩

end Sys2Proof.Machine
end

section
/-! PROOFS. The manifold, the burst valves and the gas pressure (7.4, 7.5, 7.6). -/

namespace Sys2Proof.Machine

/-! ### The frame wrap (R118, R121, R122) -/

section
variable {s : State} {n : Nat}

theorem State.readGas_of_ok (h : s.pins.gasOk = true) : s.readGas = { s with line := { s.line with gasLow := false } } := by
  rw [State.readGas, if_pos h]

theorem State.readGas_of_still_low (h : s.pins.gasOk = false) (hl : s.line.gasLow = true) : s.readGas = s.closeValves := by
  rw [State.readGas, if_neg (by simp [h])]
  exact if_pos hl

/-- A first reading without gas pressure closes the valves and posts GAS_LOW. -/
theorem State.readGas_of_low (h : s.pins.gasOk = false) (hl : s.line.gasLow = false) : s.readGas = { s.closeValves with
    line := { s.line with gasLow := true }
    events := (s.post .gasLow 0 255 0 0).events, lost := (s.post .gasLow 0 255 0 0).lost } := by
  have hpost := State.post_same (u := { s.closeValves with line := { s.line with gasLow := true } }) (k := .gasLow) (a := 0)
    (b := 255) (c := 0) (d := 0) (s := s) rfl rfl rfl
  rw [State.readGas, if_neg (by simp [h]), ← hpost.1, ← hpost.2]
  simp only [hl]
  exact State.post_eq _ _ _ _ _ _

/-- The part at tick 0 of the next frame. -/
def State.wrapped (s : State) : State :=
  { s with manifold := { s.manifold with tick := 0, frame := (s.manifold.frame + 1) % 65536 } }

theorem State.nextFrame_frame (s : State) : s.nextFrame = { s with
    cfg := { s.cfg with live := s.nextFrame.cfg.live }
    manifold := { s.manifold with tick := 0, frame := (s.manifold.frame + 1) % 65536, applyPending := false }
    events := s.nextFrame.events, lost := s.nextFrame.lost } := by
  cases h : s.manifold.applyPending with
  | false =>
    rw [State.nextFrame, h]
    exact congrArg (fun b : Bool => { s with manifold := { s.manifold with
      tick := 0, frame := (s.manifold.frame + 1) % 65536, applyPending := b } }) h
  | true =>
    have heq : s.nextFrame = s.wrapped.applyBursts := by rw [State.nextFrame, h]; rfl
    rw [heq]
    exact s.wrapped.applyBursts_eq

theorem State.nextFrame_idle (h : s.manifold.applyPending = false) : s.nextFrame = s.wrapped := by
  rw [State.nextFrame, h]
  rfl

theorem State.nextFrame_pending (h : s.manifold.applyPending = true) : s.nextFrame = s.wrapped.applyBursts := by
  rw [State.nextFrame, h]
  rfl

theorem atStation_map_allStations {α : Type} (g : Nat → α) (d : α) (h1 : 1 ≤ n) (h16 : n ≤ 16) :
    atStation (allStations.map g) d n = g n := by
  obtain ⟨k, rfl⟩ : ∃ k, n = k + 1 := ⟨n - 1, by omega⟩
  have hk : k < (allStations.map g).length := by simp [allStations]; omega
  rw [atStation, List.getD_eq_getElem _ _ hk, List.getElem_map]
  simp [allStations, Nat.add_comm]

theorem keepsTail_iff {old new : List Burst} :
    keepsTail old new n = true ↔ burstOf old n = burstOf new n ∧ (burstOf new n).offTick ≠ 0 := by
  simp [keepsTail]

theorem State.valve_wrapFrame (h1 : 1 ≤ n) (h16 : n ≤ 16) : s.wrapFrame.valve n = true ↔
    s.valve n = true ∧ burstOf s.cfg.live n = burstOf s.wrapFrame.cfg.live n ∧ (burstOf s.wrapFrame.cfg.live n).offTick ≠ 0 := by
  have hvalve : s.nextFrame.valve n = s.valve n := by rw [s.nextFrame_frame]; rfl
  have hmap : s.wrapFrame.valve n = (s.nextFrame.valve n && keepsTail s.cfg.live s.nextFrame.cfg.live n) := by
    rw [State.wrapFrame_eq]
    exact atStation_map_allStations (fun n => s.nextFrame.valve n && keepsTail s.cfg.live s.nextFrame.cfg.live n) false h1 h16
  rw [hmap, hvalve, Bool.and_eq_true, keepsTail_iff]
  rfl

/-! ### The burst ticks (R123, R124) -/

theorem PatternMode.bursts_iff (m : PatternMode) : m.bursts = true ↔ m = .gas ∨ m = .both := by
  cases m <;> simp [PatternMode.bursts]

theorem State.burstWanted_iff : s.burstWanted n = true ↔
    ∃ k r p, s.rackAt n = some (k, r) ∧ r.phase = .inBath ∧ s.patternOf r = some p ∧
      ((s.pattern p).mode = .gas ∨ (s.pattern p).mode = .both) ∧ s.manifold.frame % (s.pattern p).everyN = 0 := by
  unfold State.burstWanted
  constructor
  · intro h
    split at h
    · next k r hr =>
      obtain ⟨hphase, h⟩ := Bool.and_eq_true_iff.mp h
      split at h
      · next p hp =>
        obtain ⟨hmode, hframe⟩ := Bool.and_eq_true_iff.mp h
        exact ⟨k, r, p, hr, by simpa using hphase, hp, (PatternMode.bursts_iff _).mp hmode, by simpa using hframe⟩
      · cases h
    · cases h
  · rintro ⟨k, r, p, hr, hphase, hp, hmode, hframe⟩
    rw [hr]
    simp only [hp, hphase, (PatternMode.bursts_iff _).mpr hmode, hframe]
    rfl

/-- The station's valve opens at this tick (R123, R124). -/
def State.burstDue (s : State) (n : Nat) : Bool :=
  s.manifold.running && (burstOf s.cfg.live n).enabled && (burstOf s.cfg.live n).onTick != (burstOf s.cfg.live n).offTick &&
  s.manifold.tick == (burstOf s.cfg.live n).onTick && s.burstAllowed n

theorem State.burstDue_iff (hmove : s.manifold.running = true) : s.burstDue n = true ↔
    (burstOf s.cfg.live n).enabled = true ∧ (burstOf s.cfg.live n).onTick = s.manifold.tick ∧
      (burstOf s.cfg.live n).onTick ≠ (burstOf s.cfg.live n).offTick ∧
      (∃ k r p, s.rackAt n = some (k, r) ∧ r.phase = .inBath ∧ s.patternOf r = some p ∧
        ((s.pattern p).mode = .gas ∨ (s.pattern p).mode = .both) ∧ s.manifold.frame % (s.pattern p).everyN = 0) ∧
      (s.cradle n).state = .down ∧ (s.pin n).cradleDown = true ∧ s.cond n .levelLow = false ∧ s.pins.gasOk = true := by
  simp only [State.burstDue, State.burstAllowed, hmove, Bool.and_eq_true, State.burstWanted_iff, beq_iff_eq, bne_iff_ne,
    Bool.not_eq_true', Bool.true_and, and_true]
  constructor
  · rintro ⟨⟨⟨he, hne⟩, ht⟩, ⟨⟨⟨hw, hd⟩, hp⟩, hl⟩, hg⟩
    exact ⟨he, ht.symm, hne, hw, hd, hp, hl, hg⟩
  · rintro ⟨he, ht, hne, hw, hd, hp, hl, hg⟩
    exact ⟨⟨⟨he, hne⟩, ht.symm⟩, ⟨⟨⟨hw, hd⟩, hp⟩, hl⟩, hg⟩

/-- A command that works one valve alone. -/
theorem exec_valve {c : Instr} {inp : Inputs} {f : State → State} {b : Bool} (hrun : s.run = .running)
    (hexec : exec c s = event inp f s) (h1 : 1 ≤ n) (hn : n ≤ s.manifold.valves.length)
    (hv : f (s.latch inp) = (s.latch inp).setValve n b ∨ (f (s.latch inp) = s.latch inp ∧ b = s.valve n)) :
    ∃ t, exec c s = .next t ∧
      t = { s with pins := inp, out := t.out, manifold := { s.manifold with valves := t.manifold.valves } } ∧
      (∀ m, m ≠ n → t.valve m = s.valve m) ∧ t.valve n = b := by
  refine ⟨_, exec_of_effect hrun hexec rfl, ?_⟩
  have ht := State.drive_eq (f (s.latch inp))
  generalize (f (s.latch inp)).drive = t at ht
  rcases hv with hv | ⟨hv, rfl⟩
  · rw [hv] at ht
    refine ⟨by rw [ht]; rfl, fun m hm => ?_, ?_⟩
    · rw [ht]
      exact State.valve_setValve_other _ _ hm
    · rw [ht]
      exact State.valve_setValve_same _ _ h1 hn
  · rw [hv] at ht
    exact ⟨by rw [ht]; rfl, fun m _ => by rw [ht]; rfl, by rw [ht]; rfl⟩

end

/-- Settles O20. -/
theorem manifoldTicksAndWraps : Obligations.ManifoldTicksAndWraps := by
  unfold Obligations.ManifoldTicksAndWraps
  intro inp s hrun hmove hgas hvalves
  have hmove' : (s.latch inp).manifold.running = true := hmove
  refine ⟨fun hlow => ⟨?_, ?_⟩, fun hhigh c hc => ?_⟩
  · have heff : (s.latch inp).tickDue = { s.latch inp with
        manifold := { s.manifold with tick := s.manifold.tick + 1 }, line := { s.line with gasLow := false } } := by
      rw [State.tickDue, if_pos hmove', State.tick, if_pos (show (s.latch inp).manifold.tick < 199 from hlow)]
      exact State.readGas_of_ok hgas
    exact ⟨_, exec_of_effect (f := State.tickDue) hrun rfl heff, State.drive_eq _⟩
  · exact exec_idle (f := State.wrapDue) hrun rfl (if_neg fun h => absurd h.2 (not_le.mpr hlow))
  · have htick : (s.latch inp).tick = { (s.latch inp).wrapFrame with line := { s.line with gasLow := false } } := by
      have hframe := (s.latch inp).wrapFrame_eq
      have happlied := (s.latch inp).nextFrame_frame
      rw [State.tick, if_neg (show ¬ (s.latch inp).manifold.tick < 199 from not_lt.mpr hhigh)]
      rw [State.readGas_of_ok (by rw [hframe, happlied]; exact hgas)]
      have hline : (s.latch inp).wrapFrame.line = s.line := by rw [hframe, happlied]; rfl
      rw [hline]
    have hexec : exec c s = .next { (s.latch inp).wrapFrame with line := { s.line with gasLow := false } }.drive := by
      rcases hc with rfl | rfl
      · exact exec_of_effect (f := State.tickDue) hrun rfl ((if_pos hmove').trans htick)
      · exact exec_of_effect (f := State.wrapDue) hrun rfl ((if_pos ⟨hmove', hhigh⟩).trans htick)
    refine ⟨_, hexec, ?_⟩
    have ht := State.drive_eq { (s.latch inp).wrapFrame with line := { s.line with gasLow := false } }
    generalize State.drive _ = t at ht
    have hwrap := (s.latch inp).wrapFrame_eq
    have hframe := (s.latch inp).nextFrame_frame
    have hvalve {n : Nat} (h1 : 1 ≤ n) (h16 : n ≤ 16) := State.valve_wrapFrame (s := s.latch inp) h1 h16
    have htvalve (n : Nat) : t.valve n = (s.latch inp).wrapFrame.valve n := by rw [ht]; rfl
    have htlive : t.cfg.live = (s.latch inp).wrapFrame.cfg.live := by rw [ht]
    have hlive : (s.latch inp).wrapFrame.cfg.live = (s.latch inp).nextFrame.cfg.live := by rw [hwrap]
    have htevents : t.events = (s.latch inp).nextFrame.events := by rw [ht, hwrap]
    have hidle := State.nextFrame_idle (s := s.latch inp)
    have hpending := State.nextFrame_pending (s := s.latch inp)
    generalize (s.latch inp).nextFrame = w at *
    refine ⟨?_, ?_, ?_, ?_, ?_, ?_, fun hno => ?_, fun hyes hclear => ?_, fun hyes hclash => ?_, fun n h1 h16 => ?_⟩
    · rw [ht, hwrap, hframe]
      rfl
    · rw [ht, hwrap, hframe]
      exact hmove
    · rw [ht, hwrap, hframe]
    · rw [ht, hwrap, hframe]
    · rw [ht, hwrap, hframe]
      rfl
    · rw [ht, hwrap, hframe]
      rfl
    · rw [htlive, hlive, htevents, hidle hno]
      exact ⟨rfl, rfl⟩
    · obtain ⟨hl, hposted, hshared⟩ := State.applyBursts_of_clear (s := (s.latch inp).wrapped) (clash_eq_none_iff.mpr hclear)
      have hev : t.events = (s.latch inp).wrapped.applyBursts.events := by rw [htevents, hpending hyes]
      refine ⟨by rw [htlive, hlive, hpending hyes]; exact hl, (hposted.of_clock rfl).congr hev, fun i j hij => ?_⟩
      exact ((hshared i j hij).of_clock rfl).congr hev
    · obtain ⟨i, j, hc, hij⟩ := clash_of_not_mapClear hclash
      obtain ⟨hcfg, hposted⟩ := State.applyBursts_of_clash (s := (s.latch inp).wrapped) hc
      have hev : t.events = (s.latch inp).wrapped.applyBursts.events := by rw [htevents, hpending hyes]
      exact ⟨by rw [htlive, hlive, hpending hyes, hcfg]; rfl, i, j, hij, (hposted.of_clock rfl).congr hev⟩
    · rw [htvalve, htlive]
      exact hvalve h1 h16

/-- Settles O21. -/
theorem burstValvesAndGasPressure : Obligations.BurstValvesAndGasPressure := by
  unfold Obligations.BurstValvesAndGasPressure
  refine ⟨fun n inp s hrun hmove h1 h16 hvalves => ⟨?_, ?_⟩, fun inp s hrun => ?_⟩
  · obtain ⟨t, hexec, ht, hother, hself⟩ := exec_valve (c := .burstOnTick n inp) (f := fun t => t.burstOn n) (n := n)
      (b := s.valve n || (s.latch inp).burstDue n) hrun rfl h1 (by omega) (by
        cases hb : (s.latch inp).burstDue n with
        | true => exact .inl ((if_pos hb).trans (by rw [Bool.or_true]))
        | false => exact .inr ⟨if_neg (by rw [Bool.not_eq_true]; exact hb), Bool.or_false _⟩)
    refine ⟨t, hexec, ht, hother, ?_⟩
    have hpin : t.pin n = (s.latch inp).pin n := by rw [ht]; rfl
    rw [hself, Bool.or_eq_true, State.burstDue_iff (s := s.latch inp) hmove, hpin]
    rfl
  · have hoff : (s.latch inp).burstOff n = if s.manifold.tick = (burstOf s.cfg.live n).offTick then (s.latch inp).setValve n false
        else s.latch inp := by
      have hcond : ((s.latch inp).manifold.running && (s.latch inp).manifold.tick == (burstOf (s.latch inp).cfg.live n).offTick) =
          decide (s.manifold.tick = (burstOf s.cfg.live n).offTick) := by
        rw [show (s.latch inp).manifold.running = true from hmove, Bool.true_and]
        rfl
      rw [State.burstOff, hcond]
      simp only [decide_eq_true_eq]
    refine exec_valve (c := .burstOffTick n inp) (f := fun t => t.burstOff n) hrun rfl h1 (by omega) ?_
    by_cases h : s.manifold.tick = (burstOf s.cfg.live n).offTick
    · exact .inl (hoff.trans (by rw [if_pos h, decide_eq_false (not_not.mpr h), Bool.and_false]))
    · exact .inr ⟨hoff.trans (if_neg h), by rw [decide_eq_true h, Bool.and_true]⟩
  · refine ⟨_, exec_of_effect (f := State.readGas) hrun rfl rfl, ?_⟩
    have ht := State.drive_eq (s.latch inp).readGas
    cases hgas : inp.gasOk with
    | true =>
      rw [State.readGas_of_ok (show (s.latch inp).pins.gasOk = true from hgas)] at ht ⊢
      generalize State.drive _ = t at ht
      refine ⟨by rw [ht]; rfl, fun _ => by rw [ht]; exact ⟨rfl, rfl, rfl⟩, nofun⟩
    | false =>
      have hclosed : ∀ v ∈ (s.latch inp).closeValves.manifold.valves, v = false := fun v hv => by
        obtain ⟨w, -, rfl⟩ := List.mem_map.mp hv
        rfl
      have hlen : (s.latch inp).closeValves.manifold.valves.length = s.manifold.valves.length := List.length_map ..
      cases hlow : s.line.gasLow with
      | true =>
        rw [State.readGas_of_still_low (show (s.latch inp).pins.gasOk = false from hgas) hlow] at ht ⊢
        generalize State.drive _ = t at ht
        have hline : s.line = { s.line with gasLow := true } := by rw [← hlow]
        refine ⟨?_, nofun, fun _ => ⟨?_, ?_, fun _ => ?_, nofun⟩⟩
        · rw [ht]
          exact congrArg (fun l : Line => { s with
            pins := inp, out := t.out, line := l, manifold := (s.latch inp).closeValves.manifold }) hline
        · rw [ht, hlen]
        · rw [ht]
          exact hclosed
        · rw [ht]
          exact ⟨rfl, rfl⟩
      | false =>
        rw [State.readGas_of_low (show (s.latch inp).pins.gasOk = false from hgas) hlow] at ht ⊢
        generalize State.drive _ = t at ht
        refine ⟨by rw [ht]; rfl, nofun, fun _ => ⟨by rw [ht, hlen], by rw [ht]; exact hclosed, nofun, fun _ hroom => ?_⟩⟩
        rw [ht]
        rcases (s.latch inp).post_cases .gasLow 0 255 0 0 with ⟨-, hp⟩ | ⟨hfull, -⟩
        · rw [hp]
          exact ⟨rfl, rfl⟩
        · exact absurd hroom (not_lt.mpr hfull)

end Sys2Proof.Machine
end

section
/-! PROOFS. The pump (8.7). -/

namespace Sys2Proof.Machine

section
variable {s : State} {inp : Inputs} {d : Delivery} {pre post : List Delivery}

/-! ### The oldest eligible delivery (R139) -/

theorem modifyFirst_of_first {α : Type} {q : α → Bool} {g : α → α} {l r : List α} {x : α} (hl : ∀ y ∈ l, q y = false)
    (hx : q x = true) : modifyFirst q g (l ++ x :: r) = some (x, l ++ g x :: r) := by
  induction l with
  | nil => rw [List.nil_append, modifyFirst, if_pos hx, List.nil_append]
  | cons y l ih =>
    rw [List.cons_append, modifyFirst, if_neg (by rw [hl y List.mem_cons_self]; decide), ih fun z hz => hl z (List.mem_cons_of_mem _ hz)]
    rfl

theorem modifyFirst_of_none {α : Type} {q : α → Bool} {g : α → α} {l : List α} (hl : ∀ y ∈ l, q y = false) :
    modifyFirst q g l = none := by
  induction l with
  | nil => rfl
  | cons y l ih =>
    rw [modifyFirst, if_neg (by rw [hl y List.mem_cons_self]; decide), ih fun z hz => hl z (List.mem_cons_of_mem _ hz)]
    rfl

theorem State.eligible_iff : s.eligible d = true ↔
    s.cond d.station .levelHigh = false ∧ s.line.state ≠ .dormant ∧ s.line.pumpFault = false := by
  simp [State.eligible, and_assoc]

/-! ### The pump outputs (R139) -/

/-- The outputs of the pump follow its run. -/
theorem State.pumpOutputs (hrun : s.run = .running) : s.drive.out.pumpRun = s.pump.isSome ∧ s.drive.out.selectors.length = 16 ∧
    (∀ n, 1 ≤ n → n ≤ 16 → (s.drive.out.selectors.getD (n - 1) false = true ↔ ∃ p, s.pump = some p ∧ p.station = n)) ∧
    (s.pump = none → ∀ v ∈ s.drive.out.selectors, v = false) := by
  rw [State.drive_running hrun]
  refine ⟨rfl, ?_, fun n h1 h16 => ?_, fun hnone v hv => ?_⟩
  · show (allStations.map _).length = 16
    rw [List.length_map]
    rfl
  · have hsel := atStation_map_allStations (fun n => match s.pump with | some p => p.station == n | none => false) false h1 h16
    obtain ⟨k, rfl⟩ : ∃ k, n = k + 1 := ⟨n - 1, by omega⟩
    refine Eq.to_iff (congrArg (· = true) hsel) |>.trans ?_
    cases s.pump <;> simp
  · obtain ⟨n, -, rfl⟩ := List.mem_map.mp hv
    rw [hnone]

/-- A command with an effect on the pump. -/
theorem exec_pump {c : Instr} {f : State → State} {v : State} (hrun : s.run = .running) (hexec : exec c s = event inp f s)
    (hv : f (s.latch inp) = v) (hvrun : v.run = .running) : ∃ t, exec c s = .next t ∧ t = { v with out := t.out } ∧
      t.out.pumpRun = v.pump.isSome ∧ t.out.selectors.length = 16 ∧
      (∀ n, 1 ≤ n → n ≤ 16 → (t.out.selectors.getD (n - 1) false = true ↔ ∃ p, v.pump = some p ∧ p.station = n)) ∧
      (v.pump = none → ∀ x ∈ t.out.selectors, x = false) :=
  ⟨_, exec_of_effect hrun hexec hv, State.drive_eq v, State.pumpOutputs hvrun⟩

/-! ### The commands -/

theorem State.startPump_of_idle (hpump : s.pump = none) (hd : s.deliveries = pre ++ d :: post)
    (hpre : ∀ x ∈ pre, s.eligible x = false) (hel : s.eligible d = true) : s.startPump = { s with
      deliveries := pre ++ { d with running := true } :: post
      pump := some ⟨d.station, s.clock, ceilDiv (d.volume * 60) s.cfg.line.pumpFlow, false⟩ } := by
  rw [State.startPump, hpump, hd, modifyFirst_of_first hpre hel]
  rfl

theorem State.startPump_of_none (h : s.pump ≠ none ∨ ∀ x ∈ s.deliveries, s.eligible x = false) : s.startPump = s := by
  unfold State.startPump
  split
  · rfl
  · next hp =>
    rcases h with h | h
    · exact absurd (by simpa using hp) h
    · rw [modifyFirst_of_none h]

variable {p : PumpRun}

theorem State.flowFault_of_no_flow (hp : s.pump = some p) (h : addSec p.start 5 ≤ s.clock) (hf : p.flowSeen = false) :
    s.flowFault = { s with
      pump := none, deliveries := s.deliveries.map (fun d => { d with running := false })
      line := { s.line with pumpFault := true }
      events := (s.post .pumpFault p.station 255 0 0).events, lost := (s.post .pumpFault p.station 255 0 0).lost } := by
  have hpost := State.post_same (u := { s.stopPump with line := { s.line with pumpFault := true } }) (k := .pumpFault)
    (a := p.station) (b := 255) (c := 0) (d := 0) (s := s) rfl rfl rfl
  rw [State.flowFault, hp]
  simp only [if_pos (And.intro h hf)]
  rw [← hpost.1, ← hpost.2]
  exact State.post_eq _ _ _ _ _ _

theorem State.flowFault_of_flow (hp : s.pump = some p) (h : ¬ (addSec p.start 5 ≤ s.clock ∧ p.flowSeen = false)) :
    s.flowFault = s := by
  rw [State.flowFault, hp]
  exact if_neg h

theorem State.completeRun_of_running (hp : s.pump = some p) (h : ¬ (addSec p.start p.length ≤ s.clock ∧ p.flowSeen = true)) :
    s.completeRun = s := by
  rw [State.completeRun, hp]
  exact if_neg h

/-- The part with the pump's entry out of the queue. -/
def State.delivered (s : State) (rest : List Delivery) : State := { s with pump := none, deliveries := rest }

/-- Setting an exhaustion index changes the bath of its station and what EXHAUSTED posts. -/
theorem State.setExhaustionIndex_frame (s : State) (n e : Nat) : s.setExhaustionIndex n e = { s with
    baths := (s.setExhaustionIndex n e).baths, events := (s.setExhaustionIndex n e).events
    lost := (s.setExhaustionIndex n e).lost } := State.judgeFlag_eq _ _ _ _

theorem State.bath_setExhaustionIndex_other (s : State) (e : Nat) {m n : Nat} (h : m ≠ n) :
    (s.setExhaustionIndex n e).bath m = s.bath m :=
  (State.bath_judgeFlag_other _ _ _ h).trans (State.bath_setBath_other _ _ h)

theorem State.bath_setExhaustionIndex_same (s : State) {n : Nat} (h1 : 1 ≤ n) (hn : n ≤ s.baths.length) (e : Nat) :
    ∃ l, (s.setExhaustionIndex n e).bath n = { s.bath n with
      exhaustion := e, conds := (s.bath n).conds.set .exhausted (decide ((s.stationCfg n).exhLimit ≤ e)), latches := l } := by
  obtain ⟨l, hl⟩ := (s.setBath n { s.bath n with exhaustion := e }).bath_judgeExhausted_same h1 (by simpa [State.setBath] using hn)
  have hset := State.bath_setBath_same s { s.bath n with exhaustion := e } h1 hn
  refine ⟨l, ?_⟩
  rw [State.setExhaustionIndex, hl, hset]
  rfl

theorem State.completeRun_of_done (hp : s.pump = some p) (h : addSec p.start p.length ≤ s.clock) (hf : p.flowSeen = true)
    (hd : s.deliveries = pre ++ d :: post) (hother : ∀ x ∈ pre ++ post, x.running = false) (hrun : d.running = true) :
    s.completeRun = (s.delivered (pre ++ post)).setExhaustionIndex p.station ((s.bath p.station).exhaustion - d.credit) := by
  have hpre (x : Delivery) (hx : x ∈ pre) := hother x (List.mem_append_left _ hx)
  have hpost (x : Delivery) (hx : x ∈ post) := hother x (List.mem_append_right _ hx)
  have hfind : s.deliveries.find? (·.running) = some d := by
    rw [hd, List.find?_append, List.find?_eq_none.mpr fun x hx => by simp [hpre x hx]]
    simp [hrun]
  have hrest : (s.deliveries.filter fun x => !x.running) = pre ++ post := by
    rw [hd, List.filter_append, List.filter_cons, hrun, List.filter_eq_self.mpr fun x hx => by simp [hpre x hx],
      List.filter_eq_self.mpr fun x hx => by simp [hpost x hx]]
    rfl
  rw [State.completeRun, hp]
  simp only [if_pos (And.intro h hf), hfind, hrest]
  rfl

end

/-- Settles O22. -/
theorem pumpServesTheQueue : Obligations.PumpServesTheQueue := by
  unfold Obligations.PumpServesTheQueue
  refine ⟨fun inp s pre post d hrun hd eligible heligible => ⟨fun hpump hpre hel => ?_, fun h => ?_⟩,
    fun inp s p hrun hp hbaths h1 h16 => ⟨fun hlate hf => ?_, fun h => ?_, fun pre post d hd hother hd' hlate hf => ?_, fun h => ?_⟩⟩
  · have hnot (x : Delivery) (h : ¬ eligible x) : (s.latch inp).eligible x = false :=
      Bool.eq_false_iff.mpr fun he => h ((heligible x).mpr (State.eligible_iff.mp he))
    have heff := State.startPump_of_idle (s := s.latch inp) hpump hd (fun x hx => hnot x (hpre x hx))
      (State.eligible_iff.mpr ((heligible d).mp hel))
    obtain ⟨t, hexec, ht, hpumpRun, hlen, hsel, -⟩ := exec_pump (c := .pumpStart inp) (f := State.startPump) hrun rfl heff hrun
    refine ⟨t, hexec, by rw [ht], by rw [ht]; rfl, hpumpRun, hlen, fun n h1 h16 => (hsel n h1 h16).trans ?_, by rw [ht]; rfl⟩
    simp [eq_comm]
  · have hnot (x : Delivery) (h : ¬ eligible x) : (s.latch inp).eligible x = false :=
      Bool.eq_false_iff.mpr fun he => h ((heligible x).mpr (State.eligible_iff.mp he))
    exact exec_idle (f := State.startPump) hrun rfl
      (State.startPump_of_none (s := s.latch inp) (h.imp_right fun hall x hx => hnot x (hall x hx)))
  · have heff := State.flowFault_of_no_flow (s := s.latch inp) hp hlate hf
    obtain ⟨t, hexec, ht, hpumpRun, -, -, hsel⟩ := exec_pump (c := .pumpFlowFault inp) (f := State.flowFault) hrun rfl heff hrun
    refine ⟨t, hexec, by rw [ht], by rw [ht], hpumpRun, hsel rfl, by rw [ht]; rfl, ?_, by rw [ht]; rfl⟩
    exact (State.posted_post (u := s.latch inp) rfl).congr (by rw [ht])
  · refine exec_idle (f := State.flowFault) hrun rfl (State.flowFault_of_flow (s := s.latch inp) hp ?_)
    rintro ⟨hlate, hf⟩
    rcases h with h | h
    · exact absurd hlate (not_le.mpr h)
    · rw [hf] at h; cases h
  · have heff := State.completeRun_of_done (s := s.latch inp) hp hlate hf hd hother hd'
    have hframe := ((s.latch inp).delivered (pre ++ post)).setExhaustionIndex_frame p.station ((s.bath p.station).exhaustion - d.credit)
    obtain ⟨l, hself⟩ := ((s.latch inp).delivered (pre ++ post)).bath_setExhaustionIndex_same h1 (hbaths.symm ▸ h16)
      ((s.bath p.station).exhaustion - d.credit)
    have hbath (n : Nat) (hn : n ≠ p.station) := ((s.latch inp).delivered (pre ++ post)).bath_setExhaustionIndex_other
      ((s.bath p.station).exhaustion - d.credit) hn
    obtain ⟨t, hexec, ht, hpumpRun, -⟩ := exec_pump (c := .pumpRunComplete inp) (f := State.completeRun) hrun rfl heff
      (by rw [State.setExhaustionIndex_frame]; exact hrun)
    change t = { ((s.latch inp).delivered (pre ++ post)).setExhaustionIndex p.station ((s.bath p.station).exhaustion - d.credit) with
      out := t.out } at ht
    change t.out.pumpRun = (((s.latch inp).delivered (pre ++ post)).setExhaustionIndex p.station
      ((s.bath p.station).exhaustion - d.credit)).pump.isSome at hpumpRun
    generalize ((s.latch inp).delivered (pre ++ post)).setExhaustionIndex p.station ((s.bath p.station).exhaustion - d.credit) = w at *
    have htbath (n : Nat) : t.bath n = w.bath n := by rw [ht]; rfl
    have hex : (t.bath p.station).exhaustion = (s.bath p.station).exhaustion - d.credit := by rw [htbath, hself]
    refine ⟨t, hexec, by rw [ht, hframe]; rfl, by rw [hpumpRun, hframe]; rfl, by rw [ht, hframe]; rfl, hex, ?_, fun n hn => ?_, ?_⟩
    · rw [hex, State.cond, htbath, hself]
      exact Eq.to_iff (congrArg (· = true) (FlagSet.get_set_same _ .exhausted _)) |>.trans decide_eq_true_iff
    · rw [htbath, hbath n hn]
      rfl
    · rw [ht, hframe]
      rfl
  · refine exec_idle (f := State.completeRun) hrun rfl (State.completeRun_of_running (s := s.latch inp) hp ?_)
    rintro ⟨hlate, hf⟩
    rcases h with h | h
    · exact absurd hlate (not_le.mpr h)
    · rw [hf] at h; cases h

end Sys2Proof.Machine
end

section
/-! PROOFS. The rates of development (chapter Development Arithmetic): their range and how they rise. -/
namespace Sys2Proof.Machine

/-! ### The index of a temperature -/

theorem curveIndex_le (tref t : Nat) : (curveIndex tref t).1 ≤ 160 := by
  unfold curveIndex
  split
  · decide
  · split
    · decide
    · show t + 80 - tref ≤ 160
      omega

theorem curveIndex_mono (tref : Nat) {a b : Nat} (hab : a ≤ b) :
    (curveIndex tref a).1 ≤ (curveIndex tref b).1 := by
  unfold curveIndex
  grind

theorem curveIndex_self (tref : Nat) : (curveIndex tref tref).1 = 80 := by
  simp [curveIndex]

/-! ### The rate between two points -/

/-- At the last index the rate is the last point. -/
theorem Curve.rateAt_last {c : Curve} {u : Nat} (hu : u / 10 = 16) : c.rateAt u = c.point 16 := if_pos hu

/-- Below the last index the rate is the rounded mean of the two points about it. -/
theorem Curve.rateAt_between {c : Curve} {u : Nat} (hu : u / 10 ≠ 16) :
    c.rateAt u = (c.point (u / 10) * (10 - u % 10) + c.point (u / 10 + 1) * (u % 10) + 5) / 10 := if_neg hu

/-- On the index of a point the rate is that point. -/
theorem Curve.rateAt_point (c : Curve) (i : Nat) : c.rateAt (10 * i) = c.point i := by
  have hdiv : 10 * i / 10 = i := by omega
  by_cases hi : i = 16
  · rw [Curve.rateAt_last (hdiv.trans hi), hi]
  · have hmod : 10 * i % 10 = 0 := by omega
    rw [Curve.rateAt_between (by omega), hdiv, hmod]
    omega

/-- A bound of all points bounds the rate. -/
theorem Curve.rateAt_le {c : Curve} {m : Nat} (hm : ∀ i, c.point i ≤ m) (u : Nat) : c.rateAt u ≤ m := by
  by_cases hu : u / 10 = 16
  · rw [Curve.rateAt_last hu]; exact hm 16
  · rw [Curve.rateAt_between hu]
    have hlow := Nat.mul_le_mul_right (10 - u % 10) (hm (u / 10))
    have hhigh := Nat.mul_le_mul_right (u % 10) (hm (u / 10 + 1))
    have hsum : m * (10 - u % 10) + m * (u % 10) = m * 10 := by
      rw [← Nat.mul_add, Nat.sub_add_cancel (by omega)]
    omega

theorem Curve.point_le {c : Curve} {m : Nat} (hm : ∀ p ∈ c.points, p ≤ m) (i : Nat) : c.point i ≤ m := by
  unfold Curve.point
  by_cases hi : i < c.points.length
  · rw [List.getD_eq_getElem _ _ hi]
    exact hm _ (List.getElem_mem hi)
  · rw [List.getD_eq_default _ _ (by omega)]
    exact Nat.zero_le m

/-- On a curve that does not fall, each point is at most the next. -/
theorem Curve.point_step {c : Curve} (hlen : c.points.length = 17) (hrise : c.points.Pairwise (· ≤ ·)) {i : Nat}
    (hi : i < 16) : c.point i ≤ c.point (i + 1) := by
  unfold Curve.point
  rw [List.getD_eq_getElem _ _ (by omega), List.getD_eq_getElem _ _ (by omega)]
  exact List.pairwise_iff_getElem.mp hrise _ _ _ _ (Nat.lt_succ_self i)

/-- On a curve that does not fall, the rate of an index is at most that of the next: within a tenth by weight, over a
point because the mean before it lies below the point. -/
theorem Curve.rateAt_step {c : Curve} (hlen : c.points.length = 17) (hrise : c.points.Pairwise (· ≤ ·)) {u : Nat}
    (hu : u < 160) : c.rateAt u ≤ c.rateAt (u + 1) := by
  have hpq : c.point (u / 10) ≤ c.point (u / 10 + 1) := Curve.point_step hlen hrise (by omega)
  rw [Curve.rateAt_between (c := c) (u := u) (by omega)]
  by_cases hlast : u % 10 = 9
  · have hnext : u + 1 = 10 * (u / 10 + 1) := by omega
    rw [hnext, Curve.rateAt_point, hlast]
    omega
  · have hdiv : (u + 1) / 10 = u / 10 := by omega
    have hmod : (u + 1) % 10 = u % 10 + 1 := by omega
    obtain ⟨k, hk⟩ : ∃ k, 10 - u % 10 = k + 1 := ⟨9 - u % 10, by omega⟩
    have hk' : 10 - (u % 10 + 1) = k := by omega
    rw [Curve.rateAt_between (by omega), hdiv, hmod, hk, hk', Nat.mul_succ, Nat.mul_succ]
    omega

theorem Curve.rateAt_mono {c : Curve} (hlen : c.points.length = 17) (hrise : c.points.Pairwise (· ≤ ·)) {u v : Nat}
    (huv : u ≤ v) (hv : v ≤ 160) : c.rateAt u ≤ c.rateAt v := by
  induction v, huv using Nat.le_induction with
  | base => exact Nat.le_refl _
  | succ w _ ih => exact (ih (by omega)).trans (Curve.rateAt_step hlen hrise (by omega))

/-! ### The effective rate -/

theorem effectiveRate_pos (kt x : Nat) : 1 ≤ effectiveRate kt x := Nat.le_max_left _ _

theorem effectiveRate_mono (x : Nat) {k l : Nat} (hkl : k ≤ l) : effectiveRate k x ≤ effectiveRate l x := by
  unfold effectiveRate
  exact max_le_max (Nat.le_refl 1) (Nat.div_le_div_right (Nat.mul_le_mul_right _ hkl))

theorem effectiveRate_le {kt m : Nat} (x : Nat) (hm : 1 ≤ m) (hkt : kt ≤ m) : effectiveRate kt x ≤ m := by
  refine max_le hm ?_
  calc kt * (1024 - x) / 1024 ≤ kt * 1024 / 1024 :=
        Nat.div_le_div_right (Nat.mul_le_mul_left _ (Nat.sub_le _ _))
    _ = kt := Nat.mul_div_cancel _ (by decide)
    _ ≤ m := hkt

theorem effectiveRate_underated {kt : Nat} (hkt : 1 ≤ kt) : effectiveRate kt 0 = kt := by
  show max 1 (kt * 1024 / 1024) = kt
  rw [Nat.mul_div_cancel _ (by decide : 0 < 1024)]
  exact max_eq_right hkt

/-- Settles O53. -/
theorem ratesStayInRangeAndRise : Obligations.RatesStayInRangeAndRise := by
  unfold Obligations.RatesStayInRangeAndRise
  constructor
  · intro s n c _ hpoints hmid _ _
    have hle : ∀ i, c.point i ≤ 8192 := Curve.point_le fun p hp => (hpoints p hp).2
    refine ⟨effectiveRate_pos _ _, effectiveRate_le _ (by decide) (Curve.rateAt_le hle _), ?_⟩
    intro htref hslope
    show effectiveRate (c.rateAt (curveIndex c.tref (s.rateTemp n c.tref).1).1) (derate _ (s.stationCfg n).slope) = 1024
    have hrate : c.rateAt 80 = 1024 := (Curve.rateAt_point c 8).trans hmid
    have hderate : ∀ e, derate e 0 = 0 := fun e => by simp [derate]
    rw [htref, curveIndex_self, hslope, hderate, hrate]
    exact effectiveRate_underated (by decide)
  · intro c x a b hlen hrise hab
    exact effectiveRate_mono x (Curve.rateAt_mono hlen hrise (curveIndex_mono c.tref hab) (curveIndex_le _ _))

end Sys2Proof.Machine
end

section
/-! PROOFS. What the Integrator's and the Planner's work of a line second leaves unchanged (3.6, 3.7, 5.3, 5.5, 6.5). -/

namespace Sys2Proof.Machine

/-! ### The work on racks and plans -/

/-- The record as the Planner changes it: its planned start, and the marks of a refused slide, which only come (R53, R103). -/
def Rack.Replanned (r q : Rack) : Prop :=
  q = { r with nextStart := q.nextStart, slideMark := q.slideMark,
               flags := { r.flags with slideRefused := q.flags.slideRefused } } ∧
  (r.flags.slideRefused = true → q.flags.slideRefused = true)

/-- The record as a line second changes it where the rack stays: what the Planner changes, and the Integrator's fields and
marks (R40, R42, R53). -/
def Rack.Tended (r q : Rack) : Prop :=
  q = { r with dose := q.dose, rate := q.rate, predicted := q.predicted, nextStart := q.nextStart, slideMark := q.slideMark,
               flags := q.flags }

section
variable {r q p : Rack}

theorem Rack.Replanned.refl (r : Rack) : r.Replanned r := ⟨rfl, id⟩

theorem Rack.Replanned.trans (h : r.Replanned q) (h' : q.Replanned p) : r.Replanned p :=
  ⟨by rw [h'.1, h.1], fun hr => h'.2 (h.2 hr)⟩

theorem Rack.Replanned.tended (h : r.Replanned q) : r.Tended q := by
  rw [Rack.Tended, h.1]

theorem Rack.Tended.refl (r : Rack) : r.Tended r := rfl

theorem Rack.Tended.trans (h : r.Tended q) (h' : q.Tended p) : r.Tended p := by
  rw [Rack.Tended, h', h]

end

/-- Nothing has changed but the racks, each as `R` allows, with the plans, the Driver, the fault-cleared indication aside, the
racks the Integrator has still to reach, and the event queue, which has only grown. -/
inductive State.Works (R : Nat → Rack → Rack → Prop) (s : State) : State → Prop
  | mk (slots : List (Option Rack)) (schedule : List Entry) (timelines : List (List Interval)) (deferred : List Deferred)
      (driver : Driver) (due : List Nat) (events : List Event) (lost : Nat)
      (hcleared : driver.faultCleared = s.driver.faultCleared) (hlen : slots.length = s.slots.length)
      (hr : ∀ k, Option.Rel (R k) (s.rack k) (slots.getD k none)) (hev : s.events <+: events) :
      Works R s { s with
        slots := slots, schedule := schedule, timelines := timelines, deferred := deferred, driver := driver,
        accrualDue := due, events := events, lost := lost }

section
variable {R R' : Nat → Rack → Rack → Prop} {s t u : State}

theorem State.Works.clock (h : s.Works R t) : t.clock = s.clock := by cases h; rfl
theorem State.Works.pins (h : s.Works R t) : t.pins = s.pins := by cases h; rfl
theorem State.Works.cfg (h : s.Works R t) : t.cfg = s.cfg := by cases h; rfl
theorem State.Works.line (h : s.Works R t) : t.line = s.line := by cases h; rfl
theorem State.Works.baths (h : s.Works R t) : t.baths = s.baths := by cases h; rfl
theorem State.Works.pump (h : s.Works R t) : t.pump = s.pump := by cases h; rfl
theorem State.Works.manifold (h : s.Works R t) : t.manifold = s.manifold := by cases h; rfl
theorem State.Works.completions (h : s.Works R t) : t.completions = s.completions := by cases h; rfl
theorem State.Works.evacOrder (h : s.Works R t) : t.evacOrder = s.evacOrder := by cases h; rfl
theorem State.Works.faultCleared (h : s.Works R t) : t.driver.faultCleared = s.driver.faultCleared := by cases h; assumption
theorem State.Works.posts (h : s.Works R t) : s.events <+: t.events := by cases h; assumption
theorem State.Works.racks (h : s.Works R t) (k : Nat) : Option.Rel (R k) (s.rack k) (t.rack k) := by
  cases h with | mk _ _ _ _ _ _ _ _ _ _ hr => exact hr k

theorem State.Works.refl (hR : ∀ k r, R k r r) (s : State) : s.Works R s := by
  refine .mk s.slots s.schedule s.timelines s.deferred s.driver s.accrualDue s.events s.lost rfl rfl (fun k => ?_)
    List.prefix_rfl
  show Option.Rel (R k) (s.rack k) (s.rack k)
  cases s.rack k
  · exact .none
  · exact .some (hR k _)

theorem option_rel_trans {α : Type} {P : α → α → Prop} (hP : ∀ a b c, P a b → P b c → P a c) {a b c : Option α}
    (h : Option.Rel P a b) (h' : Option.Rel P b c) : Option.Rel P a c := by
  cases h with
  | none => exact h'
  | some hab =>
    cases h' with
    | some hbc => exact .some (hP _ _ _ hab hbc)

theorem option_rel_mono {α : Type} {P Q : α → α → Prop} (hPQ : ∀ a b, P a b → Q a b) {a b : Option α}
    (h : Option.Rel P a b) : Option.Rel Q a b := by
  cases h with
  | none => exact .none
  | some hab => exact .some (hPQ _ _ hab)

theorem State.Works.trans (hR : ∀ k a b c, R k a b → R k b c → R k a c) (h : s.Works R t) (h' : t.Works R u) :
    s.Works R u := by
  have hracks := fun k => option_rel_trans (hR k) (h.racks k) (h'.racks k)
  obtain ⟨slots, schedule, timelines, deferred, driver, due, events, lost, hcleared, hlen, hr, hev⟩ := h
  obtain ⟨slots', schedule', timelines', deferred', driver', due', events', lost', hcleared', hlen', hr', hev'⟩ := h'
  exact .mk slots' schedule' timelines' deferred' driver' due' events' lost' (hcleared'.trans hcleared) (hlen'.trans hlen)
    hracks (hev.trans hev')

theorem State.Works.mono (hR : ∀ k a b, R k a b → R' k a b) (h : s.Works R t) : s.Works R' t := by
  obtain ⟨slots, schedule, timelines, deferred, driver, due, events, lost, hcleared, hlen, hr, hev⟩ := h
  exact .mk slots schedule timelines deferred driver due events lost hcleared hlen
    (fun k => option_rel_mono (hR k) (hr k)) hev

/-- A list of operations, each such work, is such work. -/
theorem State.works_foldl {α : Type} {f : State → α → State} (hrefl : ∀ k r, R k r r)
    (htrans : ∀ k a b c, R k a b → R k b c → R k a c) (hf : ∀ (u : State) (a : α), u.Works R (f u a)) (l : List α)
    (s : State) : s.Works R (l.foldl f s) := by
  induction l generalizing s with
  | nil => exact .refl hrefl s
  | cons a l ih => exact (hf s a).trans htrans (ih _)

end

/-! ### Work on one rack -/

/-- Changes of the rack of one slot alone. -/
def onlyAt (k : Nat) (P : Rack → Rack → Prop) : Nat → Rack → Rack → Prop := fun j r q => if j = k then P r q else q = r

section
variable {P Q : Rack → Rack → Prop} {k : Nat}

theorem onlyAt_refl (hP : ∀ r, P r r) (j : Nat) (r : Rack) : onlyAt k P j r r := by
  unfold onlyAt
  split
  · exact hP r
  · rfl

theorem onlyAt_trans (hP : ∀ a b c, P a b → P b c → P a c) (j : Nat) (a b c : Rack) (h : onlyAt k P j a b)
    (h' : onlyAt k P j b c) : onlyAt k P j a c := by
  unfold onlyAt at h h' ⊢
  split
  · next hj => rw [if_pos hj] at h h'; exact hP a b c h h'
  · next hj => rw [if_neg hj] at h h'; exact h'.trans h

theorem onlyAt_mono (hPQ : ∀ r q, P r q → Q r q) (j : Nat) (r q : Rack) (h : onlyAt k P j r q) : onlyAt k Q j r q := by
  unfold onlyAt at h ⊢
  split
  · next hj => rw [if_pos hj] at h; exact hPQ r q h
  · next hj => rw [if_neg hj] at h; exact h

theorem onlyAt_le (hP : ∀ r, P r r) (j : Nat) (r q : Rack) (h : onlyAt k P j r q) : P r q := by
  unfold onlyAt at h
  split at h
  · exact h
  · rw [h]; exact hP r

end

section
variable (s : State) {k : Nat} {r q : Rack} {R : Nat → Rack → Rack → Prop} {P : Rack → Rack → Prop}

/-- A change of plans and Driver touches no rack. -/
theorem State.works_plans (hR : ∀ k r, R k r r) (schedule : List Entry) (timelines : List (List Interval)) (deferred : List Deferred)
    (driver : Driver) (due : List Nat) (hd : driver.faultCleared = s.driver.faultCleared) : s.Works R { s with
      schedule := schedule, timelines := timelines, deferred := deferred, driver := driver, accrualDue := due } := by
  refine .mk s.slots schedule timelines deferred driver due s.events s.lost hd rfl (fun k => ?_) List.prefix_rfl
  show Option.Rel (R k) (s.rack k) (s.rack k)
  cases s.rack k
  · exact .none
  · exact .some (hR k _)

theorem State.works_post (hR : ∀ k r, R k r r) (e : EventKind) (a b c d : Nat) : s.Works R (s.post e a b c d) := by
  rw [State.post_eq]
  refine .mk s.slots s.schedule s.timelines s.deferred s.driver s.accrualDue _ _ rfl rfl (fun k => ?_)
    (s.events_prefix_post e a b c d)
  show Option.Rel (R k) (s.rack k) (s.rack k)
  cases s.rack k
  · exact .none
  · exact .some (hR k _)

variable {s}

theorem State.works_setRack (h : s.rack k = some r) (hq : P r q) : s.Works (onlyAt k P) (s.setRack k q) := by
  refine .mk _ s.schedule s.timelines s.deferred s.driver s.accrualDue s.events s.lost rfl (by simp) (fun j => ?_)
    List.prefix_rfl
  show Option.Rel (onlyAt k P j) (s.rack j) ((s.setRack k q).rack j)
  by_cases hj : j = k
  · subst hj
    rw [State.rack_setRack_same _ _ (State.rack_lt h), h]
    exact .some (by rw [onlyAt, if_pos rfl]; exact hq)
  · rw [State.rack_setRack_other _ _ hj]
    cases s.rack j
    · exact .none
    · exact .some (by rw [onlyAt, if_neg hj])

variable (s)

theorem State.works_noteStart (k : Nat) : s.Works (onlyAt k Rack.Replanned) (s.noteStart k) := by
  unfold State.noteStart State.modifyRack
  split
  · next r h => exact State.works_setRack h ⟨rfl, id⟩
  · exact .refl (onlyAt_refl Rack.Replanned.refl) s

end

/-! ### The Planner's work (R81, R89, R101 to R103, R106) -/

/-- The Planner's work for the rack of one slot. -/
abbrev State.WorksFor (k : Nat) (s t : State) : Prop := s.Works (onlyAt k Rack.Replanned) t

section
variable {s t u : State} {k : Nat}

theorem State.WorksFor.refl (k : Nat) (s : State) : s.WorksFor k s := State.Works.refl (onlyAt_refl Rack.Replanned.refl) s

theorem State.WorksFor.trans (h : s.WorksFor k t) (h' : t.WorksFor k u) : s.WorksFor k u :=
  State.Works.trans (onlyAt_trans fun _ _ _ => Rack.Replanned.trans) h h'

theorem State.WorksFor.all (h : s.WorksFor k t) : s.Works (fun _ => Rack.Replanned) t :=
  h.mono (onlyAt_le Rack.Replanned.refl)

theorem State.worksFor_bookChain (s : State) (k first : Nat) (c : Cursor) : s.WorksFor k (s.bookChain k first c) := by
  have hbook : s.bookChain k first c =
      (State.bookPlans { s with deferred := s.deferred.filter (·.slot != k) } k first c).noteStart k := rfl
  rw [hbook, State.bookPlans_eq]
  exact State.WorksFor.trans (s.works_plans (onlyAt_refl Rack.Replanned.refl) _ _ _ s.driver s.accrualDue rfl)
    (State.works_noteStart _ k)

theorem State.worksFor_retry (s : State) (d : Deferred) : s.WorksFor d.slot (s.retry d) := by
  unfold State.retry
  split
  · split
    · exact .refl _ s
    · cases hp : s.placeRack d.slot (d.kind == .evacuate) with
      | none => exact .refl _ s
      | some t =>
        obtain ⟨r, c, -, -, rfl⟩ := State.placeRack_some hp
        exact s.worksFor_bookChain _ _ _
  · exact .refl _ s

theorem State.works_retryAll (s : State) : s.Works (fun _ => Rack.Replanned) s.retryAll :=
  State.works_foldl (fun _ => Rack.Replanned.refl) (fun _ _ _ _ => Rack.Replanned.trans)
    (fun u d => (u.worksFor_retry d).all) _ s

theorem State.works_examineAll (s : State) : s.Works (fun _ => Eq) s.examineAll :=
  State.works_foldl (fun _ _ => rfl) (fun _ _ _ _ => Eq.trans)
    (fun u _ => u.works_plans (fun _ _ => rfl) u.schedule _ u.deferred u.driver u.accrualDue rfl) _ s

theorem State.worksFor_slideTo (s : State) (e : Entry) (p : Nat) : s.WorksFor e.slot (s.slideTo e p) :=
  State.WorksFor.trans
    (s.works_plans (onlyAt_refl Rack.Replanned.refl) (s.slidePlans e p).schedule (s.slidePlans e p).timelines s.deferred s.driver
      s.accrualDue rfl)
    (State.works_noteStart (s.slidePlans e p) e.slot)

theorem State.worksFor_rebook {e : Entry} {p : Nat} (h : s.rebook e p = some t) : s.WorksFor e.slot t := by
  obtain ⟨-, rfl⟩ := State.rebook_some h
  exact State.WorksFor.trans (s.works_plans (onlyAt_refl Rack.Replanned.refl) _ _ s.deferred s.driver s.accrualDue rfl)
    (State.works_noteStart _ e.slot)

/-- The part with the planned start of a firm entry as near to the offer as it can be (R103). -/
def State.nearest (s : State) (e : Entry) (p : Nat) : State :=
  let q := intoRange e p
  let near := s.nearestFit e ((q - e.start) + (e.start - q)) q
  if near = e.start then s else s.slideTo e near

theorem State.worksFor_nearest (s : State) (e : Entry) (p : Nat) : s.WorksFor e.slot (s.nearest e p) := by
  unfold State.nearest
  simp only
  split
  · exact .refl _ s
  · exact s.worksFor_slideTo e _

/-- The record with a refused slide marked (R103). -/
def Rack.refused (r : Rack) (e : Entry) : Rack :=
  { r with flags := { r.flags with slideRefused := true }, slideMark := e.index }

theorem State.refuseSlide_of_some {e : Entry} {p : Nat} {r : Rack} (h : (s.nearest e p).rack e.slot = some r) :
    s.refuseSlide e p =
      if r.slideMark = e.index then (s.nearest e p).setRack e.slot (r.refused e)
      else ((s.nearest e p).setRack e.slot (r.refused e)).postRack .slideRefused e.src e.slot e.index := by
  unfold State.nearest at h ⊢
  simp only at h ⊢
  simp only [State.refuseSlide, h, Rack.refused]

theorem State.refuseSlide_of_none {e : Entry} {p : Nat} (h : (s.nearest e p).rack e.slot = none) :
    s.refuseSlide e p = s.nearest e p := by
  unfold State.nearest at h ⊢
  simp only at h ⊢
  simp only [State.refuseSlide, h]

theorem State.worksFor_refuseSlide (s : State) (e : Entry) (p : Nat) : s.WorksFor e.slot (s.refuseSlide e p) := by
  refine (s.worksFor_nearest e p).trans ?_
  cases h : (s.nearest e p).rack e.slot with
  | none => rw [State.refuseSlide_of_none h]; exact .refl _ _
  | some r =>
    rw [State.refuseSlide_of_some h]
    have hset : (s.nearest e p).WorksFor e.slot ((s.nearest e p).setRack e.slot (r.refused e)) :=
      State.works_setRack h ⟨rfl, fun _ => rfl⟩
    split
    · exact hset
    · exact hset.trans (State.works_post _ (onlyAt_refl Rack.Replanned.refl) _ _ _ _ _)

theorem State.worksFor_takeOffer (s : State) (e : Entry) (p : Nat) : s.WorksFor e.slot (s.takeOffer e p) := by
  unfold State.takeOffer
  split
  · exact .refl _ s
  · split
    · exact s.worksFor_slideTo e p
    · cases hb : s.rebook e p with
      | none => exact s.worksFor_refuseSlide e p
      | some t => exact State.worksFor_rebook hb

/-- An offer concerns a firm entry of its own slot (R47). -/
theorem State.firmFor_slot {index : Nat} {e : Entry} (h : s.schedule.find? (Entry.firmFor k index) = some e) :
    e.slot = k := by
  have hfirm := List.find?_some h
  simp only [Entry.firmFor, Entry.bookedFor, Bool.and_eq_true, beq_iff_eq] at hfirm
  exact hfirm.1.1.1

theorem State.worksFor_offer (s : State) (k : Nat) : s.WorksFor k (s.offer k) := by
  unfold State.offer
  split
  · split
    · next he => exact State.firmFor_slot he ▸ s.worksFor_takeOffer _ _
    · exact .refl k s
  · exact .refl k s

/-! ### The Integrator's work (R40, R42, R46) -/

theorem Rack.accrueAt_tended (r : Rack) (now : Nat) (q : Rate) : r.Tended (r.accrueAt now q) := rfl

theorem Rack.accrueHeld_tended (r : Rack) : r.Tended r.accrueHeld := rfl

theorem State.works_developRack (s : State) (k : Nat) : s.Works (onlyAt k Rack.Tended) (s.developRack k) := by
  have hrefl : ∀ j r, onlyAt k Rack.Tended j r r := onlyAt_refl Rack.Tended.refl
  unfold State.developRack
  split
  · next r h =>
    split
    · split
      · exact (State.works_setRack h (Rack.accrueAt_tended _ _ _)).trans (onlyAt_trans fun _ _ _ => Rack.Tended.trans)
          ((State.worksFor_offer _ k).mono (onlyAt_mono fun _ _ => Rack.Replanned.tended))
      · exact State.works_setRack h (Rack.accrueHeld_tended _)
    · exact .refl hrefl s
  · exact .refl hrefl s

theorem State.works_developAll (s : State) : s.Works (fun _ => Rack.Tended) s.developAll := by
  have hfold := State.works_foldl (fun _ => Rack.Tended.refl) (fun _ _ _ _ => Rack.Tended.trans)
    (fun u k => (u.works_developRack k).mono (onlyAt_le Rack.Tended.refl)) s.accrualDue s
  exact hfold.trans (fun _ _ _ _ => Rack.Tended.trans)
    (State.works_plans _ (fun _ => Rack.Tended.refl) _ _ _ _ [] rfl)

/-! ### The Driver turns (R95) -/

theorem State.turn_faultCleared (s : State) : s.turn.driver.faultCleared = s.driver.faultCleared := by
  have happroach (key : Nat × Nat) (n f : Nat) : (s.approach key n f).driver.faultCleared = s.driver.faultCleared := by
    unfold State.approach
    simp only
    split
    · rfl
    · split <;> rfl
  unfold State.turn
  simp only
  split
  case h_1 | h_2 =>
    split
    · rfl
    · split
      · rfl
      · exact happroach _ _ _
  case h_3 =>
    split
    · rfl
    · split
      · rfl
      · exact happroach _ _ _
  all_goals rfl

theorem State.works_turn (s : State) : s.Works (fun _ => Eq) s.turn := by
  rw [State.turn_eq]
  exact s.works_plans (fun _ _ => rfl) _ _ _ _ s.accrualDue s.turn_faultCleared

end

end Sys2Proof.Machine
end

section
/-! PROOFS. What the sampling of the baths, the warm-up judgement, the pump's reading and the presence samples of a line second
leave unchanged (8.2, 8.3, 8.7, 9.3, 4.4). -/

namespace Sys2Proof.Machine

/-! ### The Bath Monitor's work (R127 to R134) -/

/-- Nothing has changed but the baths, whose presence samples and exhaustion indices stay, the valves, and the event queue,
which has only grown. -/
inductive State.Watches (s : State) : State → Prop
  | mk (baths : List Bath) (valves : List Bool) (events : List Event) (lost : Nat)
      (hb : ∀ n, (atStation baths {} n).presence = (s.bath n).presence ∧ (atStation baths {} n).exhaustion = (s.bath n).exhaustion)
      (hlen : baths.length = s.baths.length)
      (hev : s.events <+: events) : Watches s { s with
        baths := baths, manifold := { s.manifold with valves := valves }, events := events, lost := lost }

section
variable {s t u : State} {n : Nat}

theorem State.Watches.presence (h : s.Watches t) (n : Nat) : (t.bath n).presence = (s.bath n).presence := by
  cases h with | mk _ _ _ _ hb => exact (hb n).1

theorem State.Watches.exhaustion (h : s.Watches t) (n : Nat) : (t.bath n).exhaustion = (s.bath n).exhaustion := by
  cases h with | mk _ _ _ _ hb => exact (hb n).2

theorem State.Watches.posts (h : s.Watches t) : s.events <+: t.events := by cases h; assumption
theorem State.Watches.cfg (h : s.Watches t) : t.cfg = s.cfg := by cases h; rfl
theorem State.Watches.clock (h : s.Watches t) : t.clock = s.clock := by cases h; rfl
theorem State.Watches.pins (h : s.Watches t) : t.pins = s.pins := by cases h; rfl
theorem State.Watches.line (h : s.Watches t) : t.line = s.line := by cases h; rfl
theorem State.Watches.driver (h : s.Watches t) : t.driver = s.driver := by cases h; rfl
theorem State.Watches.slots (h : s.Watches t) : t.slots = s.slots := by cases h; rfl
theorem State.Watches.pump (h : s.Watches t) : t.pump = s.pump := by cases h; rfl
theorem State.Watches.completions (h : s.Watches t) : t.completions = s.completions := by cases h; rfl
theorem State.Watches.evacOrder (h : s.Watches t) : t.evacOrder = s.evacOrder := by cases h; rfl
theorem State.Watches.length (h : s.Watches t) : t.baths.length = s.baths.length := by cases h; assumption

theorem State.Watches.refl (s : State) : s.Watches s :=
  .mk s.baths s.manifold.valves s.events s.lost (fun _ => ⟨rfl, rfl⟩) rfl List.prefix_rfl

theorem State.Watches.trans (h : s.Watches t) (h' : t.Watches u) : s.Watches u := by
  obtain ⟨baths, valves, events, lost, hb, hlen, hev⟩ := h
  obtain ⟨baths', valves', events', lost', hb', hlen', hev'⟩ := h'
  exact .mk baths' valves' events' lost' (fun n => ⟨(hb' n).1.trans (hb n).1, (hb' n).2.trans (hb n).2⟩) (hlen'.trans hlen)
    (hev.trans hev')

theorem State.bath_setBath_cases (s : State) (n : Nat) (b : Bath) (m : Nat) :
    (s.setBath n b).bath m = s.bath m ∨ (m = n ∧ (s.setBath n b).bath m = b) := by
  by_cases hm : m = n
  · subst hm
    by_cases hr : 1 ≤ m ∧ m ≤ s.baths.length
    · exact .inr ⟨rfl, State.bath_setBath_same s b hr.1 hr.2⟩
    · left
      cases m with
      | zero => rfl
      | succ k =>
        show (s.baths.set k b).getD k {} = s.baths.getD k {}
        rw [List.set_eq_of_length_le (by omega)]
  · exact .inl (State.bath_setBath_other s b hm)

theorem State.watches_setBath {b : Bath} (hp : b.presence = (s.bath n).presence) (he : b.exhaustion = (s.bath n).exhaustion) :
    s.Watches (s.setBath n b) := by
  refine .mk _ s.manifold.valves s.events s.lost (fun m => ?_) (by simp) List.prefix_rfl
  show ((s.setBath n b).bath m).presence = _ ∧ ((s.setBath n b).bath m).exhaustion = _
  rcases s.bath_setBath_cases n b m with h | ⟨rfl, h⟩
  · rw [h]; exact ⟨rfl, rfl⟩
  · rw [h]; exact ⟨hp, he⟩

theorem State.watches_post (s : State) (k : EventKind) (a b c d : Nat) : s.Watches (s.post k a b c d) := by
  rw [State.post_eq]
  exact .mk s.baths s.manifold.valves _ _ (fun _ => ⟨rfl, rfl⟩) rfl (s.events_prefix_post k a b c d)

theorem State.watches_setValve (s : State) (n : Nat) (b : Bool) : s.Watches (s.setValve n b) :=
  .mk s.baths _ s.events s.lost (fun _ => ⟨rfl, rfl⟩) rfl List.prefix_rfl

theorem State.watches_judgeFlag (s : State) (n : Nat) (f : Flag) (p : Bool) : s.Watches (s.judgeFlag n f p) := by
  unfold State.judgeFlag State.assertFlag
  split
  · split
    · exact .refl s
    · simp only
      split
      · exact State.watches_setBath rfl rfl
      · refine .trans ?_ (State.watches_post _ _ _ _ _ _)
        exact State.watches_setBath rfl rfl
  · exact State.watches_setBath rfl rfl

theorem State.watches_sampleTemp (s : State) (n : Nat) : s.Watches (s.sampleTemp n) := by
  unfold State.sampleTemp
  simp only
  split
  · split
    · refine .trans ?_ (State.watches_judgeFlag _ n .probeFault false)
      exact State.watches_setBath rfl rfl
    · exact State.watches_setBath rfl rfl
  · refine .trans (State.watches_setBath (s := s) (n := n) (b := { s.bath n with
      raw := (s.pin n).temp, rawValid := decide ((s.pin n).temp ≤ 600), invalid := min ((s.bath n).invalid + 1) 30 }) rfl rfl) ?_
    split
    · exact State.watches_judgeFlag _ n .probeFault true
    · exact .refl _

theorem State.watches_judgeTemps (s : State) (n : Nat) : s.Watches (s.judgeTemps n) :=
  (s.watches_judgeFlag n _ _).trans (State.watches_judgeFlag _ n _ _)

theorem State.watches_judgeLevels (s : State) (n : Nat) : s.Watches (s.judgeLevels n) := by
  refine .trans (State.watches_setBath (s := s) (n := n) (b := { s.bath n with
    levelLow := (s.pin n).levelLow, levelHigh := (s.pin n).levelHigh }) rfl rfl) ?_
  refine .trans (State.watches_judgeFlag _ n .levelLow (s.pin n).levelLow) ?_
  refine .trans (State.watches_judgeFlag _ n .levelHigh (s.pin n).levelHigh) ?_
  unfold State.judgeLevels
  simp only
  split
  · exact State.watches_setValve _ _ _
  · exact .refl _

theorem State.watches_watchStation (s : State) (n : Nat) : s.Watches (s.watchStation n) :=
  ((s.watches_sampleTemp n).trans (State.watches_judgeTemps _ n)).trans
    ((State.watches_judgeLevels _ n).trans (State.watches_judgeFlag _ _ _ _))

theorem State.watches_foldl {f : State → Nat → State} (hf : ∀ (u : State) (n : Nat), u.Watches (f u n)) (l : List Nat)
    (s : State) : s.Watches (l.foldl f s) := by
  induction l generalizing s with
  | nil => exact .refl s
  | cons n l ih => exact (hf s n).trans (ih _)

theorem State.watches_watchBaths (s : State) : s.Watches s.watchBaths :=
  (State.watches_foldl State.watches_watchStation _ s).trans
    (State.watches_foldl (fun u n => u.watches_judgeFlag n _ _) _ _)

end

/-! ### The pump's reading (R125, R140) -/

section
variable {s t u : State}

theorem State.readFlow_eq (s : State) : s.readFlow = { s with
    pump := s.pump.map fun p => { p with flowSeen := p.flowSeen || s.pins.flowOk } } := by
  unfold State.readFlow
  cases h : s.pump with
  | none => exact (congrArg (fun p : Option PumpRun => { s with pump := p }) h.symm).symm
  | some p => rfl

theorem State.readGas_eq (s : State) : s.readGas = { s with
    line := { s.line with gasLow := s.readGas.line.gasLow }
    manifold := { s.manifold with valves := s.readGas.manifold.valves }
    events := s.readGas.events, lost := s.readGas.lost } := by
  cases hgas : s.pins.gasOk with
  | true => rw [State.readGas_of_ok hgas]
  | false =>
    cases hlow : s.line.gasLow with
    | true => rw [State.readGas_of_still_low hgas hlow]; rfl
    | false => rw [State.readGas_of_low hgas hlow]; rfl

theorem State.readGas_posts (s : State) : s.events <+: s.readGas.events :=
  (State.acts_readGas (sc := {}) s).posts rfl

/-- The readings of flow and gas change the flow seen, GAS_LOW, the valves and the event queue. -/
theorem State.readPumpAndGas_eq (s : State) : s.readPumpAndGas = { s with
    pump := s.pump.map fun p => { p with flowSeen := p.flowSeen || s.pins.flowOk }
    line := { s.line with gasLow := s.readPumpAndGas.line.gasLow }
    manifold := { s.manifold with valves := s.readPumpAndGas.manifold.valves }
    events := s.readPumpAndGas.events, lost := s.readPumpAndGas.lost } := by
  have hflow := s.readFlow_eq
  unfold State.readPumpAndGas
  split
  · rw [hflow]
  · have hgas := s.readFlow.readGas_eq
    generalize s.readFlow.readGas = w at hgas ⊢
    rw [hgas, hflow]

theorem State.readPumpAndGas_posts (s : State) : s.events <+: s.readPumpAndGas.events :=
  (State.acts_readPumpAndGas (sc := {}) s).posts rfl

/-! ### The warm-up judgement (R147, R148) -/

theorem State.judgeWarmup_of_other (h : s.line.state ≠ .warmup) : s.judgeWarmup = s := if_neg h

theorem State.judgeWarmup_of_left (h : s.line.state = .warmup) (hleft : s.updateSettle.unsettled ≠ []) :
    s.judgeWarmup = s.updateSettle := by
  rw [State.judgeWarmup, if_pos h]
  exact if_neg (by simpa using hleft)

theorem State.judgeWarmup_of_settled (h : s.line.state = .warmup) (hnone : s.updateSettle.unsettled = []) :
    s.judgeWarmup = s.updateSettle.enterLine .ready .settled := by
  rw [State.judgeWarmup, if_pos h]
  exact if_pos (by simp [hnone])

/-- The warm-up judgement changes the settle counts, the line's state, the manifold's run and the event queue. -/
theorem State.judgeWarmup_eq (s : State) : s.judgeWarmup = { s with
    line := { s.line with state := s.judgeWarmup.line.state, warmStart := s.judgeWarmup.line.warmStart,
                          settle := s.judgeWarmup.line.settle }
    manifold := s.judgeWarmup.manifold, events := s.judgeWarmup.events, lost := s.judgeWarmup.lost } := by
  by_cases h : s.line.state = .warmup
  · by_cases hnone : s.updateSettle.unsettled = []
    · rw [State.judgeWarmup_of_settled h hnone, State.enterLine_of_runs rfl]
      rfl
    · rw [State.judgeWarmup_of_left h hnone]
      rfl
  · rw [State.judgeWarmup_of_other h]

theorem State.judgeWarmup_posts (s : State) : s.events <+: s.judgeWarmup.events :=
  (State.acts_judgeWarmup (sc := {}) s).posts rfl

end

end Sys2Proof.Machine
end

section
/-! PROOFS. The end of a rack by a fall of presence: what it leaves unchanged (4.4, 4.5, 4.8, 9.4, 9.5). -/

namespace Sys2Proof.Machine

/-- Nothing has changed but what the end of a rack touches: the racks with the completion queue, the plans, the line with the
live map, the manifold, the pump with its queue, the Driver's entry and its indication. A line that neither drains nor is
FAULTED stays as it is, a pump run can only stop, and the queues of events and of completions have only grown. -/
inductive State.Departs (s : State) : State → Prop
  | mk (live : List Burst) (line : Line) (driver : Driver) (manifold : Manifold) (deliveries : List Delivery)
      (pump : Option PumpRun) (events : List Event) (lost : Nat) (order : List Nat) (slots : List (Option Rack))
      (completions : List Completion) (schedule : List Entry) (timelines : List (List Interval)) (deferred : List Deferred)
      (plans : List DunkPlan) (hev : s.events <+: events) (hc : s.completions <+: completions)
      (hpump : pump = none ∨ pump = s.pump)
      (hline : s.line.state ≠ .draining → s.line.state ≠ .faulted → line = s.line ∧ live = s.cfg.live) :
      Departs s { s with
        cfg := { s.cfg with live := live }, line := line, driver := driver, manifold := manifold, deliveries := deliveries,
        pump := pump, events := events, lost := lost, evacOrder := order, slots := slots, completions := completions,
        schedule := schedule, timelines := timelines, deferred := deferred, plans := plans }

section
variable {s t u : State} {k n : Nat} {r : Rack}

theorem State.Departs.refl (s : State) : s.Departs s :=
  .mk s.cfg.live s.line s.driver s.manifold s.deliveries s.pump s.events s.lost s.evacOrder s.slots s.completions s.schedule
    s.timelines s.deferred s.plans List.prefix_rfl List.prefix_rfl (.inr rfl) fun _ _ => ⟨rfl, rfl⟩

theorem State.Departs.clock (h : s.Departs t) : t.clock = s.clock := by cases h; rfl
theorem State.Departs.pins (h : s.Departs t) : t.pins = s.pins := by cases h; rfl
theorem State.Departs.baths (h : s.Departs t) : t.baths = s.baths := by cases h; rfl
theorem State.Departs.stations (h : s.Departs t) : t.cfg.stations = s.cfg.stations := by cases h; rfl
theorem State.Departs.posts (h : s.Departs t) : s.events <+: t.events := by cases h; assumption
theorem State.Departs.completions (h : s.Departs t) : s.completions <+: t.completions := by cases h; assumption
theorem State.Departs.pump (h : s.Departs t) : t.pump = none ∨ t.pump = s.pump := by cases h; assumption

theorem State.Departs.line (h : s.Departs t) (hd : s.line.state ≠ .draining) (hf : s.line.state ≠ .faulted) :
    t.line = s.line ∧ t.cfg = s.cfg := by
  cases h with
  | mk _ _ _ _ _ _ _ _ _ _ _ _ _ _ _ _ _ _ hline =>
    obtain ⟨rfl, rfl⟩ := hline hd hf
    exact ⟨rfl, rfl⟩

theorem State.Departs.trans (h : s.Departs t) (h' : t.Departs u) : s.Departs u := by
  obtain ⟨live, line, driver, manifold, deliveries, pump, events, lost, order, slots, completions, schedule, timelines, deferred,
    plans, hev, hc, hpump, hline⟩ := h
  obtain ⟨live', line', driver', manifold', deliveries', pump', events', lost', order', slots', completions', schedule', timelines',
    deferred', plans', hev', hc', hpump', hline'⟩ := h'
  refine .mk live' line' driver' manifold' deliveries' pump' events' lost' order' slots' completions' schedule' timelines' deferred'
    plans' (hev.trans hev') (hc.trans hc') ?_ fun hd hf => ?_
  · rcases hpump' with h | h
    · exact .inl h
    · rw [h]; exact hpump
  · obtain ⟨rfl, rfl⟩ := hline hd hf
    exact hline' hd hf

theorem State.departs_post (s : State) (e : EventKind) (a b c d : Nat) : s.Departs (s.post e a b c d) := by
  rw [State.post_eq]
  exact .mk s.cfg.live s.line s.driver s.manifold s.deliveries s.pump _ _ s.evacOrder s.slots s.completions s.schedule
    s.timelines s.deferred s.plans (s.events_prefix_post e a b c d) List.prefix_rfl (.inr rfl) fun _ _ => ⟨rfl, rfl⟩

theorem State.departs_leaveEvacuation (s : State) (k : Nat) : s.Departs (s.leaveEvacuation k) := by
  have hposts := (s.settled_leaveEvacuation k).posts
  have hframe := s.leaveEvacuation_frame k
  generalize s.leaveEvacuation k = t at hposts hframe
  rw [hframe]
  exact .mk s.cfg.live s.line s.driver s.manifold s.deliveries s.pump t.events t.lost t.evacOrder s.slots s.completions s.schedule
    s.timelines s.deferred s.plans hposts List.prefix_rfl (.inr rfl) fun _ _ => ⟨rfl, rfl⟩

/-- A passage out of DRAINING or FAULTED. -/
theorem State.departs_enterLine (h : s.line.state = .draining ∨ s.line.state = .faulted) (st : LineState) (cause : LineCause) :
    s.Departs (s.enterLine st cause) := by
  have hposts := (s.settled_enterLine st cause).posts
  have hframe := s.enterLine_frame st cause
  generalize s.enterLine st cause = t at hposts hframe
  rw [hframe]
  refine .mk t.cfg.live (s.entered st).line (s.entered st).driver t.manifold _ _ t.events t.lost s.evacOrder s.slots
    s.completions s.schedule s.timelines s.deferred s.plans hposts List.prefix_rfl ?_ fun hd hf => (h.elim hd hf).elim
  split
  · exact .inl rfl
  · exact .inr rfl

theorem State.departs_setDrainTarget (h : s.line.state = .draining) (target : Option LineState) :
    s.Departs (s.setDrainTarget target) :=
  .mk s.cfg.live { s.line with drainTarget := target } s.driver s.manifold s.deliveries s.pump s.events s.lost s.evacOrder s.slots
    s.completions s.schedule s.timelines s.deferred s.plans List.prefix_rfl List.prefix_rfl (.inr rfl) fun hd _ => (hd h).elim

theorem State.departs_judgeRecovery (s : State) : s.Departs s.judgeRecovery := by
  unfold State.judgeRecovery
  split
  · next h =>
    simp only [State.recoverable, Bool.and_eq_true, beq_iff_eq] at h
    exact State.departs_enterLine (.inr h.1.1) _ _
  · exact .refl s

theorem State.departs_judgeDrain (s : State) : s.Departs s.judgeDrain := by
  unfold State.judgeDrain
  split
  · next h =>
    exact (State.departs_setDrainTarget h.1 none).trans
      (State.departs_enterLine (s := s.setDrainTarget none) (.inl h.1) _ _)
  · exact .refl s

theorem State.departs_settleLine (s : State) (k : Nat) : s.Departs (s.settleLine k) :=
  (s.departs_leaveEvacuation k).trans ((State.departs_judgeRecovery _).trans (State.departs_judgeDrain _))

theorem State.departs_rackEnds (s : State) (k n : Nat) (r : Rack) (outcome : RackOutcome) :
    s.Departs (s.rackEnds k n r outcome) := by
  have hc := s.rackEnds_completions (k := k) (n := n) (r := r) (outcome := outcome)
  have hframe := s.rackEnds_eq k n r outcome
  generalize s.rackEnds k n r outcome = t at hc hframe
  rw [hframe, State.forgetRack_eq]
  exact .mk s.cfg.live s.line (s.removeBooked k).driver _ s.deliveries s.pump _ _ s.evacOrder t.slots t.completions _ _ _ _
    (s.events_prefix_post _ _ _ _ _) hc (.inr rfl) fun _ _ => ⟨rfl, rfl⟩

theorem State.departs_orphanEnds (s : State) (k n : Nat) (r : Rack) : s.Departs (s.orphanEnds k n r) := by
  rw [State.orphanEnds_eq, State.forgetRack_eq]
  exact .mk s.cfg.live s.line (s.removeBooked k).driver _ s.deliveries s.pump _ _ s.evacOrder _ s.completions _ _ _ _
    (s.events_prefix_post _ _ _ _ _) List.prefix_rfl (.inr rfl) fun _ _ => ⟨rfl, rfl⟩

theorem State.departs_endRack (s : State) (k n : Nat) (outcome : RackOutcome) : s.Departs (s.endRack k n outcome) := by
  cases h : s.rack k with
  | none => rw [State.endRack, h]; exact .refl s
  | some r => rw [State.endRack_eq h]; exact (s.departs_rackEnds k n r outcome).trans (State.departs_settleLine _ k)

theorem State.departs_endOrphan (s : State) (k n : Nat) : s.Departs (s.endOrphan k n) := by
  cases h : s.rack k with
  | none => rw [State.endOrphan, h]; exact .refl s
  | some r => rw [State.endOrphan_eq h]; exact (s.departs_orphanEnds k n r).trans (State.departs_settleLine _ k)

theorem State.departs_presenceFall (s : State) (n : Nat) : s.Departs (s.presenceFall n) := by
  unfold State.presenceFall
  split
  · exact .refl s
  · split
    · split
      · exact s.departs_endRack _ _ _
      · exact s.departs_endRack _ _ _
      · exact s.departs_endRack _ _ _
      · exact s.departs_endOrphan _ _
      · exact .refl s
      · exact .refl s
    · exact .refl s

/-! ### Presence samples (R2) -/

/-- The part with the presence of a station sampled. -/
def State.sampled (s : State) (n : Nat) : State := s.setBath n { s.bath n with presence := (s.pin n).presence }

theorem State.samplePresence_eq (s : State) (n : Nat) : s.samplePresence n =
    if ((s.bath n).presence && !(s.pin n).presence) = true then (s.sampled n).presenceFall n else s.sampled n := rfl

theorem State.samplePresence_of_fall (hw : (s.bath n).presence = true) (hp : (s.pin n).presence = false) :
    s.samplePresence n = (s.sampled n).presenceFall n := by
  rw [State.samplePresence_eq, hw, hp]
  exact if_pos rfl

theorem State.samplePresence_of_stay (h : (s.bath n).presence = false ∨ (s.pin n).presence = true) :
    s.samplePresence n = s.sampled n := by
  have hno : ((s.bath n).presence && !(s.pin n).presence) = false := by
    rcases h with h | h
    · rw [h, Bool.false_and]
    · rw [h, Bool.not_true, Bool.and_false]
  rw [State.samplePresence_eq, hno]
  exact if_neg Bool.false_ne_true

theorem State.samplePresence_departs (s : State) (n : Nat) : (s.sampled n).Departs (s.samplePresence n) := by
  by_cases h : (s.bath n).presence = false ∨ (s.pin n).presence = true
  · rw [State.samplePresence_of_stay h]; exact .refl _
  · simp only [not_or, Bool.not_eq_false, Bool.not_eq_true] at h
    rw [State.samplePresence_of_fall h.1 h.2]
    exact State.departs_presenceFall _ n

/-- The sample of a station is all that a presence sample changes of the baths. -/
theorem State.bath_samplePresence (s : State) (n m : Nat) : (s.samplePresence n).bath m = s.bath m ∨
    (m = n ∧ (s.samplePresence n).bath m = { s.bath m with presence := (s.pin m).presence }) := by
  have hbath : (s.samplePresence n).bath m = (s.sampled n).bath m := by
    rw [State.bath, (s.samplePresence_departs n).baths, State.bath]
  rw [hbath]
  rcases s.bath_setBath_cases n { s.bath n with presence := (s.pin n).presence } m with h | ⟨rfl, h⟩
  · exact .inl h
  · exact .inr ⟨rfl, h⟩

end

end Sys2Proof.Machine
end

section
/-! PROOFS. The line second piece by piece (1.4), and warm-up (9.3). -/

namespace Sys2Proof.Machine

/-! ### The pieces of a line second -/

/-- Every piece of work a line second holds is done once, after those before it and before those after it. -/
theorem taskOrder_split {order : List SecondTask} {task : SecondTask} (h : task ∈ taskOrder order) :
    ∃ pre post, taskOrder order = pre ++ task :: post ∧ task ∉ pre ∧ task ∉ post := by
  obtain ⟨pre, post, heq⟩ := List.append_of_mem h
  refine ⟨pre, post, heq, ?_⟩
  have hnodup := firstPlaces_nodup (order ++ mandatoryTasks)
  have hdisjoint : (pre ++ task :: post).Nodup := heq ▸ hnodup
  rw [List.nodup_append, List.nodup_cons] at hdisjoint
  obtain ⟨-, ⟨hpost, -⟩, hne⟩ := hdisjoint
  exact ⟨fun hpre => hne _ hpre _ List.mem_cons_self rfl, hpost⟩

/-- A line second is the work in its order on the part with the clock advanced. -/
theorem exec_second {order : List SecondTask} {inp : Inputs} {s : State} (hrun : s.run = .running) :
    exec (.lineSecond order inp) s = .next ((taskOrder order).foldl State.doTurn (s.latch inp).tock).drive :=
  exec_of_effect (f := fun t => t.lineSecond order) hrun rfl rfl

/-- What every piece in a list keeps of a state the list keeps. -/
theorem doTurns_keep {P : State → Prop} {tasks : List SecondTask}
    (h : ∀ task ∈ tasks, ∀ u, P u → P (u.doTurn task)) {s : State} (hs : P s) : P (tasks.foldl State.doTurn s) := by
  induction tasks generalizing s with
  | nil => exact hs
  | cons a l ih =>
    exact ih (fun task ht => h task (List.mem_cons_of_mem a ht)) (h a List.mem_cons_self s hs)

section
variable {s t u : State}

/-! ### The temperatures (R34) -/

/-- The temperatures the stations have to give. -/
def State.temps (s : State) : Nat → Option Nat := s.healthyTemp

theorem State.temps_of_baths (h : t.baths = s.baths) : t.temps = s.temps := by
  funext n
  unfold State.temps State.healthyTemp State.cond State.bath
  rw [h]

theorem State.temps_samplePresence (s : State) (n : Nat) : (s.samplePresence n).temps = s.temps := by
  funext m
  unfold State.temps State.healthyTemp State.cond
  rcases s.bath_samplePresence n m with h | ⟨-, h⟩
  · rw [h]
  · rw [h]

theorem State.temps_samplePresences (s : State) : s.samplePresences.temps = s.temps := by
  have hfold (l : List Nat) : ∀ u : State, (l.foldl State.samplePresence u).temps = u.temps := by
    induction l with
    | nil => exact fun _ => rfl
    | cons n l ih => exact fun u => (ih _).trans (u.temps_samplePresence n)
  exact hfold allStations s

/-- Outside the Bath Monitor's work and a lift the temperatures stay. -/
theorem State.temps_doTask {task : SecondTask} (hb : task ≠ .bath) (hc : task ≠ .carriage) :
    (s.doTask task).temps = s.temps := by
  cases task with
  | presence => exact s.temps_samplePresences
  | bath => exact (hb rfl).elim
  | develop => exact State.temps_of_baths s.works_developAll.baths
  | retry =>
    exact (State.temps_of_baths s.developAll.works_retryAll.baths).trans (State.temps_of_baths s.works_developAll.baths)
  | warmup =>
    exact State.temps_of_baths ((congrArg State.baths s.judgeWarmup_eq).trans rfl)
  | pump => exact State.temps_of_baths ((congrArg State.baths s.readPumpAndGas_eq).trans rfl)
  | expiry => exact State.temps_of_baths s.works_examineAll.baths
  | carriage => exact (hc rfl).elim

theorem State.temps_doTurn {task : SecondTask} (hb : task ≠ .bath) (hc : task ≠ .carriage) :
    (s.doTurn task).temps = s.temps :=
  (State.temps_of_baths (State.works_turn _).baths).trans (State.temps_doTask hb hc)

/-! ### What stays of a line that neither drains nor is FAULTED -/

/-- The settings and the line's state, warm-up start and settle counts are the same, and the event queue has only grown. -/
structure State.Steady (s t : State) : Prop where
  cfg : t.cfg = s.cfg
  clock : t.clock = s.clock
  state : t.line.state = s.line.state
  warmStart : t.line.warmStart = s.line.warmStart
  settle : t.line.settle = s.line.settle
  posts : s.events <+: t.events

theorem State.Steady.refl (s : State) : s.Steady s := ⟨rfl, rfl, rfl, rfl, rfl, List.prefix_rfl⟩

theorem State.Steady.trans (h : s.Steady t) (h' : t.Steady u) : s.Steady u :=
  ⟨h'.cfg.trans h.cfg, h'.clock.trans h.clock, h'.state.trans h.state, h'.warmStart.trans h.warmStart,
    h'.settle.trans h.settle, h.posts.trans h'.posts⟩

theorem State.Steady.of_line (hcfg : t.cfg = s.cfg) (hclock : t.clock = s.clock) (hline : t.line = s.line)
    (hposts : s.events <+: t.events) : s.Steady t :=
  ⟨hcfg, hclock, congrArg _ hline, congrArg _ hline, congrArg _ hline, hposts⟩

theorem State.Works.steady {R : Nat → Rack → Rack → Prop} (h : s.Works R t) : s.Steady t :=
  .of_line h.cfg h.clock h.line h.posts

theorem State.steady_samplePresence (hd : s.line.state ≠ .draining) (hf : s.line.state ≠ .faulted) (n : Nat) :
    s.Steady (s.samplePresence n) := by
  have h := s.samplePresence_departs n
  have hline := h.line (s := s.sampled n) hd hf
  exact .of_line hline.2 h.clock hline.1 h.posts

theorem State.steady_samplePresences (hd : s.line.state ≠ .draining) (hf : s.line.state ≠ .faulted) :
    s.Steady s.samplePresences := by
  have hfold (l : List Nat) : ∀ u : State, s.Steady u → s.Steady (l.foldl State.samplePresence u) := by
    induction l with
    | nil => exact fun _ hu => hu
    | cons n l ih =>
      exact fun u hu => ih _ (hu.trans (State.steady_samplePresence (by rw [hu.state]; exact hd) (by rw [hu.state]; exact hf) n))
  exact hfold allStations s (.refl s)

theorem State.steady_doTask {task : SecondTask} (hd : s.line.state ≠ .draining) (hf : s.line.state ≠ .faulted)
    (hw : task ≠ .warmup) (hc : task ≠ .carriage) : s.Steady (s.doTask task) := by
  cases task with
  | presence => exact State.steady_samplePresences hd hf
  | bath =>
    have h := s.watches_watchBaths
    exact .of_line h.cfg h.clock h.line h.posts
  | develop => exact s.works_developAll.steady
  | retry => exact s.works_developAll.steady.trans s.developAll.works_retryAll.steady
  | warmup => exact (hw rfl).elim
  | pump =>
    have hframe := s.readPumpAndGas_eq
    have hposts := s.readPumpAndGas_posts
    show s.Steady s.readPumpAndGas
    generalize s.readPumpAndGas = t at hframe hposts
    rw [hframe]
    exact ⟨rfl, rfl, rfl, rfl, rfl, hposts⟩
  | expiry => exact s.works_examineAll.steady
  | carriage => exact (hc rfl).elim

/-- The pieces but the warm-up judgement and the carriage's step keep the settings and the warm-up of such a line. -/
theorem State.steady_doTurns {tasks : List SecondTask} (hd : s.line.state ≠ .draining) (hf : s.line.state ≠ .faulted)
    (hw : .warmup ∉ tasks) (hc : .carriage ∉ tasks) : s.Steady (tasks.foldl State.doTurn s) :=
  doTurns_keep (P := s.Steady) (fun task ht u hu =>
    (hu.trans (State.steady_doTask (by rw [hu.state]; exact hd) (by rw [hu.state]; exact hf) (fun h => hw (h ▸ ht))
      (fun h => hc (h ▸ ht)))).trans (State.works_turn _).steady) (.refl s)

theorem State.temps_doTurns {tasks : List SecondTask} (hb : .bath ∉ tasks) (hc : .carriage ∉ tasks) :
    (tasks.foldl State.doTurn s).temps = s.temps :=
  doTurns_keep (P := fun u => u.temps = s.temps) (fun _ ht _ hu =>
    (State.temps_doTurn (fun h => hb (h ▸ ht)) (fun h => hc (h ▸ ht))).trans hu) rfl

/-! ### The warm-up judgement (R147, R148) -/

theorem State.inWindow_of_temps (ht : t.temps = s.temps) (hc : t.cfg = s.cfg) (n : Nat) : t.inWindow n = s.inWindow n := by
  have hn : t.healthyTemp n = s.healthyTemp n := congrFun ht n
  unfold State.inWindow State.stationCfg
  rw [hn, hc]

theorem State.isBath_of_cfg (hc : t.cfg = s.cfg) (n : Nat) : t.isBath n = s.isBath n := by
  unfold State.isBath State.role State.configured State.stationCfg
  rw [hc]

theorem State.settleOf_updateSettle {n : Nat} (h1 : 1 ≤ n) (h16 : n ≤ 16) (hb : s.isBath n = true) :
    s.updateSettle.settleOf n = if s.inWindow n = true then min (s.settleOf n + 1) s.cfg.line.settle else 0 :=
  (atStation_map_allStations s.settleNext 0 h1 h16).trans (if_pos hb)

theorem State.unsettled_eq (s : State) : s.unsettled = allStations.filter fun n =>
    s.isBath n && !s.hostClosed n && decide (s.settleOf n < s.cfg.line.settle) := by
  unfold State.unsettled State.considered State.bathStations State.stations
  simp only [List.filter_filter]
  refine List.filter_congr fun n _ => ?_
  cases hb : s.isBath n with
  | false => simp
  | true =>
    rw [State.configured_of_role (State.role_ne_unused_of_isBath hb)]
    simp only [Bool.and_true, Bool.true_and]
    exact Bool.and_comm _ _

theorem State.unsettled_eq_nil_iff : s.unsettled = [] ↔
    ∀ n, 1 ≤ n → n ≤ 16 → s.isBath n = true → s.hostClosed n = false → s.cfg.line.settle ≤ s.settleOf n := by
  rw [State.unsettled_eq, List.filter_eq_nil_iff]
  constructor
  · intro h n h1 h16 hb hc
    have := h n (mem_allStations.mpr ⟨h1, h16⟩)
    simpa [hb, hc] using this
  · intro h n hn
    obtain ⟨h1, h16⟩ := mem_allStations.mp hn
    simp only [Bool.and_eq_true, Bool.not_eq_true', decide_eq_true_eq, not_and, not_lt]
    exact fun ⟨hb, hc⟩ => h n h1 h16 hb hc

/-- The judgement of a second in WARMUP: READY where every considered station has settled, else WARMUP as it was. -/
theorem State.judgeWarmup_spec (h : s.line.state = .warmup) :
    s.judgeWarmup.cfg = s.cfg ∧ s.judgeWarmup.line.settle = s.updateSettle.line.settle ∧
    (s.judgeWarmup.line.state = .ready ∨ s.judgeWarmup.line.state = .warmup) ∧
    if s.updateSettle.unsettled = [] then
      s.judgeWarmup.line.state = .ready ∧ s.judgeWarmup.line.warmStart = none ∧
        s.posted s.judgeWarmup .lineState 0 255 0 (3 * 256 + 1)
    else s.judgeWarmup.line.state = .warmup ∧ s.judgeWarmup.line.warmStart = s.line.warmStart := by
  by_cases hnone : s.updateSettle.unsettled = []
  · rw [if_pos hnone, State.judgeWarmup_of_settled h hnone]
    have hframe := State.enterLine_of_runs (s := s.updateSettle) (st := .ready) rfl .settled
    have hposted := (State.enterLine_posted (s := s.updateSettle) .ready .settled).of_clock (s := s) rfl
    generalize s.updateSettle.enterLine .ready .settled = t at hframe hposted ⊢
    rw [hframe] at hposted ⊢
    exact ⟨rfl, rfl, .inl rfl, rfl, rfl, hposted⟩
  · rw [if_neg hnone, State.judgeWarmup_of_left h hnone]
    exact ⟨rfl, rfl, .inr h, h, rfl⟩

end

end Sys2Proof.Machine
end

section
/-! PROOFS. Warm-up ends by settling or at its timeout (9.3). -/

namespace Sys2Proof.Machine

section
variable {s : State} {inp : Inputs}

/-- A line second of WARMUP: the settle counts of the stations that hold a bath, and what they bring about. -/
theorem State.warmupSecond {order : List SecondTask} (hw : s.line.state = .warmup) (hc : .carriage ∉ order) :
    ∃ u w t : State, t = (taskOrder order).foldl State.doTurn s ∧ s.Steady u ∧ w = u.judgeWarmup ∧ w.Steady t ∧
      (u.temps = s.temps ∨ u.temps = t.temps) := by
  obtain ⟨pre, post, heq, hpre, hpost⟩ := taskOrder_split (mem_taskOrder_of_mandatory (x := .warmup) (by decide) order)
  have hcarriage : .carriage ∉ pre ++ .warmup :: post := by rw [← heq, carriage_mem_taskOrder]; exact hc
  rw [List.mem_append, List.mem_cons, not_or, not_or] at hcarriage
  obtain ⟨hcpre, -, hcpost⟩ := hcarriage
  have hu : s.Steady (pre.foldl State.doTurn s) :=
    State.steady_doTurns (by rw [hw]; decide) (by rw [hw]; decide) hpre hcpre
  refine ⟨pre.foldl State.doTurn s, (pre.foldl State.doTurn s).judgeWarmup, _, rfl, hu, rfl, ?_, ?_⟩
  · rw [heq, List.foldl_append, List.foldl_cons]
    have hstate := (State.judgeWarmup_spec (hu.state.trans hw)).2.2.1
    generalize hv : (pre.foldl State.doTurn s).judgeWarmup = v at hstate
    have hturn : (pre.foldl State.doTurn s).doTurn .warmup = v.turn := congrArg State.turn hv
    have hsteady : v.Steady v.turn := v.works_turn.steady
    rw [hturn]
    refine hsteady.trans (State.steady_doTurns ?_ ?_ hpost hcpost)
    · rw [hsteady.state]; rcases hstate with h | h <;> simp [h]
    · rw [hsteady.state]; rcases hstate with h | h <;> simp [h]
  · by_cases hbath : SecondTask.bath ∈ pre
    · right
      have hbpost : SecondTask.bath ∉ post := by
        have hnodup : (pre ++ SecondTask.warmup :: post).Nodup := heq ▸ firstPlaces_nodup (order ++ mandatoryTasks)
        exact fun hb => (List.nodup_append.mp hnodup).2.2 _ hbath _ (List.mem_cons_of_mem _ hb) rfl
      rw [heq, List.foldl_append, List.foldl_cons, State.temps_doTurns hbpost hcpost,
        State.temps_doTurn (task := .warmup) (by decide) (by decide)]
    · exact .inl (State.temps_doTurns hbath hcpre)

/-- The passage into READY from WARMUP, after the events of its cause. -/
theorem State.enterReady {events : List Event} {cause : LineCause} {v z : State} (hv : v = { s.latch inp with events := events })
    (hroom : events.length < 64) (hz : z = (v.enterLine .ready cause).drive) :
    z.events = events ++ [⟨s.clock, .lineState, 0, 255, 0, 3 * 256 + cause.code⟩] ∧
    z = { s with
      pins := inp, out := z.out, events := z.events, line := { s.line with state := .ready, warmStart := none }
      manifold := { s.manifold with
        running := true, tick := if s.manifold.running = true then s.manifold.tick else 0 } } := by
  subst hv
  have hpost : State.post { s.latch inp with events := events } .lineState 0 255 0 (LineState.ready.code * 256 + cause.code) =
      { s.latch inp with events := events ++ [⟨s.clock, .lineState, 0, 255, 0, 3 * 256 + cause.code⟩] } := if_pos hroom
  have hdrive := State.drive_of_eq (State.enterLine_of_runs (s := { s.latch inp with events := events }) (st := .ready) rfl cause)
  rw [← hz, hpost] at hdrive
  have hevents : z.events = events ++ [⟨s.clock, .lineState, 0, 255, 0, 3 * 256 + cause.code⟩] := by rw [hdrive]
  refine ⟨hevents, ?_⟩
  rw [hevents]
  exact hdrive

end

/-- Settles O8. -/
theorem warmupSettlesOrTimesOut : Obligations.WarmupSettlesOrTimesOut := by
  unfold Obligations.WarmupSettlesOrTimesOut
  constructor
  · intro order inp s hrun hw hc
    refine ⟨_, exec_second hrun, ?_⟩
    obtain ⟨u, w, t, ht, hu, rfl, hkept, htemps⟩ := State.warmupSecond (s := (s.latch inp).tock) hw hc
    rw [← ht]
    obtain ⟨hcfg, hsettle, -, hend⟩ := State.judgeWarmup_spec (hu.state.trans hw)
    have hlive := t.drive_eq
    generalize t.drive = z at hlive
    have hztemps : z.temps = t.temps := State.temps_of_baths (by rw [hlive])
    have hzline : z.line = t.line := by rw [hlive]
    have hzcfg : z.cfg = s.cfg := by rw [hlive]; exact hkept.cfg.trans (hcfg.trans hu.cfg)
    have hzclock : z.clock = t.clock := by rw [hlive]
    have hzevents : z.events = t.events := by rw [hlive]
    have hsettleOf (n : Nat) : z.settleOf n = u.updateSettle.settleOf n := by
      unfold State.settleOf
      rw [hzline, hkept.settle, hsettle]
    have hcount (n : Nat) (h1 : 1 ≤ n) (h16 : n ≤ 16) (hb : s.isBath n = true) :
        z.settleOf n = if u.inWindow n = true then min (s.settleOf n + 1) s.cfg.line.settle else 0 := by
      have hold : u.settleOf n = s.settleOf n := by unfold State.settleOf; rw [hu.settle]; rfl
      rw [hsettleOf, State.settleOf_updateSettle h1 h16 ((State.isBath_of_cfg (s := s) hu.cfg n).trans hb), hold, hu.cfg]
      rfl
    have hall : u.updateSettle.unsettled = [] ↔
        ∀ n, 1 ≤ n → n ≤ 16 → s.isBath n = true → s.hostClosed n = false → s.cfg.line.settle ≤ z.settleOf n := by
      rw [State.unsettled_eq_nil_iff]
      have hcfg' : u.updateSettle.cfg = s.cfg := hu.cfg
      have hclosed (n : Nat) : u.updateSettle.hostClosed n = s.hostClosed n := by unfold State.hostClosed; rw [hcfg']
      simp only [State.isBath_of_cfg hcfg', hclosed, hcfg', hsettleOf]
    refine ⟨fun n h1 h16 hb => ?_, ?_⟩
    · rcases htemps with h | h
      · left
        rw [hcount n h1 h16 hb, State.inWindow_of_temps (s := s) h hu.cfg]
      · right
        rw [hcount n h1 h16 hb, State.inWindow_of_temps (hztemps.trans h.symm) (hzcfg.trans hu.cfg.symm)]
    · rw [hzline, hkept.state, hkept.warmStart, hzevents]
      split
      · next hsettled =>
        rw [if_pos (hall.mpr hsettled)] at hend
        obtain ⟨hstate, hstart, hposted⟩ := hend
        refine ⟨hstate, hstart, ?_⟩
        have hclock : u.clock = z.clock := by rw [hzclock, hkept.clock]; exact (congrArg State.clock u.judgeWarmup_eq).symm
        rw [← hclock]
        exact hposted.of_prefix hkept.posts
      · next hleft =>
        rw [if_neg fun h => hleft (hall.mp h)] at hend
        exact ⟨hend.1, hend.2.trans hu.warmStart⟩
  · intro start inp s hrun hw hstart hover hroom
    have hdue : addSec start (s.latch inp).cfg.line.warmTimeout ≤ (s.latch inp).clock := hover
    have hns : (s.latch inp).unsettled = allStations.filter fun n =>
        s.isBath n && !s.hostClosed n && decide (s.settleOf n < s.cfg.line.settle) := (s.latch inp).unsettled_eq
    have heff : (s.latch inp).timeoutWarmup = match (s.latch inp).unsettled with
        | [] => (s.latch inp).enterLine .ready .settled
        | n :: ns => ((s.latch inp).postLine .warmupTimeout n (ns.length + 1)).enterLine .ready .timeout := by
      unfold State.timeoutWarmup
      rw [show (s.latch inp).line.warmStart = some start from hstart]
      exact if_pos ⟨hw, hdue⟩
    refine ⟨_, exec_of_effect (f := State.timeoutWarmup) hrun rfl heff, ?_⟩
    rw [← hns]
    cases hleft : (s.latch inp).unsettled with
    | nil =>
      simp only
      obtain ⟨hevents, hframe⟩ := State.enterReady (s := s) (inp := inp) (v := s.latch inp) (cause := .settled) rfl (by omega) rfl
      generalize ((s.latch inp).enterLine .ready .settled).drive = z at hframe hevents
      refine ⟨by rw [hframe], by rw [hframe], hframe, fun ns hs => ?_⟩
      rw [hs]
      exact ⟨fun _ => hevents, nofun⟩
    | cons n ns =>
      simp only
      have hpost : (s.latch inp).postLine .warmupTimeout n (ns.length + 1) = { s.latch inp with
          events := s.events ++ [⟨s.clock, .warmupTimeout, n, 255, 0, ns.length + 1⟩] } :=
        if_pos (show s.events.length < 64 by omega)
      obtain ⟨hevents, hframe⟩ := State.enterReady (s := s) (inp := inp) (cause := .timeout) hpost
        (by rw [List.length_append, List.length_singleton]; omega) rfl
      generalize (State.enterLine _ .ready .timeout).drive = z at hframe hevents
      refine ⟨by rw [hframe], by rw [hframe], hframe, fun l hs => ?_⟩
      rw [hs]
      refine ⟨nofun, ?_⟩
      rintro m rest ⟨⟩
      rw [hevents, List.append_assoc]
      rfl

end Sys2Proof.Machine
end

section
/-! PROOFS. INTERVAL_EXPIRY and OVERSTAY (5.3, 6.7). -/

namespace Sys2Proof.Machine

section
variable {s : State} {n i k : Nat} {iv : Interval} {r : Rack} {l : Lift}

/-! ### The examination of an interval (R81) -/

theorem State.holdsInterval_iff : s.holdsInterval n iv = true ↔
    ∃ r, s.rack iv.slot = some r ∧ (r.station = n ∨ (r.phase = .onCarriage ∧
      ∃ e ∈ s.schedule, e.executing = true ∧ e.slot = iv.slot ∧ e.dst = n)) := by
  unfold State.holdsInterval
  cases h : s.rack iv.slot with
  | none => simp
  | some r => simp [and_assoc]

/-- An interval past its end, or OPEN, that its rack holds is OPEN. -/
theorem State.examine_of_held (hd : iv.stop.getD 0 ≤ s.clock) (hh : s.holdsInterval n iv = true) :
    s.examine n iv = some { iv with stop := none } := by
  unfold State.examine
  cases hstop : iv.stop with
  | none =>
    simp only [hh, if_true]
    rw [← hstop]
  | some t =>
    rw [hstop] at hd
    simp only [hh, if_true]
    exact if_pos hd

/-- An interval past its end, or OPEN, that its rack does not hold is removed. -/
theorem State.examine_of_left (hd : iv.stop.getD 0 ≤ s.clock) (hh : s.holdsInterval n iv = false) : s.examine n iv = none := by
  unfold State.examine
  cases hstop : iv.stop with
  | none => simp [hh]
  | some t =>
    rw [hstop] at hd
    simp only [hh]
    exact if_pos hd

/-- An interval not yet at its end stays. -/
theorem State.examine_of_early (hd : s.clock < iv.stop.getD 0) : s.examine n iv = some iv := by
  unfold State.examine
  cases hstop : iv.stop with
  | none => rw [hstop] at hd; exact absurd hd (Nat.not_lt_zero _)
  | some t =>
    rw [hstop] at hd
    exact if_neg (not_le.mpr hd)

/-- A timeline with the interval at a position replaced by what its examination answers, or removed. -/
def replaceOrErase (l : List Interval) (i : Nat) : Option Interval → List Interval
  | some iv => l.set i iv
  | none => l.eraseIdx i

theorem State.examineAt_eq (hiv : (s.timeline n)[i]? = some iv) :
    s.examineAt n i = s.setTimeline n (replaceOrErase (s.timeline n) i (s.examine n iv)) := by
  unfold State.examineAt
  rw [hiv]
  simp only
  cases s.examine n iv <;> rfl

/-- INTERVAL_EXPIRY changes one timeline alone. -/
theorem exec_intervalExpiry {inp : Inputs} {line : List Interval} (hrun : s.run = .running) (h1 : 1 ≤ n)
    (hn : n ≤ s.timelines.length) (hline : (s.latch inp).examineAt n i = (s.latch inp).setTimeline n line) :
    ∃ t, exec (.intervalExpiry n i inp) s = .next t ∧ t = { s with pins := inp, out := t.out, timelines := t.timelines } ∧
      (∀ m, m ≠ n → t.timeline m = s.timeline m) ∧ t.timeline n = line := by
  refine ⟨_, exec_of_effect (f := fun t => t.examineAt n i) hrun rfl hline, ?_⟩
  have ht := State.drive_eq ((s.latch inp).setTimeline n line)
  generalize State.drive _ = t at ht
  refine ⟨by rw [ht]; rfl, fun m hm => ?_, ?_⟩
  · rw [ht]
    exact atStation_setStation_other _ _ _ hm
  · rw [ht]
    exact atStation_setStation_same _ _ _ h1 hn

/-! ### The examination of a stay (R107) -/

theorem State.overdue_iff {st : Step} {j : Nat} (hst : stepAt (s.stepsOf r) l.step = some st) (hkind : st.kind = .bath)
    (him : l.immersion = some j) : s.overdue r l = true ↔ min (j + (st.immersion + st.stretch)) 4294967295 < s.clock := by
  simp [State.overdue, hst, him, hkind, addSec, Config.maxSecond]

theorem State.overdue_congr {t : State} {q : Rack} (hcfg : t.cfg = s.cfg) (hclock : t.clock = s.clock) (hrec : q.recipe = r.recipe) :
    t.overdue q l = s.overdue r l := by
  unfold State.overdue State.stepsOf State.recipe
  rw [hcfg, hclock, hrec]

/-- The record of a rack found past its stay in a step (R107). -/
def Rack.overstayed (r : Rack) (step : Nat) : Rack := { r with flags := { r.flags with overstay := true }, overMark := step }

/-- What the overstay examination of one stay leaves of the part (R107). -/
structure State.Examined (s t : State) (k : Nat) (r : Rack) (l : Lift) (due : Bool) : Prop where
  frame : t = { s with slots := t.slots, events := t.events, lost := t.lost }
  others : ∀ j, j ≠ k → t.rack j = s.rack j
  early : due = false → t.rack k = some r ∧ t.events = s.events ∧ t.lost = s.lost
  late : due = true → t.rack k = some (r.overstayed l.step) ∧
    (r.overMark = l.step → t.events = s.events ∧ t.lost = s.lost) ∧
    (r.overMark ≠ l.step → s.events.length < 64 →
      t.events = s.events ++ [⟨s.clock, .overstay, l.station, k, r.tag, l.step⟩] ∧ t.lost = s.lost) ∧
    (r.overMark ≠ l.step → 64 ≤ s.events.length → t.events = s.events ∧ t.lost = min (s.lost + 1) 255)

theorem State.examineStay_of_early (h : s.rack k = some r) (hd : s.overdue r l = false) : s.examineStay k l = s := by
  rw [State.examineStay, h]
  simp only [hd, Bool.false_eq_true, if_false]

theorem State.examined_examineStay (h : s.rack k = some r) : s.Examined (s.examineStay k l) k r l (s.overdue r l) := by
  cases hd : s.overdue r l with
  | false =>
    rw [State.examineStay_of_early h hd]
    exact ⟨rfl, fun _ _ => rfl, fun _ => ⟨h, rfl, rfl⟩, nofun⟩
  | true =>
    have hstay : s.examineStay k l = if r.overMark = l.step then s.setRack k (r.overstayed l.step)
        else (s.setRack k (r.overstayed l.step)).post .overstay l.station k r.tag l.step := by
      rw [State.examineStay, h]
      simp only [hd, if_true, Rack.overstayed]
    have hsame : (s.setRack k (r.overstayed l.step)).rack k = some (r.overstayed l.step) :=
      State.rack_setRack_same _ _ (State.rack_lt h)
    have hother (j : Nat) (hj : j ≠ k) : (s.setRack k (r.overstayed l.step)).rack j = s.rack j := State.rack_setRack_other _ _ hj
    by_cases hm : r.overMark = l.step
    · rw [hstay, if_pos hm]
      exact ⟨rfl, hother, nofun, fun _ => ⟨hsame, fun _ => ⟨rfl, rfl⟩, fun hne => (hne hm).elim, fun hne => (hne hm).elim⟩⟩
    · rw [hstay, if_neg hm]
      rcases (s.setRack k (r.overstayed l.step)).post_cases .overstay l.station k r.tag l.step with ⟨hroom, heq⟩ | ⟨hfull, heq⟩
      · rw [heq]
        refine ⟨rfl, hother, nofun, fun _ => ⟨hsame, fun hm' => (hm hm').elim, fun _ _ => ⟨rfl, rfl⟩, fun _ hle => ?_⟩⟩
        exact absurd hroom (not_lt.mpr hle)
      · rw [heq]
        refine ⟨rfl, hother, nofun, fun _ => ⟨hsame, fun hm' => (hm hm').elim, fun _ hlt => ?_, fun _ _ => ⟨rfl, rfl⟩⟩⟩
        exact absurd hlt (not_lt.mpr hfull)

/-- A stay that is not past its time is passed over after another one. -/
theorem State.examineStay_after {l' : Lift} (h : s.rack k = some r) (hd : s.overdue r l' = false) :
    (s.examineStay k l).examineStay k l' = s.examineStay k l := by
  obtain ⟨hframe, -, hearly, hlate⟩ := State.examined_examineStay (l := l) h
  have hcfg : (s.examineStay k l).cfg = s.cfg := by rw [hframe]
  have hclock : (s.examineStay k l).clock = s.clock := by rw [hframe]
  cases hdue : s.overdue r l with
  | false => exact State.examineStay_of_early (hearly hdue).1 ((State.overdue_congr hcfg hclock rfl).trans hd)
  | true => exact State.examineStay_of_early (hlate hdue).1 ((State.overdue_congr (r := r) hcfg hclock rfl).trans hd)

/-- OVERSTAY of one stay that counts. -/
theorem exec_overstay {inp : Inputs} {st : Step} {j : Nat} (hrun : s.run = .running) (h : s.rack k = some r)
    (heff : (s.latch inp).examineOverstay k = (s.latch inp).examineStay k l)
    (hst : stepAt (s.stepsOf r) l.step = some st) (hkind : st.kind = .bath) (him : l.immersion = some j) :
    ∃ t, exec (.overstay k inp) s = .next t ∧
      t = { s with pins := inp, out := t.out, slots := t.slots, events := t.events, lost := t.lost } ∧
      (∀ j, j ≠ k → t.rack j = s.rack j) ∧
      (if min (j + (st.immersion + st.stretch)) 4294967295 < s.clock then
        t.rack k = some { r with flags := { r.flags with overstay := true }, overMark := l.step } ∧
        (r.overMark = l.step → t.events = s.events ∧ t.lost = s.lost) ∧
        (r.overMark ≠ l.step → s.events.length < 64 →
          t.events = s.events ++ [⟨s.clock, .overstay, l.station, k, r.tag, l.step⟩] ∧ t.lost = s.lost) ∧
        (r.overMark ≠ l.step → 64 ≤ s.events.length → t.events = s.events ∧ t.lost = min (s.lost + 1) 255)
      else t.rack k = some r ∧ t.events = s.events ∧ t.lost = s.lost) := by
  refine ⟨_, exec_of_effect (f := fun t => t.examineOverstay k) hrun rfl heff, ?_⟩
  obtain ⟨hframe, hothers, hearly, hlate⟩ := State.examined_examineStay (s := s.latch inp) (k := k) (r := r) (l := l) h
  have hiff : (s.latch inp).overdue r l = true ↔ min (j + (st.immersion + st.stretch)) 4294967295 < s.clock :=
    State.overdue_iff hst hkind him
  have ht := State.drive_eq ((s.latch inp).examineStay k l)
  generalize (s.latch inp).examineStay k l = v at *
  generalize v.drive = t at ht
  have hrack (j : Nat) : t.rack j = v.rack j := by rw [ht]; rfl
  have hevents : t.events = v.events := by rw [ht]
  have hlost : t.lost = v.lost := by rw [ht]
  refine ⟨?_, fun j hj => (hrack j).trans (hothers j hj), ?_⟩
  · rw [hevents, hlost, ht, hframe]
    rfl
  · rw [hrack, hevents, hlost]
    split
    · next hd => exact hlate (hiff.mpr hd)
    · next hd => exact hearly (Bool.eq_false_iff.mpr fun h => hd (hiff.mp h))

end

/-- Settles O11. -/
theorem intervalsAndOverstaysAreExamined : Obligations.IntervalsAndOverstaysAreExamined := by
  unfold Obligations.IntervalsAndOverstaysAreExamined
  refine ⟨?_, ?_, ?_⟩
  · intro n i iv inp s hrun h1 hn hiv
    obtain ⟨t, hexec, hframe, hothers, hline⟩ := exec_intervalExpiry (s := s) (n := n) (i := i) (inp := inp) hrun h1 hn
      (State.examineAt_eq (s := s.latch inp) hiv)
    refine ⟨t, hexec, hframe, hothers, fun held hheld => ⟨fun hd hh => ?_, fun hd hh => ?_⟩, fun hd => ?_⟩
    · have hex := State.examine_of_held (s := s.latch inp) (n := n) (iv := iv) hd (State.holdsInterval_iff.mpr (hheld.mp hh))
      rw [hex] at hline
      exact hline
    · have hex := State.examine_of_left (s := s.latch inp) (n := n) (iv := iv) hd
        (Bool.eq_false_iff.mpr fun h => hh (hheld.mpr (State.holdsInterval_iff.mp h)))
      rw [hex] at hline
      exact hline
    · have hex := State.examine_of_early (s := s.latch inp) (n := n) (iv := iv) hd
      rw [hex] at hline
      obtain ⟨hi, hget⟩ := List.getElem?_eq_some_iff.mp hiv
      exact hline.trans (hget ▸ List.set_getElem_self hi)
  · intro k i inp s r st hrun hr hlift hphase hst hkind him
    have hnow : (s.latch inp).liftNow r = none := by
      unfold State.liftNow
      rw [Option.filter_eq_none_iff]
      intro l hl
      simpa using hlift l hl
    refine exec_overstay (l := ⟨s.clock, r.station, r.step, r.immersion⟩) hrun hr ?_ hst hkind him
    have hr' : (s.latch inp).rack k = some r := hr
    simp only [State.examineOverstay, hr', State.overstays, hphase, hnow]
    rfl
  · intro k i n step inp s r st hrun hr hlift hst hkind hphase
    have hnow : (s.latch inp).liftNow r = some ⟨s.clock, n, step, some i⟩ := by
      unfold State.liftNow
      rw [hlift]
      exact Option.filter_some_pos (by simp [State.latch])
    refine exec_overstay (l := ⟨s.clock, n, step, some i⟩) hrun hr ?_ hst hkind rfl
    have hr' : (s.latch inp).rack k = some r := hr
    rcases hphase with hp | hp | ⟨hp, hstay⟩
    · simp only [State.examineOverstay, hr', State.overstays, hp, hnow]
      rfl
    · simp only [State.examineOverstay, hr', State.overstays, hp, hnow]
      rfl
    · have hearly : (s.latch inp).overdue r ⟨s.clock, r.station, r.step, r.immersion⟩ = false := by
        unfold State.overdue
        cases hx : stepAt ((s.latch inp).stepsOf r) r.step with
        | none => rfl
        | some x =>
          cases him : r.immersion with
          | none => rfl
          | some j =>
            simp only [Bool.and_eq_false_iff, decide_eq_false_iff_not, not_lt]
            by_cases hk : x.kind = .bath
            · exact .inr (hstay x hx hk j him)
            · exact .inl (by simpa using hk)
      simp only [State.examineOverstay, hr', State.overstays, hp, hnow]
      exact State.examineStay_after hr' hearly

end Sys2Proof.Machine
end

section
/-! PROOFS. The carriage and its moves leave the samples of the baths alone (6.1 to 6.11). -/

namespace Sys2Proof.Machine

/-- The baths are as they were, a pump run can only have stopped, and the event queue has only grown. -/
structure State.Dry (s t : State) : Prop where
  clock : t.clock = s.clock
  stations : t.cfg.stations = s.cfg.stations
  baths : t.baths = s.baths
  pump : t.pump = none ∨ t.pump = s.pump
  posts : s.events <+: t.events

section
variable {s t u : State} {k n : Nat} {r : Rack} {e : Entry}

theorem State.Dry.refl (s : State) : s.Dry s := ⟨rfl, rfl, rfl, .inr rfl, List.prefix_rfl⟩

theorem State.Dry.trans (h : s.Dry t) (h' : t.Dry u) : s.Dry u where
  clock := h'.clock.trans h.clock
  stations := h'.stations.trans h.stations
  baths := h'.baths.trans h.baths
  pump := by
    rcases h'.pump with hn | hn
    · exact .inl hn
    · rw [hn]; exact h.pump
  posts := h.posts.trans h'.posts

theorem State.Works.dry {R : Nat → Rack → Rack → Prop} (h : s.Works R t) : s.Dry t :=
  ⟨h.clock, congrArg Settings.stations h.cfg, h.baths, .inr h.pump, h.posts⟩

theorem State.Departs.dry (h : s.Departs t) : s.Dry t := ⟨h.clock, h.stations, h.baths, h.pump, h.posts⟩

theorem State.RackWork.dry (h : s.RackWork t) : s.Dry t := by
  have hposts := h.posts
  cases h
  exact ⟨rfl, rfl, rfl, .inr rfl, hposts⟩

theorem State.Settled.dry (h : s.Settled t) (hb : t.pump = none ∨ t.pump = s.pump) : s.Dry t := by
  have hposts := h.posts
  cases h
  exact ⟨rfl, rfl, rfl, hb, hposts⟩

/-! ### Work on racks, plans and the Driver -/

/-- Work on the racks, whatever becomes of their records. -/
abbrev State.WorksFreely (s t : State) : Prop := s.Works (fun _ _ _ => True) t

theorem State.WorksFreely.trans (h : s.WorksFreely t) (h' : t.WorksFreely u) : s.WorksFreely u :=
  State.Works.trans (fun _ _ _ _ _ _ => trivial) h h'

theorem State.Works.freely {R : Nat → Rack → Rack → Prop} (h : s.Works R t) : s.WorksFreely t := h.mono fun _ _ _ _ => trivial

theorem State.freely_plans (s : State) (schedule : List Entry) (timelines : List (List Interval)) (deferred : List Deferred)
    (driver : Driver) (due : List Nat) (hd : driver.faultCleared = s.driver.faultCleared) : s.WorksFreely { s with
      schedule := schedule, timelines := timelines, deferred := deferred, driver := driver, accrualDue := due } :=
  s.works_plans (fun _ _ => trivial) _ _ _ _ _ hd

theorem State.freely_setRack (h : s.rack k = some r) (q : Rack) : s.WorksFreely (s.setRack k q) :=
  (State.works_setRack (P := fun _ _ => True) h trivial).freely

theorem State.freely_modifyRack (s : State) (k : Nat) (f : Rack → Rack) : s.WorksFreely (s.modifyRack k f) := by
  unfold State.modifyRack
  split
  · next r h => exact State.freely_setRack h _
  · exact .refl (fun _ _ => trivial) s

theorem State.freely_post (s : State) (kind : EventKind) (a b c d : Nat) : s.WorksFreely (s.post kind a b c d) :=
  s.works_post (fun _ _ => trivial) _ _ _ _ _

theorem State.freely_deferMove (s : State) (e : Entry) (cause : Nat) : s.WorksFreely (s.deferMove e cause) := by
  unfold State.deferMove
  split
  · refine .trans ?_ (State.freely_post _ _ _ _ _ _)
    refine .trans ?_ (State.works_noteStart _ _).freely
    exact s.freely_plans _ _ _ _ s.accrualDue rfl
  · exact s.freely_plans _ s.timelines s.deferred _ s.accrualDue rfl

theorem State.freely_abandonStanding (s : State) (k : Nat) : s.WorksFreely (s.abandonStanding k).1 := by
  unfold State.abandonStanding
  split
  · next r h =>
    have hset : s.WorksFreely (s.setRack k r.abandoned) := State.freely_setRack h _
    refine hset.trans ?_
    simp only
    split
    · have hclear : (s.setRack k r.abandoned).WorksFreely ((s.setRack k r.abandoned).clearStanding k r) := by
        refine .trans ?_ (State.works_noteStart _ _).freely
        exact State.freely_plans _ _ _ _ _ s.accrualDue rfl
      refine hclear.trans ?_
      unfold State.placeEvacuation
      split
      · next hp =>
        obtain ⟨q, c, -, -, rfl⟩ := State.placeRack_some hp
        exact (State.worksFor_bookChain _ _ _ _).all.freely
      · exact State.freely_plans _ _ _ _ _ _ rfl
    · exact .refl (fun _ _ => trivial) _
  · exact .refl (fun _ _ => trivial) s

theorem State.freely_beginDevelopment (s : State) (k : Nat) : s.WorksFreely (s.beginDevelopment k) := by
  unfold State.beginDevelopment
  split
  · next r h =>
    split
    · exact (State.freely_setRack h _).trans (State.worksFor_offer _ k).all.freely
    · exact .refl (fun _ _ => trivial) s
  · exact .refl (fun _ _ => trivial) s

theorem State.freely_postDeviation (s : State) (k n : Nat) (r : Rack) (st : Option Step) :
    s.WorksFreely (s.postDeviation k n r st) := by
  unfold State.postDeviation
  split
  · split
    · exact s.freely_post _ _ _ _ _
    · exact .refl (fun _ _ => trivial) s
  · exact .refl (fun _ _ => trivial) s

theorem State.freely_settleAccrual (s : State) (k : Nat) : s.WorksFreely (s.settleAccrual k) := by
  unfold State.settleAccrual
  split
  · exact (s.freely_plans s.schedule s.timelines s.deferred s.driver _ rfl).trans (State.freely_modifyRack _ _ _)
  · exact .refl (fun _ _ => trivial) s

theorem State.freely_reachUnload (h : s.rack e.slot = some r) : s.WorksFreely (s.reachUnload e r) := by
  unfold State.reachUnload
  refine .trans ?_ (State.freely_postDeviation _ _ _ _ _)
  refine .trans ?_ (State.freely_post _ _ _ _ _ _)
  exact (State.freely_setRack h _).trans (State.works_noteStart _ _).freely

/-! ### The carriage (R95 to R112) -/

theorem State.dry_createPlan (s : State) (k : Nat) : s.Dry (s.createPlan k) := by
  unfold State.createPlan
  split
  · split
    · exact ⟨rfl, rfl, rfl, .inr rfl, List.prefix_rfl⟩
    · exact .refl s
  · exact .refl s

theorem State.dry_enterBath (h : s.rack e.slot = some r) : s.Dry (s.enterBath e r) := by
  have hset : s.WorksFreely ((s.setRack e.slot ((r.finish (s.endingStep r)).enterBath e.dst s.clock
      (e.kind == .entry))).noteStart e.slot) := (State.freely_setRack h _).trans (State.works_noteStart _ e.slot).freely
  have hposts (u : State) : u.WorksFreely ((if (e.kind == .entry) = true then u.post .rackEntered e.dst e.slot r.tag 0
      else u).postDeviation e.slot e.dst r (s.endingStep r)) := by
    refine .trans ?_ (State.freely_postDeviation _ _ _ _ _)
    split
    · exact State.freely_post _ _ _ _ _ _
    · exact .refl (fun _ _ => trivial) u
  have habandon (u : State) : u.WorksFreely (if r.pending = .abandoned then (u.abandonStanding e.slot).1 else u) := by
    split
    · exact u.freely_abandonStanding _
    · exact .refl (fun _ _ => trivial) u
  unfold State.enterBath
  refine .trans ?_ (State.dry_createPlan _ _)
  exact (hset.trans ((hposts _).trans ((habandon _).trans (State.freely_beginDevelopment _ _)))).dry

theorem State.dry_endMove (s : State) (e : Entry) : s.Dry (s.endMove e) := by
  have hstart : s.Dry ({ s with driver := s.driver.rest .idle }.dropExecuting.settleAccrual e.slot) :=
    ((s.freely_plans _ s.timelines s.deferred (s.driver.rest .idle) s.accrualDue rfl).trans (State.freely_settleAccrual _ _)).dry
  refine hstart.trans ?_
  unfold State.endMove
  generalize { s with driver := s.driver.rest .idle }.dropExecuting.settleAccrual e.slot = t
  have hnotice : t.Dry (match t.rack e.slot with
      | some r => if t.isBath e.dst then t.enterBath e r else t.reachUnload e r
      | none => t) := by
    split
    · next r h =>
      split
      · exact State.dry_enterBath h
      · exact (State.freely_reachUnload h).dry
    · exact .refl t
  have hevac (u : State) : u.Dry (if e.kind = .evacuate then u.leaveEvacuation e.slot else u) := by
    split
    · exact (u.departs_leaveEvacuation _).dry
    · exact .refl u
  refine .trans ?_ (State.works_turn _).dry
  refine .trans ?_ (State.departs_judgeDrain _).dry
  refine .trans ?_ (State.departs_judgeRecovery _).dry
  exact hnotice.trans (hevac _)

theorem State.dry_clearPlanner (s : State) : s.Dry s.clearPlanner := ⟨rfl, rfl, rfl, .inr rfl, List.prefix_rfl⟩

theorem State.dry_faulted (s : State) : s.Dry s.faulted := by
  refine .trans ?_ (State.dry_clearPlanner _)
  have hpump : ((s.setDrainTarget none).enterLine .faulted .fault).pump = s.pump := by
    rw [State.enterLine_frame]
    rfl
  exact ((s.settled_setDrainTarget none).trans (State.settled_enterLine _ _ _)).dry (.inr hpump)

theorem State.dry_faultNotice (s : State) : s.Dry s.faultNotice := by
  cases h : s.line.state with
  | dormant => rw [State.faultNotice_of_off (.inl h)]; exact .refl s
  | standby => rw [State.faultNotice_of_off (.inr h)]; exact .refl s
  | faulted => rw [State.faultNotice_of_faulted h]; exact ⟨rfl, rfl, rfl, .inr rfl, List.prefix_rfl⟩
  | warmup | ready | draining => exact s.dry_faulted.trans (State.faultNotice_work (by simp [h])).dry

theorem State.dry_carriageFault (s : State) (code : FaultCode) (n : Nat) : s.Dry (s.carriageFault code n) := by
  rw [State.carriageFault_eq]
  refine .trans ?_ (State.dry_faultNotice _)
  refine .trans ?_ (State.freely_post _ .carriageFault n s.faultRack.1 s.faultRack.2 code.code).dry
  exact ⟨rfl, rfl, rfl, .inr rfl, List.prefix_rfl⟩

theorem State.dry_driver (s : State) (d : Driver) : s.Dry { s with driver := d } := ⟨rfl, rfl, rfl, .inr rfl, List.prefix_rfl⟩

theorem State.dry_endLower (s : State) (e : Entry) : s.Dry (s.endLower e) := by
  unfold State.endLower
  split
  · exact s.dry_carriageFault _ _
  · split
    · exact s.dry_carriageFault _ _
    · exact s.dry_endMove e

theorem State.dry_endTravel (s : State) (e : Entry) : s.Dry (s.endTravel e) := by
  unfold State.endTravel
  simp only
  split
  · exact State.Dry.trans (s.dry_driver _) (State.dry_endLower _ e)
  · exact s.dry_driver _

theorem State.dry_endDrain (s : State) (e : Entry) : s.Dry (s.endDrain e) := by
  unfold State.endDrain
  split
  · exact s.dry_carriageFault _ _
  · simp only
    split
    · exact State.Dry.trans (s.dry_driver _) (State.dry_endTravel _ e)
    · exact s.dry_driver _

theorem State.dry_endRaise (s : State) (e : Entry) : s.Dry (s.endRaise e) := by
  unfold State.endRaise
  split
  · exact s.dry_carriageFault _ _
  · split
    · exact s.dry_carriageFault _ _
    · simp only
      split
      · exact State.Dry.trans (s.dry_driver _) (State.dry_endDrain _ e)
      · exact s.dry_driver _

theorem State.dry_beginRaise (s : State) (e : Entry) : s.Dry (s.beginRaise e) := by
  unfold State.beginRaise
  simp only
  split
  · exact State.Dry.trans (s.dry_driver _) (State.dry_endRaise _ e)
  · exact s.dry_driver _

theorem State.dry_endApproach (s : State) : s.Dry s.endApproach := by
  rw [State.endApproach_eq]
  exact s.dry_driver _

theorem State.dry_upLimit (s : State) : s.Dry s.upLimit := by
  unfold State.upLimit
  split
  · split
    · exact s.dry_endRaise _
    · exact .refl s
  · exact s.works_turn.dry
  · exact s.works_turn.dry
  · exact s.works_turn.dry
  · exact .refl s

theorem State.dry_drainDue (s : State) : s.Dry s.drainDue := by
  unfold State.drainDue
  split
  · split
    · exact s.dry_endDrain _
    · exact .refl s
  · exact .refl s

theorem State.dry_downLimit (s : State) : s.Dry s.downLimit := by
  unfold State.downLimit
  split
  · split
    · exact s.dry_endLower _
    · exact .refl s
  · exact s.works_turn.dry
  · exact s.works_turn.dry
  · exact s.works_turn.dry
  · exact .refl s

end

end Sys2Proof.Machine
end

section
/-! PROOFS. Station flags that come true in a line second, and what the other blocks leave of a station's samples (8.2, 8.3). -/

namespace Sys2Proof.Machine

section
variable {s t u : State} {n m : Nat} {f : Flag} {p : Bool}

/-! ### Flags that come true (R130) -/

/-- At a station the latches that were set stay set, and a condition that has come true has set its latch and posted
FLAG_ASSERTED. -/
structure State.Noted (n : Nat) (s t : State) : Prop where
  clock : t.clock = s.clock
  posts : s.events <+: t.events
  latched : ∀ fl, (s.bath n).latches.get fl = true → (t.bath n).latches.get fl = true
  noted : ∀ fl, fl ≠ .exhUnknown → s.cond n fl = false → t.cond n fl = true →
    (t.bath n).latches.get fl = true ∧ ∃ slot tag, s.posted t .flagAsserted n slot tag fl.bit

theorem State.Noted.trans (h : s.Noted n t) (h' : t.Noted n u) : s.Noted n u where
  clock := h'.clock.trans h.clock
  posts := h.posts.trans h'.posts
  latched fl hl := h'.latched fl (h.latched fl hl)
  noted fl hfl hs hu := by
    cases ht : t.cond n fl with
    | true =>
      obtain ⟨hlatch, slot, tag, hposted⟩ := h.noted fl hfl hs ht
      exact ⟨h'.latched fl hlatch, slot, tag, hposted.of_prefix h'.posts⟩
    | false =>
      obtain ⟨hlatch, slot, tag, hposted⟩ := h'.noted fl hfl ht hu
      exact ⟨hlatch, slot, tag, hposted.of_clock h.clock⟩

/-- Where no condition comes true at the station and no latch is cleared, nothing has to be noted. -/
theorem State.Noted.of_conds (hclock : t.clock = s.clock) (hposts : s.events <+: t.events)
    (hlatch : (t.bath n).latches = (s.bath n).latches) (hcond : ∀ fl, t.cond n fl = true → s.cond n fl = true) : s.Noted n t :=
  ⟨hclock, hposts, fun fl h => by rw [hlatch]; exact h, fun fl _ hs ht => by rw [hcond fl ht] at hs; cases hs⟩

theorem State.Noted.of_bath (hclock : t.clock = s.clock) (hposts : s.events <+: t.events) (hbath : t.bath n = s.bath n) :
    s.Noted n t :=
  .of_conds hclock hposts (by rw [hbath]) fun fl h => by rw [State.cond, hbath] at h; exact h

theorem State.Noted.refl (n : Nat) (s : State) : s.Noted n s := .of_bath rfl List.prefix_rfl rfl

/-- A bath with its conditions and latches kept. -/
theorem State.noted_setBath {b : Bath} (hc : b.conds = (s.bath n).conds) (hl : b.latches = (s.bath n).latches) (m : Nat) :
    s.Noted m (s.setBath n b) := by
  rcases s.bath_setBath_cases n b m with h | ⟨rfl, h⟩
  · exact .of_bath rfl List.prefix_rfl h
  · exact .of_conds rfl List.prefix_rfl (by rw [h, hl]) fun fl hfl => by rw [State.cond, h, hc] at hfl; exact hfl

/-- The value a condition takes from its cause: a masked one can only fall (R130). -/
theorem State.bath_judgeFlag_eq (h1 : 1 ≤ n) (hn : n ≤ s.baths.length) (hf : f ≠ .exhUnknown) : ∃ l,
    (s.judgeFlag n f p).bath n = { s.bath n with
      conds := (s.bath n).conds.set f (p && (!s.masked n f || s.cond n f)), latches := l } := by
  cases p with
  | false => exact ⟨_, s.bath_releaseFlag_same h1 hn f⟩
  | true =>
    cases hc : s.cond n f with
    | true =>
      refine ⟨(s.bath n).latches, ?_⟩
      rw [State.judgeFlag, if_pos rfl, State.assertFlag_of_held (.inl hc), Bool.or_true, Bool.and_true, FlagSet.set_eq_self hc]
    | false =>
      cases hm : s.masked n f with
      | true =>
        refine ⟨(s.bath n).latches, ?_⟩
        rw [State.judgeFlag, if_pos rfl, State.assertFlag_of_held (.inr hm)]
        show s.bath n = { s.bath n with conds := (s.bath n).conds.set f false, latches := (s.bath n).latches }
        rw [FlagSet.set_eq_self hc]
      | false =>
        rw [State.judgeFlag, if_pos rfl, State.assertFlag_of_new hc hm hf]
        exact ⟨_, State.bath_setBath_same _ _ h1 hn⟩

theorem State.noted_judgeFlag (h1 : 1 ≤ n) (hn : n ≤ s.baths.length) (hf : f ≠ .exhUnknown) (p : Bool) (m : Nat) : s.Noted m (s.judgeFlag n f p) := by
  have hwatch := s.watches_judgeFlag n f p
  by_cases hm : m = n
  swap
  · exact .of_bath hwatch.clock hwatch.posts (State.bath_judgeFlag_other _ _ _ hm)
  subst hm
  cases p with
  | false =>
    have hbath : (s.judgeFlag m f false).bath m = { s.bath m with conds := (s.bath m).conds.set f false } :=
      s.bath_releaseFlag_same h1 hn f
    refine .of_conds rfl List.prefix_rfl ?_ fun fl hfl => ?_
    · exact (congrArg Bath.latches hbath).trans rfl
    · have hget : ((s.bath m).conds.set f false).get fl = true := (congrArg (fun b : Bath => b.conds.get fl) hbath).symm.trans hfl
      by_cases hff : fl = f
      · rw [hff, FlagSet.get_set_same] at hget; cases hget
      · rw [FlagSet.get_set_other _ _ hff] at hget; exact hget
  | true =>
    rw [State.judgeFlag, if_pos rfl] at hwatch ⊢
    by_cases hheld : s.cond m f = true ∨ s.masked m f = true
    · rw [State.assertFlag_of_held hheld]; exact .refl m s
    · simp only [not_or, Bool.not_eq_true] at hheld
      obtain ⟨hc, hmask⟩ := hheld
      have hposted := State.assertFlag_posted hc hmask hf
      have hbath : (s.assertFlag m f).bath m = { s.bath m with
          conds := (s.bath m).conds.set f true, latches := (s.bath m).latches.set f true } := by
        rw [State.assertFlag_of_new hc hmask hf]
        exact State.bath_setBath_same _ _ h1 hn
      refine ⟨hwatch.clock, hwatch.posts, fun fl hl => ?_, fun fl _ hs ht => ?_⟩
      · rw [hbath]
        by_cases hff : fl = f
        · rw [hff]; exact FlagSet.get_set_same _ _ _
        · exact (FlagSet.get_set_other _ _ hff).trans hl
      · by_cases hff : fl = f
        · rw [hff, hbath]
          exact ⟨FlagSet.get_set_same _ _ _, _, _, hposted⟩
        · rw [State.cond, hbath] at ht
          have hold := (FlagSet.get_set_other (s.bath m).conds true hff).symm.trans ht
          rw [State.cond, hold] at hs
          cases hs

/-- A station outside the table holds no bath that could change. -/
theorem State.setBath_of_outside (h : ¬ (1 ≤ n ∧ n ≤ s.baths.length)) (b : Bath) : s.setBath n b = s := by
  have hbaths : Sys2Proof.Machine.setStation s.baths n b = s.baths := by
    cases n with
    | zero => rfl
    | succ k => exact List.set_eq_of_length_le (by omega)
  exact congrArg (fun l : List Bath => { s with baths := l }) hbaths

theorem State.judgeFlag_of_outside (h : ¬ (1 ≤ n ∧ n ≤ s.baths.length)) (f : Flag) (p : Bool) :
    (s.judgeFlag n f p).baths = s.baths := by
  unfold State.judgeFlag State.assertFlag State.releaseFlag
  simp only [State.setBath_of_outside h]
  split
  · split
    · rfl
    · split
      · rfl
      · rw [State.post_eq]
  · rfl

/-! ### What the other blocks leave of a station's samples -/

/-- A bath as it was, but for its presence, its exhaustion index with EXHAUSTED, and its latches. -/
def Bath.Aside (b c : Bath) : Prop :=
  c = { b with presence := c.presence, exhaustion := c.exhaustion, conds := c.conds, latches := c.latches } ∧
  ∀ fl, fl ≠ .exhausted → c.conds.get fl = b.conds.get fl

theorem Bath.Aside.refl (b : Bath) : b.Aside b := ⟨rfl, fun _ _ => rfl⟩

theorem Bath.Aside.trans {b c d : Bath} (h : b.Aside c) (h' : c.Aside d) : b.Aside d :=
  ⟨by rw [h'.1, h.1], fun fl hfl => (h'.2 fl hfl).trans (h.2 fl hfl)⟩

/-- The work of the other blocks at the stations: samples, filters and conditions stay, EXHAUSTED and the index stay or are
judged anew. -/
structure State.Afloat (s t : State) : Prop where
  stations : t.cfg.stations = s.cfg.stations
  length : t.baths.length = s.baths.length
  aside : ∀ n, (s.bath n).Aside (t.bath n)
  noted : ∀ n, s.Noted n t
  judged : ∀ n, ((t.bath n).exhaustion = (s.bath n).exhaustion ∧ t.cond n .exhausted = s.cond n .exhausted) ∨
    (t.cond n .exhausted = true ↔ (t.stationCfg n).exhLimit ≤ (t.bath n).exhaustion)

theorem State.Afloat.stationCfg (h : s.Afloat t) (n : Nat) : t.stationCfg n = s.stationCfg n := by
  rw [State.stationCfg, h.stations, State.stationCfg]

theorem State.Afloat.trans (h : s.Afloat t) (h' : t.Afloat u) : s.Afloat u where
  stations := h'.stations.trans h.stations
  length := h'.length.trans h.length
  aside n := (h.aside n).trans (h'.aside n)
  noted n := (h.noted n).trans (h'.noted n)
  judged n := by
    rcases h'.judged n with ⟨he, hc⟩ | hj
    · rcases h.judged n with ⟨he', hc'⟩ | hj
      · exact .inl ⟨he.trans he', hc.trans hc'⟩
      · right
        rw [hc, he, h'.stationCfg]
        exact hj
    · exact .inr hj

theorem State.Afloat.of_baths (hclock : t.clock = s.clock) (hst : t.cfg.stations = s.cfg.stations) (hb : t.baths = s.baths)
    (hposts : s.events <+: t.events) : s.Afloat t := by
  have hbath (n : Nat) : t.bath n = s.bath n := by rw [State.bath, hb, State.bath]
  refine ⟨hst, by rw [hb], fun n => by rw [hbath]; exact .refl _, fun n => .of_bath hclock hposts (hbath n), fun n => ?_⟩
  exact .inl ⟨by rw [hbath], by rw [State.cond, hbath, State.cond]⟩

theorem State.Dry.afloat (h : s.Dry t) : s.Afloat t := .of_baths h.clock h.stations h.baths h.posts

theorem State.Afloat.refl (s : State) : s.Afloat s := (State.Dry.refl s).afloat

theorem State.afloat_sampled (s : State) (n : Nat) : s.Afloat (s.sampled n) := by
  have hbath (m : Nat) : (s.sampled n).bath m = { s.bath m with presence := ((s.sampled n).bath m).presence } := by
    rcases s.bath_setBath_cases n { s.bath n with presence := (s.pin n).presence } m with h | ⟨rfl, h⟩
    · rw [State.sampled, h]
    · rw [State.sampled, h]
  have hlen : (s.sampled n).baths.length = s.baths.length := setStation_length _ _ _
  generalize hw : s.sampled n = w at hbath hlen
  have hconds (m : Nat) : (w.bath m).conds = (s.bath m).conds := by rw [hbath]
  refine ⟨by rw [← hw]; rfl, hlen, fun m => ⟨by rw [hbath], fun fl _ => by rw [hconds]⟩, fun m => ?_, fun m => ?_⟩
  · rw [← hw]
    exact State.noted_setBath (b := { s.bath n with presence := (s.pin n).presence }) rfl rfl m
  · exact .inl ⟨by rw [hbath], by rw [State.cond, hconds, State.cond]⟩

theorem State.afloat_samplePresence (s : State) (n : Nat) : s.Afloat (s.samplePresence n) :=
  (s.afloat_sampled n).trans (s.samplePresence_departs n).dry.afloat

theorem State.afloat_foldl {f : State → Nat → State} (hf : ∀ (u : State) (n : Nat), u.Afloat (f u n)) (l : List Nat)
    (s : State) : s.Afloat (l.foldl f s) := by
  induction l generalizing s with
  | nil => exact .refl s
  | cons n l ih => exact (hf s n).trans (ih _)

theorem State.afloat_samplePresences (s : State) : s.Afloat s.samplePresences :=
  State.afloat_foldl State.afloat_samplePresence _ s

/-- A raise of the exhaustion index judges EXHAUSTED in the same event (R136). -/
theorem State.afloat_setExhaustionIndex (s : State) (n e : Nat) : s.Afloat (s.setExhaustionIndex n e) := by
  have hframe := s.setExhaustionIndex_frame n e
  have hwatch := State.watches_judgeFlag (s.setBath n { s.bath n with exhaustion := e }) n .exhausted
    (decide (((s.setBath n { s.bath n with exhaustion := e }).stationCfg n).exhLimit ≤
      ((s.setBath n { s.bath n with exhaustion := e }).bath n).exhaustion))
  have hlen : (s.setBath n { s.bath n with exhaustion := e }).baths.length = s.baths.length := setStation_length _ _ _
  have hstations : (s.setExhaustionIndex n e).cfg.stations = s.cfg.stations := by rw [hframe]
  by_cases hr : 1 ≤ n ∧ n ≤ s.baths.length
  · have hnoted (m : Nat) : s.Noted m (s.setExhaustionIndex n e) :=
      (State.noted_setBath (b := { s.bath n with exhaustion := e }) rfl rfl m).trans
        (State.noted_judgeFlag (f := .exhausted) hr.1 (by rw [hlen]; exact hr.2) (by decide) _ m)
    obtain ⟨l, hsame⟩ := s.bath_setExhaustionIndex_same hr.1 hr.2 e
    refine ⟨hstations, hwatch.length.trans hlen, fun m => ?_, hnoted, fun m => ?_⟩
    · by_cases hm : m = n
      · subst hm
        rw [hsame]
        exact ⟨rfl, fun fl hfl => FlagSet.get_set_other _ _ hfl⟩
      · rw [State.bath_setExhaustionIndex_other _ _ hm]
        exact .refl _
    · by_cases hm : m = n
      · subst hm
        right
        have hcfg : (s.setExhaustionIndex m e).stationCfg m = s.stationCfg m := by
          rw [State.stationCfg, hstations, State.stationCfg]
        rw [State.cond, hcfg, hsame]
        exact (Eq.to_iff (congrArg (· = true) (FlagSet.get_set_same _ .exhausted _))).trans decide_eq_true_iff
      · exact .inl ⟨by rw [State.bath_setExhaustionIndex_other _ _ hm],
          by rw [State.cond, State.bath_setExhaustionIndex_other _ _ hm, State.cond]⟩
  · have hsame : s.setBath n { s.bath n with exhaustion := e } = s := State.setBath_of_outside hr _
    refine State.Dry.afloat ⟨by rw [hframe], hstations, ?_, .inr (by rw [hframe]), ?_⟩
    · rw [State.setExhaustionIndex, State.judgeExhausted, hsame]
      exact State.judgeFlag_of_outside hr _ _
    · rw [State.setExhaustionIndex, State.judgeExhausted, hsame]
      exact (s.watches_judgeFlag _ _ _).posts

end

end Sys2Proof.Machine
end

section
/-! PROOFS. What the pieces of a line second leave of the samples of the stations and of the pump's run (8.2, 8.3, 8.7). -/

namespace Sys2Proof.Machine

section
variable {s t u : State} {n k : Nat} {e : Entry}

/-! ### The carriage's step -/

/-- The work of the carriage at the stations: the samples stay, a lift raises an exhaustion index, a pump run can only stop. -/
structure State.Wet (s t : State) : Prop where
  afloat : s.Afloat t
  presence : ∀ n, (t.bath n).presence = (s.bath n).presence
  pump : t.pump = none ∨ t.pump = s.pump

theorem State.Wet.trans (h : s.Wet t) (h' : t.Wet u) : s.Wet u where
  afloat := h.afloat.trans h'.afloat
  presence n := (h'.presence n).trans (h.presence n)
  pump := by
    rcases h'.pump with hn | hn
    · exact .inl hn
    · rw [hn]; exact h.pump

theorem State.Dry.wet (h : s.Dry t) : s.Wet t :=
  ⟨h.afloat, fun n => by rw [State.bath, h.baths, State.bath], h.pump⟩

theorem State.Wet.refl (s : State) : s.Wet s := (State.Dry.refl s).wet

theorem State.wet_setExhaustionIndex (s : State) (n e : Nat) : s.Wet (s.setExhaustionIndex n e) := by
  refine ⟨s.afloat_setExhaustionIndex n e, fun m => ?_, .inr (by rw [State.setExhaustionIndex_frame])⟩
  by_cases hm : m = n
  · subst hm
    by_cases hr : 1 ≤ m ∧ m ≤ s.baths.length
    · obtain ⟨l, hl⟩ := s.bath_setExhaustionIndex_same hr.1 hr.2 e
      rw [hl]
    · have hbaths : (s.setExhaustionIndex m e).baths = s.baths := by
        rw [State.setExhaustionIndex, State.judgeExhausted, State.setBath_of_outside hr]
        exact State.judgeFlag_of_outside hr _ _
      rw [State.bath, hbaths, State.bath]
  · rw [State.bath_setExhaustionIndex_other _ _ hm]

theorem State.dry_enqueue (s : State) (k n v c : Nat) : s.Dry (s.enqueue k n v c) := by
  unfold State.enqueue
  split
  · exact ⟨rfl, rfl, rfl, .inr rfl, List.prefix_rfl⟩
  · split
    · exact ⟨rfl, rfl, rfl, .inr rfl, List.prefix_rfl⟩
    · exact (s.freely_post _ _ _ _ _).dry

theorem State.wet_liftReplenish (s : State) (k n load : Nat) : s.Wet (s.liftReplenish k n load) := by
  by_cases h : s.isBath n = true
  · have hraise : s.Wet (s.raiseIndex n load) := by
      unfold State.raiseIndex
      split
      · exact s.wet_setExhaustionIndex n _
      · exact .refl s
    rw [s.liftReplenish_of_isBath h]
    split
    · exact hraise
    · exact hraise.trans (State.dry_enqueue _ _ _ _ _).wet
  · rw [State.liftReplenish, if_neg h]
    exact .refl s

theorem State.wet_startNotices (s : State) (e : Entry) : s.Wet (s.startNotices e) := by
  unfold State.startNotices
  split
  · next r h =>
    have hset : s.Wet ((s.setRack e.slot (s.liftedRack e r)).noteStart e.slot) :=
      ((State.freely_setRack h _).trans (State.works_noteStart _ _).freely).dry.wet
    have hrest (v : State) : v.Wet ((v.dropPlan e.slot).setValve r.station false) :=
      State.Dry.wet ⟨rfl, rfl, rfl, .inr rfl, List.prefix_rfl⟩
    refine hset.trans (.trans ?_ (hrest _))
    split
    · exact State.wet_liftReplenish _ _ _ _
    · exact .refl _
  · exact .refl s

theorem State.wet_beginMove (s : State) (e : Entry) : s.Wet (s.beginMove e) := by
  have hmark : s.Dry s.markExecuting := by
    rw [State.markExecuting_eq]
    exact ⟨rfl, rfl, rfl, .inr rfl, List.prefix_rfl⟩
  exact hmark.wet.trans ((State.wet_startNotices _ e).trans (State.dry_beginRaise _ e).wet)

theorem State.wet_moveStart (s : State) : s.Wet s.moveStart := by
  unfold State.moveStart
  split
  · split
    · unfold State.startOrDefer
      split
      · exact ((s.freely_deferMove _ 0).dry.trans (State.works_turn _).dry).wet
      · split
        · exact ((s.freely_deferMove _ 1).dry.trans (State.works_turn _).dry).wet
        · exact s.wet_beginMove _
    · exact .refl s
  · exact .refl s

theorem State.wet_carriageStep (s : State) : s.Wet s.carriageStep := by
  unfold State.carriageStep
  split
  · exact s.wet_moveStart
  · exact s.dry_upLimit.wet
  · exact s.dry_drainDue.wet
  · exact s.dry_downLimit.wet
  · split
    · exact (s.dry_endTravel _).wet
    · exact .refl s
  · split
    · exact (s.dry_endApproach.trans (State.works_turn _).dry).wet
    · exact .refl s
  · exact .refl s

/-! ### Every piece but its own -/

theorem State.afloat_doTask {task : SecondTask} (hb : task ≠ .bath) : s.Afloat (s.doTask task) := by
  cases task with
  | presence => exact s.afloat_samplePresences
  | bath => exact (hb rfl).elim
  | develop => exact s.works_developAll.dry.afloat
  | retry => exact s.works_developAll.dry.afloat.trans s.developAll.works_retryAll.dry.afloat
  | warmup =>
    exact .of_baths ((congrArg State.clock s.judgeWarmup_eq).trans rfl)
      ((congrArg (fun u : State => u.cfg.stations) s.judgeWarmup_eq).trans rfl)
      ((congrArg State.baths s.judgeWarmup_eq).trans rfl) s.judgeWarmup_posts
  | pump =>
    exact .of_baths ((congrArg State.clock s.readPumpAndGas_eq).trans rfl)
      ((congrArg (fun u : State => u.cfg.stations) s.readPumpAndGas_eq).trans rfl)
      ((congrArg State.baths s.readPumpAndGas_eq).trans rfl) s.readPumpAndGas_posts
  | expiry => exact s.works_examineAll.dry.afloat
  | carriage => exact s.wet_carriageStep.afloat

/-- Outside the Bath Monitor's work the samples of the stations stay. -/
theorem State.afloat_doTurns {tasks : List SecondTask} (hb : .bath ∉ tasks) : s.Afloat (tasks.foldl State.doTurn s) :=
  doTurns_keep (P := s.Afloat) (fun _ ht u hu =>
    (hu.trans (u.afloat_doTask fun h => hb (h ▸ ht))).trans (State.works_turn _).dry.afloat) (.refl s)

theorem State.presence_doTask {task : SecondTask} (hp : task ≠ .presence) (n : Nat) :
    ((s.doTask task).bath n).presence = (s.bath n).presence := by
  have hsame {t : State} (h : t.baths = s.baths) : (t.bath n).presence = (s.bath n).presence := by
    rw [State.bath, h, State.bath]
  cases task with
  | presence => exact (hp rfl).elim
  | bath => exact s.watches_watchBaths.presence n
  | develop => exact hsame s.works_developAll.baths
  | retry => exact hsame (s.developAll.works_retryAll.baths.trans s.works_developAll.baths)
  | warmup => exact hsame ((congrArg State.baths s.judgeWarmup_eq).trans rfl)
  | pump => exact hsame ((congrArg State.baths s.readPumpAndGas_eq).trans rfl)
  | expiry => exact hsame s.works_examineAll.baths
  | carriage => exact s.wet_carriageStep.presence n

/-- Outside its own samples the presence of a station stays. -/
theorem State.presence_doTurns {tasks : List SecondTask} (hp : .presence ∉ tasks) (n : Nat) :
    ((tasks.foldl State.doTurn s).bath n).presence = (s.bath n).presence :=
  doTurns_keep (P := fun u => (u.bath n).presence = (s.bath n).presence) (fun task ht u hu => by
    have hturn : (u.doTask task).turn.baths = (u.doTask task).baths := (State.works_turn _).baths
    rw [State.doTurn, State.bath, hturn]
    exact (State.presence_doTask (fun h => hp (h ▸ ht)) n).trans hu) rfl

theorem State.pump_samplePresences (s : State) : s.samplePresences.pump = none ∨ s.samplePresences.pump = s.pump := by
  have hfold (l : List Nat) : ∀ u : State, u.pump = none ∨ u.pump = s.pump →
      (l.foldl State.samplePresence u).pump = none ∨ (l.foldl State.samplePresence u).pump = s.pump := by
    induction l with
    | nil => exact fun _ hu => hu
    | cons n l ih =>
      refine fun u hu => ih _ ?_
      rcases (u.samplePresence_departs n).pump with h | h
      · exact .inl h
      · rw [h]; exact hu
  exact hfold allStations s (.inr rfl)

theorem State.pump_doTask {task : SecondTask} (hp : task ≠ .pump) :
    (s.doTask task).pump = none ∨ (s.doTask task).pump = s.pump := by
  cases task with
  | presence => exact s.pump_samplePresences
  | bath => exact .inr s.watches_watchBaths.pump
  | develop => exact .inr s.works_developAll.pump
  | retry => exact .inr (s.developAll.works_retryAll.pump.trans s.works_developAll.pump)
  | warmup => exact .inr ((congrArg State.pump s.judgeWarmup_eq).trans rfl)
  | pump => exact (hp rfl).elim
  | expiry => exact .inr s.works_examineAll.pump
  | carriage => exact s.wet_carriageStep.pump

/-- Outside the pump's reading a run stays or stops. -/
theorem State.pump_doTurns {tasks : List SecondTask} (hp : .pump ∉ tasks) :
    (tasks.foldl State.doTurn s).pump = none ∨ (tasks.foldl State.doTurn s).pump = s.pump :=
  doTurns_keep (P := fun u => u.pump = none ∨ u.pump = s.pump) (fun task ht u hu => by
    have hturn : (u.doTask task).turn.pump = (u.doTask task).pump := (State.works_turn _).pump
    rw [State.doTurn, hturn]
    rcases State.pump_doTask (s := u) (fun h => hp (h ▸ ht)) with h | h
    · exact .inl h
    · rw [h]; exact hu) (.inr rfl)

end

end Sys2Proof.Machine
end

section
/-! PROOFS. One station's sample in a line second, and the flags judged from it (8.2, 8.3). -/

namespace Sys2Proof.Machine

section
variable {s t u : State} {n m : Nat} {f g : Flag} {p : Bool}

/-! ### A flag takes the value of its cause -/

/-- A bath as it was but for its conditions and latches. -/
def Bath.Marked (b c : Bath) : Prop := c = { b with conds := c.conds, latches := c.latches }

theorem Bath.Marked.refl (b : Bath) : b.Marked b := rfl

theorem Bath.Marked.trans {b c d : Bath} (h : b.Marked c) (h' : c.Marked d) : b.Marked d := by
  rw [Bath.Marked, h', h]

theorem State.marked_judgeFlag (hf : f ≠ .exhUnknown) (p : Bool) (m : Nat) :
    (s.bath m).Marked ((s.judgeFlag n f p).bath m) := by
  by_cases hm : m = n
  · subst hm
    by_cases hr : 1 ≤ m ∧ m ≤ s.baths.length
    · obtain ⟨l, hl⟩ := State.bath_judgeFlag_eq (p := p) hr.1 hr.2 hf
      rw [hl]
      rfl
    · have hsame : (s.judgeFlag m f p).bath m = s.bath m := by
        rw [State.bath, State.judgeFlag_of_outside hr, State.bath]
      rw [hsame]
      exact .refl _
  · rw [State.bath_judgeFlag_other _ _ _ hm]
    exact .refl _

theorem State.cond_judgeFlag_same (h1 : 1 ≤ n) (hn : n ≤ s.baths.length) (hf : f ≠ .exhUnknown) (p : Bool) :
    (s.judgeFlag n f p).cond n f = (p && (!s.masked n f || s.cond n f)) := by
  obtain ⟨l, hl⟩ := State.bath_judgeFlag_eq (p := p) h1 hn hf
  rw [State.cond, hl]
  exact FlagSet.get_set_same _ _ _

theorem State.cond_judgeFlag_other (hf : f ≠ .exhUnknown) (hg : g ≠ f) (p : Bool) (m : Nat) :
    (s.judgeFlag n f p).cond m g = s.cond m g := by
  by_cases hm : m = n
  · subst hm
    by_cases hr : 1 ≤ m ∧ m ≤ s.baths.length
    · obtain ⟨l, hl⟩ := State.bath_judgeFlag_eq (p := p) hr.1 hr.2 hf
      rw [State.cond, hl]
      exact FlagSet.get_set_other _ _ hg
    · rw [State.cond, State.bath, State.judgeFlag_of_outside hr, State.cond, State.bath]
  · rw [State.cond, State.bath_judgeFlag_other _ _ _ hm, State.cond]

/-! ### The temperature sample (R127 to R129, R133) -/

/-- What a bath holds of its samples: the reading and the filter. -/
def Bath.sampling (b : Bath) : Bath :=
  { b with presence := false, levelLow := false, levelHigh := false, exhaustion := 0, conds := {}, latches := {} }

/-- What the sample `x` of the temperature makes of the samples `b` and of PROBE_FAULT: the reading counts as invalid, or is
accepted or rejected by the jump limit. -/
structure StationCfg.Reads (cfg : StationCfg) (x : Nat) (b : Bath) (was : Bool) (c : Bath) (now : Bool) : Prop where
  raw : c.raw = x
  rawValid : c.rawValid = decide (x ≤ 600)
  invalid : 600 < x →
    c.invalid = min (b.invalid + 1) 30 ∧ c.history = b.history ∧ c.lastAccepted = b.lastAccepted ∧ c.filtered = b.filtered ∧
    c.fresh = b.fresh ∧ c.rejected = b.rejected ∧ (cfg.probeHold ≤ c.invalid → now = true)
  valid : x ≤ 600 → c.invalid = 0
  accepted : x ≤ 600 → b.accepts cfg.jump x = true →
    c.rejected = 0 ∧ c.lastAccepted = some x ∧ c.history = pushSample cfg.depth b.history x ∧
    c.filtered = some (mean c.history) ∧ c.fresh = true ∧ now = false
  rejected : x ≤ 600 → b.accepts cfg.jump x = false →
    c.rejected = b.rejected + 1 ∧ c.history = b.history ∧ c.filtered = b.filtered ∧ now = was

/-- The sample of a station's temperature has been taken. -/
abbrev State.Read (n : Nat) (s t : State) : Prop :=
  (s.stationCfg n).Reads (s.pin n).temp (s.bath n).sampling (s.cond n .probeFault) (t.bath n).sampling (t.cond n .probeFault)

/-- The bath of a station as its reading leaves it, before it is accepted or rejected. -/
def State.readBath (s : State) (n : Nat) : Bath :=
  { s.bath n with raw := (s.pin n).temp, rawValid := decide ((s.pin n).temp ≤ 600) }

/-- The part with a rejected sample counted, an accepted one filtered, or an invalid reading counted. -/
theorem State.sampleTemp_of_accepted (h : (s.pin n).temp ≤ 600)
    (ha : (s.bath n).accepts (s.stationCfg n).jump (s.pin n).temp = true) : s.sampleTemp n =
      (s.setBath n ({ s.readBath n with invalid := 0 }.accept (s.stationCfg n).depth (s.pin n).temp)).judgeFlag n
        .probeFault false := by
  unfold State.sampleTemp
  simp only [if_pos h]
  exact if_pos ha

theorem State.sampleTemp_of_rejected (h : (s.pin n).temp ≤ 600)
    (ha : (s.bath n).accepts (s.stationCfg n).jump (s.pin n).temp = false) : s.sampleTemp n =
      s.setBath n { s.readBath n with invalid := 0, rejected := (s.bath n).rejected + 1 } := by
  unfold State.sampleTemp
  simp only [if_pos h]
  exact if_neg (by rw [Bool.not_eq_true]; exact ha)

theorem State.sampleTemp_of_invalid (h : 600 < (s.pin n).temp) : s.sampleTemp n =
    if (s.stationCfg n).probeHold ≤ min ((s.bath n).invalid + 1) 30 then
      (s.setBath n { s.readBath n with invalid := min ((s.bath n).invalid + 1) 30 }).judgeFlag n .probeFault true
    else s.setBath n { s.readBath n with invalid := min ((s.bath n).invalid + 1) 30 } := by
  unfold State.sampleTemp
  simp only [if_neg (not_le.mpr h)]
  rfl

section
variable (h1 : 1 ≤ n) (hn : n ≤ s.baths.length)
include h1 hn

/-- A bath set and then marked is the bath set, but for conditions and latches. -/
theorem State.marked_setBath_judge {b : Bath} (hf : f ≠ .exhUnknown) (p : Bool) :
    b.Marked (((s.setBath n b).judgeFlag n f p).bath n) := by
  have h := State.marked_judgeFlag (s := s.setBath n b) (n := n) hf p n
  rwa [State.bath_setBath_same s b h1 hn] at h

theorem State.cond_setBath_judge {b : Bath} (hf : f ≠ .exhUnknown) (hm : f.maskable = false) (p : Bool) :
    ((s.setBath n b).judgeFlag n f p).cond n f = p := by
  rw [State.cond_judgeFlag_same h1 (by rw [State.setBath_baths, setStation_length]; exact hn) hf,
    State.masked_of_not_maskable _ _ hm, Bool.not_false, Bool.true_or, Bool.and_true]

theorem State.read_sampleTemp : State.Read n s (s.sampleTemp n) := by
  by_cases hx : (s.pin n).temp ≤ 600
  · have hnot : ¬ 600 < (s.pin n).temp := not_lt.mpr hx
    cases ha : (s.bath n).accepts (s.stationCfg n).jump (s.pin n).temp with
    | true =>
      rw [State.sampleTemp_of_accepted hx ha]
      have hmarked := State.marked_setBath_judge (s := s) h1 hn (f := .probeFault)
        (b := { s.readBath n with invalid := 0 }.accept (s.stationCfg n).depth (s.pin n).temp) (by decide) false
      have hcond := State.cond_setBath_judge (s := s) h1 hn (f := .probeFault)
        (b := { s.readBath n with invalid := 0 }.accept (s.stationCfg n).depth (s.pin n).temp) (by decide) rfl false
      generalize State.judgeFlag _ n .probeFault false = t at hmarked hcond
      rw [Bath.Marked] at hmarked
      refine ⟨by rw [hmarked]; rfl, by rw [hmarked]; rfl, fun h => (hnot h).elim, fun _ => by rw [hmarked]; rfl, fun _ _ => ?_,
        fun _ h => (nomatch ha.symm.trans h)⟩
      refine ⟨by rw [hmarked]; rfl, by rw [hmarked]; rfl, by rw [hmarked]; rfl, ?_, by rw [hmarked]; rfl, hcond⟩
      rw [hmarked]
      rfl
    | false =>
      rw [State.sampleTemp_of_rejected hx ha]
      have hbath := State.bath_setBath_same s { s.readBath n with invalid := 0, rejected := (s.bath n).rejected + 1 } h1 hn
      generalize s.setBath n _ = t at hbath
      refine ⟨by rw [hbath]; rfl, by rw [hbath]; rfl, fun h => (hnot h).elim, fun _ => by rw [hbath]; rfl,
        fun _ h => (nomatch ha.symm.trans h), fun _ _ => ?_⟩
      exact ⟨by rw [hbath]; rfl, by rw [hbath]; rfl, by rw [hbath]; rfl, by rw [State.cond, hbath]; rfl⟩
  · have hx' : 600 < (s.pin n).temp := not_le.mp hx
    rw [State.sampleTemp_of_invalid hx']
    have hmarked := State.marked_setBath_judge (s := s) h1 hn (f := .probeFault)
        (b := { s.readBath n with invalid := min ((s.bath n).invalid + 1) 30 }) (by decide) true
    have hcond := State.cond_setBath_judge (s := s) h1 hn (f := .probeFault)
        (b := { s.readBath n with invalid := min ((s.bath n).invalid + 1) 30 }) (by decide) rfl true
    have hbath := State.bath_setBath_same s { s.readBath n with invalid := min ((s.bath n).invalid + 1) 30 } h1 hn
    split
    · generalize State.judgeFlag _ n .probeFault true = t at hmarked hcond
      rw [Bath.Marked] at hmarked
      refine ⟨by rw [hmarked]; rfl, by rw [hmarked]; rfl, fun _ => ?_, fun h => (hx h).elim, fun h => (hx h).elim,
        fun h => (hx h).elim⟩
      exact ⟨by rw [hmarked]; rfl, by rw [hmarked]; rfl, by rw [hmarked]; rfl, by rw [hmarked]; rfl, by rw [hmarked]; rfl,
        by rw [hmarked]; rfl, fun _ => hcond⟩
    · next hearly =>
      generalize s.setBath n _ = t at hbath
      refine ⟨by rw [hbath]; rfl, by rw [hbath]; rfl, fun _ => ?_, fun h => (hx h).elim, fun h => (hx h).elim,
        fun h => (hx h).elim⟩
      exact ⟨by rw [hbath]; rfl, by rw [hbath]; rfl, by rw [hbath]; rfl, by rw [hbath]; rfl, by rw [hbath]; rfl,
        by rw [hbath]; rfl, fun h => (hearly (by rw [hbath] at h; exact h)).elim⟩

end

/-- The sample of the temperature judges PROBE_FAULT alone. -/
theorem State.cond_sampleTemp_other (hg : g ≠ .probeFault) : (s.sampleTemp n).cond n g = s.cond n g := by
  have hset (b : Bath) (hb : b.conds = (s.bath n).conds) : (s.setBath n b).cond n g = s.cond n g := by
    rcases s.bath_setBath_cases n b n with h | ⟨-, h⟩
    · rw [State.cond, h, State.cond]
    · rw [State.cond, h, hb, State.cond]
  by_cases hx : (s.pin n).temp ≤ 600
  · cases ha : (s.bath n).accepts (s.stationCfg n).jump (s.pin n).temp with
    | true =>
      rw [State.sampleTemp_of_accepted hx ha, State.cond_judgeFlag_other (by decide) hg]
      exact hset _ rfl
    | false =>
      rw [State.sampleTemp_of_rejected hx ha]
      exact hset _ rfl
  · rw [State.sampleTemp_of_invalid (not_le.mp hx)]
    split
    · rw [State.cond_judgeFlag_other (by decide) hg]
      exact hset _ rfl
    · exact hset _ rfl

theorem State.noted_sampleTemp (h1 : 1 ≤ n) (hn : n ≤ s.baths.length) (m : Nat) : s.Noted m (s.sampleTemp n) := by
  have hlen (b : Bath) : n ≤ (s.setBath n b).baths.length := by rw [State.setBath_baths, setStation_length]; exact hn
  by_cases hx : (s.pin n).temp ≤ 600
  · cases ha : (s.bath n).accepts (s.stationCfg n).jump (s.pin n).temp with
    | true =>
      rw [State.sampleTemp_of_accepted hx ha]
      exact (State.noted_setBath (b := { s.readBath n with invalid := 0 }.accept (s.stationCfg n).depth (s.pin n).temp) rfl rfl
        m).trans (State.noted_judgeFlag h1 (hlen _) (by decide) _ m)
    | false =>
      rw [State.sampleTemp_of_rejected hx ha]
      exact State.noted_setBath (b := { s.readBath n with invalid := 0, rejected := (s.bath n).rejected + 1 }) rfl rfl m
  · rw [State.sampleTemp_of_invalid (not_le.mp hx)]
    have hset : s.Noted m (s.setBath n { s.readBath n with invalid := min ((s.bath n).invalid + 1) 30 }) :=
      State.noted_setBath (b := { s.readBath n with invalid := min ((s.bath n).invalid + 1) 30 }) rfl rfl m
    split
    · exact hset.trans (State.noted_judgeFlag h1 (hlen _) (by decide) _ m)
    · exact hset

end

end Sys2Proof.Machine
end

section
/-! PROOFS. The flags of a station in a line second, and SPREAD against its group (8.3). -/

namespace Sys2Proof.Machine

section
variable {s t u : State} {n m : Nat} {f g : Flag} {p : Bool}

/-! ### The flags of one station (R131, R133, R134) -/

theorem State.masked_of_watches (h : s.Watches t) (n : Nat) (f : Flag) : t.masked n f = s.masked n f := by
  unfold State.masked State.stationCfg
  rw [h.cfg]

theorem State.stationCfg_of_watches (h : s.Watches t) (n : Nat) : t.stationCfg n = s.stationCfg n := by
  unfold State.stationCfg
  rw [h.cfg]

theorem State.pin_of_watches (h : s.Watches t) (n : Nat) : t.pin n = s.pin n := by
  unfold State.pin
  rw [h.pins]

/-- A bath with new level readings keeps its conditions. -/
def State.levelled (s : State) (n : Nat) : State :=
  s.setBath n { s.bath n with levelLow := (s.pin n).levelLow, levelHigh := (s.pin n).levelHigh }

theorem State.watches_levelled (s : State) (n : Nat) : s.Watches (s.levelled n) := State.watches_setBath rfl rfl

theorem State.cond_levelled (s : State) (n m : Nat) (g : Flag) : (s.levelled n).cond m g = s.cond m g := by
  rcases s.bath_setBath_cases n { s.bath n with levelLow := (s.pin n).levelLow, levelHigh := (s.pin n).levelHigh } m with h | ⟨rfl, h⟩
  · rw [State.levelled, State.cond, h, State.cond]
  · rw [State.levelled, State.cond, h, State.cond]

/-- The part with both level switches judged, before the valve of a low bath closes. -/
def State.levelsJudged (s : State) (n : Nat) : State :=
  ((s.levelled n).judgeFlag n .levelLow (s.pin n).levelLow).judgeFlag n .levelHigh (s.pin n).levelHigh

theorem State.judgeLevels_cases (s : State) (n : Nat) :
    s.judgeLevels n = s.levelsJudged n ∨ s.judgeLevels n = (s.levelsJudged n).setValve n false := by
  unfold State.judgeLevels
  simp only
  split
  · exact .inr rfl
  · exact .inl rfl

theorem State.bath_judgeLevels (s : State) (n m : Nat) : (s.judgeLevels n).bath m = (s.levelsJudged n).bath m := by
  rcases s.judgeLevels_cases n with h | h
  · rw [h]
  · rw [h]; rfl

theorem State.cond_judgeLevels_other (hl : g ≠ .levelLow) (hh : g ≠ .levelHigh) (m : Nat) :
    (s.judgeLevels n).cond m g = s.cond m g := by
  rw [State.cond, State.bath_judgeLevels]
  exact (State.cond_judgeFlag_other (by decide) hh _ m).trans
    ((State.cond_judgeFlag_other (by decide) hl _ m).trans (s.cond_levelled n m g))

theorem State.cond_judgeTemps_other (hl : g ≠ .tempLow) (hh : g ≠ .tempHigh) (m : Nat) :
    (s.judgeTemps n).cond m g = s.cond m g :=
  (State.cond_judgeFlag_other (by decide) hh _ m).trans (State.cond_judgeFlag_other (by decide) hl _ m)

theorem State.marked_judgeTemps (s : State) (n m : Nat) : (s.bath m).Marked ((s.judgeTemps n).bath m) :=
  (State.marked_judgeFlag (by decide) _ m).trans (State.marked_judgeFlag (by decide) _ m)

theorem Bath.Marked.sampling {b c : Bath} (h : b.Marked c) : c.sampling = b.sampling := by
  rw [h]
  rfl

theorem Bath.filtered_of_sampling {b c : Bath} (h : c.sampling = b.sampling) : c.filtered = b.filtered := by
  have hf : c.sampling.filtered = b.sampling.filtered := by rw [h]
  exact hf

theorem State.Read.after (h : State.Read n s t) (hb : (u.bath n).sampling = (t.bath n).sampling)
    (hc : u.cond n .probeFault = t.cond n .probeFault) : State.Read n s u := by
  unfold State.Read
  rw [hb, hc]
  exact h

theorem State.Read.before (h : State.Read n s t) (hcfg : s.stationCfg n = u.stationCfg n) (hpin : s.pin n = u.pin n)
    (hb : (s.bath n).sampling = (u.bath n).sampling) (hc : s.cond n .probeFault = u.cond n .probeFault) :
    State.Read n u t := by
  unfold State.Read
  rw [← hcfg, ← hpin, ← hb, ← hc]
  exact h

/-- What a second leaves of a station's flags but SPREAD, and of its level readings. -/
structure State.Flagged (n : Nat) (s t : State) : Prop where
  tempLow : t.cond n .tempLow = (tempLowPresent (s.cond n .tempLow) (s.stationCfg n).winLow (t.bath n).filtered &&
    (!s.masked n .tempLow || s.cond n .tempLow))
  tempHigh : t.cond n .tempHigh = (tempHighPresent (s.cond n .tempHigh) (s.stationCfg n).winHigh (t.bath n).filtered &&
    (!s.masked n .tempHigh || s.cond n .tempHigh))
  levelLow : t.cond n .levelLow = (s.pin n).levelLow
  levelHigh : t.cond n .levelHigh = ((s.pin n).levelHigh && (!s.masked n .levelHigh || s.cond n .levelHigh))
  exhausted : t.cond n .exhausted = decide ((s.stationCfg n).exhLimit ≤ (t.bath n).exhaustion)
  levels : (t.bath n).levelLow = (s.pin n).levelLow ∧ (t.bath n).levelHigh = (s.pin n).levelHigh

section
variable (h1 : 1 ≤ n) (hn : n ≤ s.baths.length)
include h1 hn

theorem State.judgeTemps_tempLow : (s.judgeTemps n).cond n .tempLow =
    (tempLowPresent (s.cond n .tempLow) (s.stationCfg n).winLow (s.bath n).filtered &&
      (!s.masked n .tempLow || s.cond n .tempLow)) :=
  (State.cond_judgeFlag_other (by decide) (by decide) _ n).trans (State.cond_judgeFlag_same h1 hn (by decide) _)

theorem State.judgeTemps_tempHigh : (s.judgeTemps n).cond n .tempHigh =
    (tempHighPresent (s.cond n .tempHigh) (s.stationCfg n).winHigh (s.bath n).filtered &&
      (!s.masked n .tempHigh || s.cond n .tempHigh)) := by
  have hlow := s.watches_judgeFlag n .tempLow
    (tempLowPresent (s.cond n .tempLow) (s.stationCfg n).winLow (s.bath n).filtered)
  have hcond : (s.judgeFlag n .tempLow
      (tempLowPresent (s.cond n .tempLow) (s.stationCfg n).winLow (s.bath n).filtered)).cond n .tempHigh =
      s.cond n .tempHigh := State.cond_judgeFlag_other (by decide) (by decide) _ n
  have hmarked := State.marked_judgeFlag (s := s) (n := n) (f := .tempLow) (by decide)
    (tempLowPresent (s.cond n .tempLow) (s.stationCfg n).winLow (s.bath n).filtered) n
  unfold State.judgeTemps
  simp only
  generalize s.judgeFlag n .tempLow _ = v at hlow hcond hmarked ⊢
  have hfiltered : (v.bath n).filtered = (s.bath n).filtered := Bath.filtered_of_sampling hmarked.sampling
  rw [State.cond_judgeFlag_same h1 (by rw [hlow.length]; exact hn) (by decide), State.masked_of_watches hlow, hcond]

theorem State.flagged_judgeLevels : (s.judgeLevels n).cond n .levelLow = (s.pin n).levelLow ∧
    (s.judgeLevels n).cond n .levelHigh = ((s.pin n).levelHigh && (!s.masked n .levelHigh || s.cond n .levelHigh)) ∧
    ((s.judgeLevels n).bath n).levelLow = (s.pin n).levelLow ∧ ((s.judgeLevels n).bath n).levelHigh = (s.pin n).levelHigh ∧
    ((s.judgeLevels n).bath n).sampling = (s.bath n).sampling := by
  have hlevelled := s.watches_levelled n
  have hbath : (s.levelled n).bath n = { s.bath n with levelLow := (s.pin n).levelLow, levelHigh := (s.pin n).levelHigh } :=
    State.bath_setBath_same _ _ h1 hn
  have hcond (g : Flag) := s.cond_levelled n n g
  rw [State.cond, State.cond, State.bath_judgeLevels]
  unfold State.levelsJudged
  generalize s.levelled n = v at hlevelled hbath hcond
  have hlow := v.watches_judgeFlag n .levelLow (s.pin n).levelLow
  have hlowcond : (v.judgeFlag n .levelLow (s.pin n).levelLow).cond n .levelLow = (s.pin n).levelLow := by
    rw [State.cond_judgeFlag_same h1 (by rw [hlevelled.length]; exact hn) (by decide), State.masked_of_not_maskable _ _ rfl]
    simp
  have hlowother : (v.judgeFlag n .levelLow (s.pin n).levelLow).cond n .levelHigh = v.cond n .levelHigh :=
    State.cond_judgeFlag_other (by decide) (by decide) _ n
  have hlowmarked := State.marked_judgeFlag (s := v) (n := n) (f := .levelLow) (by decide) (s.pin n).levelLow n
  generalize v.judgeFlag n .levelLow (s.pin n).levelLow = w at hlow hlowcond hlowother hlowmarked
  have hwatch := hlevelled.trans hlow
  have hmarked := hlowmarked.trans
    (State.marked_judgeFlag (s := w) (n := n) (f := .levelHigh) (by decide) (s.pin n).levelHigh n)
  have hhigh := State.cond_judgeFlag_same (s := w) (f := .levelHigh) h1 (by rw [hwatch.length]; exact hn) (by decide)
    (s.pin n).levelHigh
  rw [State.masked_of_watches hwatch, hlowother, hcond] at hhigh
  have hlowkept := State.cond_judgeFlag_other (s := w) (n := n) (f := .levelHigh) (g := .levelLow) (by decide) (by decide)
    (s.pin n).levelHigh n
  rw [hlowcond] at hlowkept
  refine ⟨hlowkept, hhigh, ?_, ?_, ?_⟩
  · rw [hmarked, hbath]
  · rw [hmarked, hbath]
  · rw [hmarked.sampling, hbath]
    rfl

theorem State.watched_watchStation : State.Read n s (s.watchStation n) ∧ State.Flagged n s (s.watchStation n) ∧
    (s.watchStation n).cond n .spread = s.cond n .spread := by
  have hread := State.read_sampleTemp (s := s) h1 hn
  have hwatch := s.watches_sampleTemp n
  have hother (g : Flag) (hg : g ≠ .probeFault) := State.cond_sampleTemp_other (s := s) (n := n) hg
  unfold State.watchStation
  generalize s.sampleTemp n = v at hread hwatch hother
  have hnv : n ≤ v.baths.length := by rw [hwatch.length]; exact hn
  have htlow := State.judgeTemps_tempLow (s := v) h1 hnv
  have hthigh := State.judgeTemps_tempHigh (s := v) h1 hnv
  rw [hother _ (by decide), State.stationCfg_of_watches hwatch, State.masked_of_watches hwatch] at htlow hthigh
  have htother (g : Flag) (hl : g ≠ .tempLow) (hh : g ≠ .tempHigh) := State.cond_judgeTemps_other (s := v) (n := n) hl hh n
  have htmarked := v.marked_judgeTemps n n
  have htwatch := hwatch.trans (v.watches_judgeTemps n)
  generalize v.judgeTemps n = w at htlow hthigh htother htmarked htwatch
  have hnw : n ≤ w.baths.length := by rw [htwatch.length]; exact hn
  obtain ⟨hllow, hlhigh, hlow, hhigh, hlsampling⟩ := State.flagged_judgeLevels (s := w) h1 hnw
  rw [State.pin_of_watches htwatch] at hllow hlhigh hlow hhigh
  rw [State.masked_of_watches htwatch] at hlhigh
  have hlother (g : Flag) (hl : g ≠ .levelLow) (hh : g ≠ .levelHigh) := State.cond_judgeLevels_other (s := w) (n := n) hl hh n
  have hlwatch := htwatch.trans (w.watches_judgeLevels n)
  generalize w.judgeLevels n = x at hllow hlhigh hlow hhigh hlsampling hlother hlwatch
  have hnx : n ≤ x.baths.length := by rw [hlwatch.length]; exact hn
  have hecond := State.cond_judgeFlag_same (s := x) (f := .exhausted) h1 hnx (by decide)
    (decide ((x.stationCfg n).exhLimit ≤ (x.bath n).exhaustion))
  rw [State.masked_of_not_maskable _ _ rfl, Bool.not_false, Bool.true_or, Bool.and_true,
    State.stationCfg_of_watches hlwatch] at hecond
  have heother (g : Flag) (hg : g ≠ .exhausted) := State.cond_judgeFlag_other (s := x) (n := n) (f := .exhausted) (by decide) hg
    (decide ((x.stationCfg n).exhLimit ≤ (x.bath n).exhaustion)) n
  have hemarked := State.marked_judgeFlag (s := x) (n := n) (f := .exhausted) (by decide)
    (decide ((x.stationCfg n).exhLimit ≤ (x.bath n).exhaustion)) n
  unfold State.judgeExhausted
  rw [State.stationCfg_of_watches hlwatch] at heother hemarked ⊢
  generalize x.judgeFlag n .exhausted (decide ((s.stationCfg n).exhLimit ≤ (x.bath n).exhaustion)) = y at hecond heother hemarked
  have hsampling : (y.bath n).sampling = (v.bath n).sampling :=
    hemarked.sampling.trans (hlsampling.trans htmarked.sampling)
  have hfiltered : (y.bath n).filtered = (v.bath n).filtered := Bath.filtered_of_sampling hsampling
  have hexhaustion : (y.bath n).exhaustion = (x.bath n).exhaustion := by rw [hemarked]
  have hkept (g : Flag) (he : g ≠ .exhausted) (hl : g ≠ .levelLow) (hh : g ≠ .levelHigh) : y.cond n g = w.cond n g :=
    (heother g he).trans (hlother g hl hh)
  have hfault : y.cond n .probeFault = v.cond n .probeFault :=
    (hkept _ (by decide) (by decide) (by decide)).trans (htother _ (by decide) (by decide))
  refine ⟨?_, ⟨?_, ?_, ?_, ?_, ?_, ?_, ?_⟩, ?_⟩
  · exact hread.after hsampling hfault
  · rw [hkept _ (by decide) (by decide) (by decide), htlow, hfiltered]
  · rw [hkept _ (by decide) (by decide) (by decide), hthigh, hfiltered]
  · rw [heother _ (by decide), hllow]
  · rw [heother _ (by decide), hlhigh, htother _ (by decide) (by decide), hother _ (by decide)]
  · rw [hecond, hexhaustion]
  · rw [hemarked]; exact hlow
  · rw [hemarked]; exact hhigh
  · rw [hkept _ (by decide) (by decide) (by decide), htother _ (by decide) (by decide), hother _ (by decide)]

end

theorem State.bath_setBath_judge_other {b : Bath} (hm : m ≠ n) : ((s.setBath n b).judgeFlag n f p).bath m = s.bath m :=
  (State.bath_judgeFlag_other _ _ _ hm).trans (State.bath_setBath_other _ _ hm)

theorem State.bath_sampleTemp_other (hm : m ≠ n) : (s.sampleTemp n).bath m = s.bath m := by
  by_cases hx : (s.pin n).temp ≤ 600
  · cases ha : (s.bath n).accepts (s.stationCfg n).jump (s.pin n).temp with
    | true =>
      rw [State.sampleTemp_of_accepted hx ha]
      exact State.bath_setBath_judge_other hm
    | false =>
      rw [State.sampleTemp_of_rejected hx ha]
      exact State.bath_setBath_other _ _ hm
  · rw [State.sampleTemp_of_invalid (not_le.mp hx)]
    split
    · exact State.bath_setBath_judge_other hm
    · exact State.bath_setBath_other _ _ hm

/-- The work at one station leaves the baths of the others. -/
theorem State.bath_watchStation_other (hm : m ≠ n) : (s.watchStation n).bath m = s.bath m := by
  have htemps (u : State) : (u.judgeTemps n).bath m = u.bath m :=
    (State.bath_judgeFlag_other _ _ _ hm).trans (State.bath_judgeFlag_other _ _ _ hm)
  have hlevels (u : State) : (u.judgeLevels n).bath m = u.bath m :=
    (u.bath_judgeLevels n m).trans ((State.bath_judgeFlag_other _ _ _ hm).trans (State.bath_setBath_judge_other hm))
  exact (State.bath_judgeFlag_other _ _ _ hm).trans ((hlevels _).trans ((htemps _).trans (State.bath_sampleTemp_other hm)))

theorem State.noted_watchStation (h1 : 1 ≤ n) (hn : n ≤ s.baths.length) (m : Nat) : s.Noted m (s.watchStation n) := by
  have hsample := s.watches_sampleTemp n
  have hnoted := State.noted_sampleTemp h1 hn m
  unfold State.watchStation
  generalize s.sampleTemp n = u at hsample hnoted
  have hnu : n ≤ u.baths.length := by rw [hsample.length]; exact hn
  have htemps : u.Noted m (u.judgeTemps n) :=
    (State.noted_judgeFlag (f := .tempLow) h1 hnu (by decide) _ m).trans
      (State.noted_judgeFlag (f := .tempHigh) h1 (by rw [(u.watches_judgeFlag n _ _).length]; exact hnu) (by decide) _ m)
  have hwtemps := u.watches_judgeTemps n
  generalize u.judgeTemps n = v at htemps hwtemps
  have hnv : n ≤ v.baths.length := by rw [hwtemps.length]; exact hnu
  have hwl := v.watches_levelled n
  have hnl : v.Noted m (v.levelled n) :=
    State.noted_setBath (b := { v.bath n with levelLow := (v.pin n).levelLow, levelHigh := (v.pin n).levelHigh }) rfl rfl m
  have hjudged : v.Noted m (v.levelsJudged n) := by
    refine hnl.trans ((State.noted_judgeFlag (f := .levelLow) h1 (by rw [hwl.length]; exact hnv) (by decide) (v.pin n).levelLow m).trans ?_)
    exact State.noted_judgeFlag (f := .levelHigh) h1
      (by rw [(State.watches_judgeFlag _ _ _ _).length, hwl.length]; exact hnv) (by decide) _ m
  have hwlevels := v.watches_judgeLevels n
  have hlevels : v.Noted m (v.judgeLevels n) :=
    hjudged.trans (.of_bath (hwlevels.clock.trans hjudged.clock.symm) (by
      rcases v.judgeLevels_cases n with h | h
      · rw [h]
      · rw [h]; exact List.prefix_rfl) (v.bath_judgeLevels n m))
  generalize v.judgeLevels n = w at hwlevels hlevels
  exact hnoted.trans (htemps.trans (hlevels.trans
    (State.noted_judgeFlag (f := .exhausted) h1 (by rw [hwlevels.length]; exact hnv) (by decide) _ m)))

/-! ### Every station in its turn (R127) -/

/-- Work at one station after another, each on its own bath: a station of the list finds its bath as it was, and leaves it to
the end. -/
theorem State.turn_of_station {R : State → State → Prop} (hrefl : ∀ u, R u u) (htrans : ∀ a b c, R a b → R b c → R a c)
    {f : State → Nat → State} {l : List Nat} (hnodup : l.Nodup)
    (hother : ∀ (u : State) m, m ≠ n → (f u m).bath n = u.bath n) (hstep : ∀ (u : State) m, R u (f u m)) (s : State) :
    R s (l.foldl f s) ∧
    (n ∈ l → ∃ u, R s u ∧ u.bath n = s.bath n ∧ (l.foldl f s).bath n = (f u n).bath n) ∧
    (n ∉ l → (l.foldl f s).bath n = s.bath n) := by
  induction l generalizing s with
  | nil => exact ⟨hrefl s, nofun, fun _ => rfl⟩
  | cons a l ih =>
    rw [List.nodup_cons] at hnodup
    obtain ⟨ihall, ihmem, ihout⟩ := ih hnodup.2 (f s a)
    refine ⟨htrans _ _ _ (hstep s a) ihall, fun hmem => ?_, fun hout => ?_⟩
    · by_cases ha : n = a
      · subst ha
        exact ⟨s, hrefl s, rfl, ihout hnodup.1⟩
      · obtain ⟨u, hu, hbath, hend⟩ := ihmem ((List.mem_cons.mp hmem).resolve_left ha)
        exact ⟨u, htrans _ _ _ (hstep s a) hu, hbath.trans (hother s a (Ne.symm ha)), hend⟩
    · rw [List.mem_cons, not_or] at hout
      exact (ihout hout.2).trans (hother s a (Ne.symm hout.1))

/-- What is noted at a station is noted by the work at all of them. -/
theorem State.noted_foldl {f : State → Nat → State} {l : List Nat} (hl : ∀ n ∈ l, 1 ≤ n ∧ n ≤ s.baths.length)
    (hf : ∀ (u : State) n, 1 ≤ n → n ≤ u.baths.length → u.Noted m (f u n)) (hwatch : ∀ (u : State) n, u.Watches (f u n)) :
    s.Noted m (l.foldl f s) := by
  induction l generalizing s with
  | nil => exact .refl m s
  | cons a l ih =>
    obtain ⟨h1, hn⟩ := hl a List.mem_cons_self
    refine (hf s a h1 hn).trans (ih fun n hmem => ?_)
    rw [(hwatch s a).length]
    exact hl n (List.mem_cons_of_mem a hmem)

/-! ### SPREAD (R132) -/

theorem State.healthyTemp_iff {x : Nat} : s.healthyTemp n = some x ↔ s.cond n .probeFault = false ∧ (s.bath n).filtered = some x := by
  unfold State.healthyTemp
  cases s.cond n .probeFault <;> simp

theorem mem_bathStations : n ∈ s.bathStations ↔ 1 ≤ n ∧ n ≤ 16 ∧ s.isBath n = true := by
  rw [State.bathStations, List.mem_filter, State.mem_stations]
  constructor
  · rintro ⟨⟨h1, h16, -⟩, hb⟩
    exact ⟨h1, h16, hb⟩
  · rintro ⟨h1, h16, hb⟩
    exact ⟨⟨h1, h16, State.configured_of_role (State.role_ne_unused_of_isBath hb)⟩, hb⟩

theorem bathStations_nodup (s : State) : s.bathStations.Nodup :=
  List.Nodup.filter _ (List.Nodup.filter _ (allStations_sorted.imp fun h => Nat.ne_of_lt h))

theorem least_eq_min? (l : List Nat) : least l = l.min? := by
  cases l <;> rfl

theorem two_le_length {l : List Nat} {x y : Nat} (hx : x ∈ l) (hy : y ∈ l) (hne : y ≠ x) : 2 ≤ l.length := by
  match l, hx, hy with
  | [a], hx, hy =>
    rw [List.mem_singleton] at hx hy
    exact (hne (hy.trans hx.symm)).elim
  | _ :: _ :: _, _, _ => simp

/-- SPREAD holds of a station that is warmer than another of its group by more than its limit (R132). -/
theorem State.spreadPresent_iff (h1 : 1 ≤ n) (h16 : n ≤ 16) (hb : s.isBath n = true) : s.spreadPresent n = true ↔
    ∃ x, (s.bath n).filtered = some x ∧ s.cond n .probeFault = false ∧ ∃ m ∈ s.groupStations (s.group n),
      ∃ y, (s.bath m).filtered = some y ∧ s.cond m .probeFault = false ∧ y + (s.stationCfg n).spreadLimit < x := by
  have hmem (y : Nat) : y ∈ s.groupTemps n ↔ ∃ m ∈ s.groupStations (s.group n), s.healthyTemp m = some y := List.mem_filterMap
  have hself : n ∈ s.groupStations (s.group n) := by
    rw [State.groupStations, List.mem_filter, State.mem_stations]
    exact ⟨⟨h1, h16, State.configured_of_role (State.role_ne_unused_of_isBath hb)⟩, by simp [hb]⟩
  constructor
  · intro h
    unfold State.spreadPresent at h
    split at h
    · next x low hx hlow =>
      rw [least_eq_min?, List.min?_eq_some_iff] at hlow
      obtain ⟨m, hm, hy⟩ := (hmem low).mp hlow.1
      obtain ⟨hxc, hxf⟩ := State.healthyTemp_iff.mp hx
      obtain ⟨hyc, hyf⟩ := State.healthyTemp_iff.mp hy
      simp only [Bool.and_eq_true, decide_eq_true_eq] at h
      exact ⟨x, hxf, hxc, m, hm, low, hyf, hyc, h.2⟩
    · cases h
  · rintro ⟨x, hxf, hxc, m, hm, y, hyf, hyc, hlt⟩
    have hx : s.healthyTemp n = some x := State.healthyTemp_iff.mpr ⟨hxc, hxf⟩
    have hxmem : x ∈ s.groupTemps n := (hmem x).mpr ⟨n, hself, hx⟩
    have hymem : y ∈ s.groupTemps n := (hmem y).mpr ⟨m, hm, State.healthyTemp_iff.mpr ⟨hyc, hyf⟩⟩
    obtain ⟨low, hlow⟩ : ∃ low, least (s.groupTemps n) = some low := by
      rw [least_eq_min?]
      exact Option.isSome_iff_exists.mp (List.isSome_min?_of_mem hymem)
    have hleast : low ≤ y := by
      rw [least_eq_min?, List.min?_eq_some_iff] at hlow
      exact hlow.2 y hymem
    unfold State.spreadPresent
    rw [hx, hlow]
    simp only [Bool.and_eq_true, decide_eq_true_eq]
    exact ⟨two_le_length hxmem hymem (by omega), by omega⟩

theorem State.spreadPresent_of_temps (hcfg : t.cfg = s.cfg) (ht : t.temps = s.temps) (n : Nat) :
    t.spreadPresent n = s.spreadPresent n := by
  have hhealthy : t.healthyTemp = s.healthyTemp := ht
  have hgroup (g : Nat) : t.groupStations g = s.groupStations g := by
    unfold State.groupStations State.stations State.isBath State.role State.group State.configured State.stationCfg
    rw [hcfg]
  unfold State.spreadPresent State.groupTemps
  rw [hhealthy, hgroup]
  unfold State.stationCfg State.group State.configured State.stationCfg
  rw [hcfg]

theorem State.temps_judgeSpread (s : State) (n : Nat) : (s.judgeSpread n).temps = s.temps := by
  funext m
  have hmarked := State.marked_judgeFlag (s := s) (n := n) (f := .spread) (by decide) (s.spreadPresent n) m
  have hcond := State.cond_judgeFlag_other (s := s) (n := n) (f := .spread) (g := .probeFault) (by decide) (by decide)
    (s.spreadPresent n) m
  unfold State.temps State.healthyTemp
  rw [State.judgeSpread, hcond, Bath.filtered_of_sampling hmarked.sampling]

/-! ### The Bath Monitor's whole work (R127 to R134) -/

/-- The Bath Monitor's work of a second at a station: its sample, its flags, SPREAD last. -/
structure State.Watched (n : Nat) (s t : State) : Prop where
  read : State.Read n s t
  flagged : State.Flagged n s t
  spread : t.cond n .spread = (t.spreadPresent n && (!s.masked n .spread || s.cond n .spread))

theorem State.Flagged.before (h : State.Flagged n s t) (hcfg : s.cfg = u.cfg) (hpin : s.pin n = u.pin n)
    (hb : s.bath n = u.bath n) : State.Flagged n u t := by
  have hmask (f : Flag) : s.masked n f = u.masked n f := by unfold State.masked State.stationCfg; rw [hcfg]
  have hstation : s.stationCfg n = u.stationCfg n := by unfold State.stationCfg; rw [hcfg]
  have hcond (f : Flag) : s.cond n f = u.cond n f := by unfold State.cond; rw [hb]
  obtain ⟨h1, h2, h3, h4, h5, h6⟩ := h
  rw [hmask, hstation, hcond] at h1 h2
  rw [hpin] at h3
  rw [hpin, hmask, hcond] at h4
  rw [hstation] at h5
  rw [hpin] at h6
  exact ⟨h1, h2, h3, h4, h5, h6⟩

theorem State.Flagged.after (h : State.Flagged n s t) (hm : (t.bath n).Marked (u.bath n))
    (hc : ∀ g, g ≠ .spread → u.cond n g = t.cond n g) : State.Flagged n s u := by
  obtain ⟨h1, h2, h3, h4, h5, h6⟩ := h
  have hf := Bath.filtered_of_sampling hm.sampling
  have hl : (u.bath n).levelLow = (t.bath n).levelLow ∧ (u.bath n).levelHigh = (t.bath n).levelHigh := by
    rw [hm]; exact ⟨rfl, rfl⟩
  have he : (u.bath n).exhaustion = (t.bath n).exhaustion := by rw [hm]
  refine ⟨?_, ?_, ?_, ?_, ?_, ?_⟩
  · rw [hc _ (by decide), hf]; exact h1
  · rw [hc _ (by decide), hf]; exact h2
  · rw [hc _ (by decide)]; exact h3
  · rw [hc _ (by decide)]; exact h4
  · rw [hc _ (by decide), he]; exact h5
  · exact ⟨hl.1.trans h6.1, hl.2.trans h6.2⟩

theorem State.watched_watchBaths (hlen : s.baths.length = 16) (h1 : 1 ≤ n) (h16 : n ≤ 16) (hb : s.isBath n = true) :
    State.Watched n s s.watchBaths ∧ s.Noted n s.watchBaths := by
  have hmem : n ∈ s.bathStations := mem_bathStations.mpr ⟨h1, h16, hb⟩
  have hrange (u : State) (hu : u.baths.length = 16) (hs : u.bathStations = s.bathStations) :
      ∀ m ∈ u.bathStations, 1 ≤ m ∧ m ≤ u.baths.length := fun m hm => by
    obtain ⟨hm1, hm16, -⟩ := mem_bathStations.mp hm
    exact ⟨hm1, by rw [hu]; exact hm16⟩
  have hsampled := State.noted_foldl (m := n) (hrange s hlen rfl) (fun u m hm hn => u.noted_watchStation hm hn n)
    State.watches_watchStation
  obtain ⟨hall, hfirst, -⟩ := State.turn_of_station (R := State.Watches) (n := n) State.Watches.refl
    (fun _ _ _ => State.Watches.trans) (bathStations_nodup s) (fun u m hm => State.bath_watchStation_other (Ne.symm hm))
    State.watches_watchStation s
  obtain ⟨u, hu, hubath, hend⟩ := hfirst hmem
  obtain ⟨hread, hflagged, hspread⟩ := State.watched_watchStation (s := u) h1 (by rw [hu.length, hlen]; exact h16)
  have hucond (g : Flag) : u.cond n g = s.cond n g := by unfold State.cond; rw [hubath]
  generalize hv : s.bathStations.foldl State.watchStation s = v at hall hend hsampled
  have hwhole : s.watchBaths = v.bathStations.foldl State.judgeSpread v := by rw [← hv]; rfl
  have hvcond (g : Flag) : v.cond n g = (u.watchStation n).cond n g := by unfold State.cond; rw [hend]
  have hstations : v.bathStations = s.bathStations := by
    unfold State.bathStations State.stations State.isBath State.role State.configured State.stationCfg
    rw [hall.cfg]
  have hspreadnoted := State.noted_foldl (m := n) (s := v) (hrange v (hall.length.trans hlen) hstations)
    (f := State.judgeSpread) (fun w m hm hn => State.noted_judgeFlag hm hn (by decide) _ n) (fun w m => w.watches_judgeFlag m _ _)
  obtain ⟨⟨-, htemps⟩, hsecond, -⟩ := State.turn_of_station (n := n) (R := fun a b : State => a.Watches b ∧ b.temps = a.temps)
    (fun w => ⟨.refl w, rfl⟩) (fun _ _ _ h h' => ⟨h.1.trans h'.1, h'.2.trans h.2⟩) (f := State.judgeSpread)
    (bathStations_nodup v) (fun w m hm => State.bath_judgeFlag_other _ _ _ (Ne.symm hm))
    (fun w m => ⟨w.watches_judgeFlag m _ _, w.temps_judgeSpread m⟩) v
  rw [← hwhole] at hspreadnoted htemps hsecond
  obtain ⟨w, ⟨hvw, hwtemps⟩, hwbath, hwend⟩ := hsecond (by rw [hstations]; exact hmem)
  have hwatch := s.watches_watchBaths
  generalize s.watchBaths = t at hspreadnoted htemps hwend hwatch
  have hsw := hall.trans hvw
  have hwcond (g : Flag) : w.cond n g = v.cond n g := by unfold State.cond; rw [hwbath]
  have htcond (g : Flag) : t.cond n g = (w.judgeSpread n).cond n g := by unfold State.cond; rw [hwend]
  have hother (g : Flag) (hg : g ≠ .spread) : t.cond n g = v.cond n g :=
    (htcond g).trans ((State.cond_judgeFlag_other (by decide) hg _ n).trans (hwcond g))
  have hmarked : (v.bath n).Marked (t.bath n) := by
    rw [hwend, ← hwbath]
    exact State.marked_judgeFlag (by decide) _ n
  have hpresent : w.spreadPresent n = t.spreadPresent n :=
    (State.spreadPresent_of_temps (hwatch.cfg.trans hsw.cfg.symm) (htemps.trans hwtemps.symm) n).symm
  refine ⟨⟨?_, ?_, ?_⟩, hsampled.trans hspreadnoted⟩
  · refine (hread.before (State.stationCfg_of_watches hu n) (State.pin_of_watches hu n) (by rw [hubath]) (hucond _)).after ?_ ?_
    · rw [hmarked.sampling, hend]
    · rw [hother _ (by decide), hvcond]
  · refine (hflagged.before hu.cfg (State.pin_of_watches hu n) hubath).after ?_ fun g hg => ?_
    · rw [← hend]; exact hmarked
    · rw [hother g hg, hvcond]
  · rw [htcond, State.judgeSpread, State.cond_judgeFlag_same h1 (by rw [hsw.length, hlen]; exact h16) (by decide), hpresent,
      State.masked_of_watches hsw, hwcond, hvcond, hspread, hucond]

end

end Sys2Proof.Machine
end

section
/-! PROOFS. A line second samples presence, levels, temperature and flow and judges the flags of every bath (8.2, 8.3, 8.7). -/

namespace Sys2Proof.Machine

section
variable {s t u : State} {n : Nat}

/-! ### The flags as the statements read them -/

theorem tempLowPresent_iff {was : Bool} {low : Nat} {o : Option Nat} : tempLowPresent was low o = true ↔
    ∃ x, o = some x ∧ if was = true then x < low + 2 else x < low := by
  cases o with
  | none => simp [tempLowPresent]
  | some x => cases was <;> simp [tempLowPresent]

theorem tempHighPresent_iff {was : Bool} {high : Nat} {o : Option Nat} : tempHighPresent was high o = true ↔
    ∃ x, o = some x ∧ if was = true then high < x + 2 else high < x := by
  cases o with
  | none => simp [tempHighPresent]
  | some x => cases was <;> simp [tempHighPresent]

/-- A flag that can be masked stands where its cause does and it is not masked, or stood before. -/
theorem masked_flag_iff {now p m was : Bool} (h : now = (p && (!m || was))) :
    now = true ↔ (m = false ∨ was = true) ∧ p = true := by
  rw [h]
  cases p <;> cases m <;> cases was <;> decide

/-- A sample is accepted where there is none before, within the jump limit, and after three rejected ones (R128). -/
theorem Bath.accepts_iff {b : Bath} {jump x : Nat} : b.accepts jump x = true ↔
    ∀ y, b.lastAccepted = some y → (max y x - min y x ≤ jump ∨ 3 ≤ b.rejected) := by
  unfold Bath.accepts
  cases h : b.lastAccepted with
  | none => simp
  | some y =>
    have hdiff : diff x y = max y x - min y x := by unfold diff; omega
    simp [hdiff]

/-! ### What surrounds the Bath Monitor's work -/

theorem Bath.Aside.sampling {b c : Bath} (h : b.Aside c) : c.sampling = b.sampling := by
  rw [h.1]
  rfl

theorem State.Afloat.cond (h : s.Afloat t) {f : Flag} (hf : f ≠ .exhausted) (n : Nat) : t.cond n f = s.cond n f :=
  (h.aside n).2 f hf

theorem State.Afloat.masked (h : s.Afloat t) (n : Nat) (f : Flag) : t.masked n f = s.masked n f := by
  unfold State.masked
  rw [h.stationCfg]

theorem State.Afloat.temps (h : s.Afloat t) : t.temps = s.temps := by
  funext m
  unfold State.temps State.healthyTemp
  rw [h.cond (by decide), Bath.filtered_of_sampling (h.aside m).sampling]

/-- EXHAUSTED stands where it was judged, whatever the other blocks do after. -/
theorem State.Afloat.exhausted (h : s.Afloat t)
    (hs : s.cond n .exhausted = true ↔ (s.stationCfg n).exhLimit ≤ (s.bath n).exhaustion) :
    t.cond n .exhausted = true ↔ (t.stationCfg n).exhLimit ≤ (t.bath n).exhaustion := by
  rcases h.judged n with ⟨he, hc⟩ | hj
  · rw [hc, he, h.stationCfg]
    exact hs
  · exact hj

/-- The flags but EXHAUSTED, carried over what surrounds the Bath Monitor's work. -/
structure State.Noticed (n : Nat) (s t : State) : Prop where
  tempLow : t.cond n .tempLow = (tempLowPresent (s.cond n .tempLow) (s.stationCfg n).winLow (t.bath n).filtered &&
    (!s.masked n .tempLow || s.cond n .tempLow))
  tempHigh : t.cond n .tempHigh = (tempHighPresent (s.cond n .tempHigh) (s.stationCfg n).winHigh (t.bath n).filtered &&
    (!s.masked n .tempHigh || s.cond n .tempHigh))
  levelLow : t.cond n .levelLow = (s.pin n).levelLow
  levelHigh : t.cond n .levelHigh = ((s.pin n).levelHigh && (!s.masked n .levelHigh || s.cond n .levelHigh))
  levels : (t.bath n).levelLow = (s.pin n).levelLow ∧ (t.bath n).levelHigh = (s.pin n).levelHigh

theorem State.Flagged.noticed {a b : State} (h : State.Flagged n a b) (hs : s.Afloat a) (ht : b.Afloat t) (hpin : a.pin n = s.pin n) :
    State.Noticed n s t := by
  obtain ⟨hlow, hhigh, hllow, hlhigh, -, hlevels⟩ := h
  have hf := Bath.filtered_of_sampling (ht.aside n).sampling
  have hlev : (t.bath n).levelLow = (b.bath n).levelLow ∧ (t.bath n).levelHigh = (b.bath n).levelHigh := by
    rw [(ht.aside n).1]; exact ⟨rfl, rfl⟩
  rw [hs.cond (by decide), hs.masked, hs.stationCfg] at hlow hhigh
  rw [hs.cond (by decide), hs.masked, hpin] at hlhigh
  rw [hpin] at hllow hlevels
  refine ⟨?_, ?_, ?_, ?_, ?_⟩
  · rw [ht.cond (by decide), hf]; exact hlow
  · rw [ht.cond (by decide), hf]; exact hhigh
  · rw [ht.cond (by decide)]; exact hllow
  · rw [ht.cond (by decide)]; exact hlhigh
  · exact ⟨hlev.1.trans hlevels.1, hlev.2.trans hlevels.2⟩

/-- SPREAD is judged by the settings, of `u`, and the temperatures, of `t`. -/
theorem State.spreadPresent_iff_of (h1 : 1 ≤ n) (h16 : n ≤ 16) (hb : s.isBath n = true) (hst : s.cfg.stations = u.cfg.stations)
    (hline : s.cfg.line = u.cfg.line) (ht : s.temps = t.temps) : s.spreadPresent n = true ↔
    ∃ x, (t.bath n).filtered = some x ∧ t.cond n .probeFault = false ∧ ∃ m ∈ u.groupStations (u.group n),
      ∃ y, (t.bath m).filtered = some y ∧ t.cond m .probeFault = false ∧ y + (u.stationCfg n).spreadLimit < x := by
  have hhealthy (m x : Nat) : ((s.bath m).filtered = some x ∧ s.cond m .probeFault = false) ↔
      ((t.bath m).filtered = some x ∧ t.cond m .probeFault = false) := by
    have hm : s.healthyTemp m = t.healthyTemp m := congrFun ht m
    rw [and_comm, ← State.healthyTemp_iff, hm, State.healthyTemp_iff, and_comm]
  have hgroups : s.groupStations (s.group n) = u.groupStations (u.group n) := by
    unfold State.groupStations State.stations State.isBath State.role State.group State.configured State.stationCfg
    rw [hst, hline]
  have hcfg : s.stationCfg n = u.stationCfg n := by unfold State.stationCfg; rw [hst]
  rw [State.spreadPresent_iff h1 h16 hb, hgroups, hcfg]
  constructor
  · rintro ⟨x, hx, hxc, m, hm, y, hy, hyc, hlt⟩
    obtain ⟨hx', hxc'⟩ := (hhealthy n x).mp ⟨hx, hxc⟩
    obtain ⟨hy', hyc'⟩ := (hhealthy m y).mp ⟨hy, hyc⟩
    exact ⟨x, hx', hxc', m, hm, y, hy', hyc', hlt⟩
  · rintro ⟨x, hx, hxc, m, hm, y, hy, hyc, hlt⟩
    obtain ⟨hx', hxc'⟩ := (hhealthy n x).mpr ⟨hx, hxc⟩
    obtain ⟨hy', hyc'⟩ := (hhealthy m y).mpr ⟨hy, hyc⟩
    exact ⟨x, hx', hxc', m, hm, y, hy', hyc', hlt⟩

/-! ### Presence and flow -/

theorem State.samplePresence_presence (h1 : 1 ≤ n) (hn : n ≤ s.baths.length) :
    ((s.samplePresence n).bath n).presence = (s.pin n).presence := by
  have hbath : (s.samplePresence n).bath n = (s.sampled n).bath n := by
    rw [State.bath, (s.samplePresence_departs n).baths, State.bath]
  rw [hbath, State.sampled, State.bath_setBath_same _ _ h1 hn]

/-- Every station's presence is what its switch shows (R2). -/
theorem State.samplePresences_presence (hlen : s.baths.length = 16) (h1 : 1 ≤ n) (h16 : n ≤ 16) :
    (s.samplePresences.bath n).presence = (s.pin n).presence := by
  obtain ⟨-, hmem, -⟩ := State.turn_of_station (n := n) (R := fun a b : State => b.pins = a.pins ∧ b.baths.length = a.baths.length)
    (fun _ => ⟨rfl, rfl⟩) (fun _ _ _ h h' => ⟨h'.1.trans h.1, h'.2.trans h.2⟩) (f := State.samplePresence)
    (allStations_sorted.imp fun h => Nat.ne_of_lt h)
    (fun u m hm => (u.bath_samplePresence m n).elim id fun h => (hm h.1.symm).elim)
    (fun u m => ⟨(u.samplePresence_departs m).pins, (u.afloat_samplePresence m).length⟩) s
  obtain ⟨u, ⟨hpins, hulen⟩, -, hend⟩ := hmem (mem_allStations.mpr ⟨h1, h16⟩)
  have hpin : u.pin n = s.pin n := by unfold State.pin; rw [hpins]
  rw [State.samplePresences, hend, State.samplePresence_presence h1 (by rw [hulen, hlen]; exact h16), hpin]

end

/-! ### The whole second -/

section
variable {order : List SecondTask} {s t : State} {n : Nat}

/-- A line second is a run of acts, whatever its order. -/
theorem State.secondActs (order : List SecondTask) (s : State) :
    s.Acts { plans := true, starts := true } ((taskOrder order).foldl State.doTurn s) :=
  s.acts_doTurns rfl fun _ => rfl

theorem State.foldActs (tasks : List SecondTask) (s : State) :
    s.Acts { plans := true, starts := true } (tasks.foldl State.doTurn s) :=
  s.acts_doTurns rfl fun _ => rfl

theorem State.length_doTurns {tasks : List SecondTask} : (tasks.foldl State.doTurn s).baths.length = s.baths.length := by
  refine doTurns_keep (P := fun u => u.baths.length = s.baths.length) (fun task _ u hu => ?_) rfl
  have hturn : (u.doTask task).turn.baths = (u.doTask task).baths := (State.works_turn _).baths
  rw [State.doTurn, hturn]
  by_cases hb : task = .bath
  · rw [hb]; exact u.watches_watchBaths.length.trans hu
  · exact (u.afloat_doTask hb).length.trans hu

/-- Each station's presence is that of its switch as the second ends (R2). -/
theorem State.second_presence (hlen : s.baths.length = 16) (h1 : 1 ≤ n) (h16 : n ≤ 16) :
    (((taskOrder order).foldl State.doTurn s).bath n).presence = (s.pin n).presence := by
  obtain ⟨pre, post, heq, -, hpost⟩ := taskOrder_split (mem_taskOrder_of_mandatory (x := .presence) (by decide) order)
  have hpins := (State.foldActs pre s).pins
  have hlength := State.length_doTurns (s := s) (tasks := pre)
  rw [heq, List.foldl_append, List.foldl_cons, State.presence_doTurns hpost]
  generalize pre.foldl State.doTurn s = u at hpins hlength
  have hturn : (u.doTurn .presence).baths = u.samplePresences.baths := (State.works_turn _).baths
  have hpin : u.pin n = s.pin n := by unfold State.pin; rw [hpins]
  rw [State.bath, hturn, ← hpin]
  exact State.samplePresences_presence (hlength.trans hlen) h1 h16

/-- A run of the pump stays with its flow read, or stops (R140). -/
theorem State.second_pump {q : PumpRun} (hq : ((taskOrder order).foldl State.doTurn s).pump = some q) :
    ∃ p, s.pump = some p ∧ q = { p with flowSeen := p.flowSeen || s.pins.flowOk } := by
  obtain ⟨pre, post, heq, hpre, hpost⟩ := taskOrder_split (mem_taskOrder_of_mandatory (x := .pump) (by decide) order)
  have hpins := (State.foldActs pre s).pins
  have hbefore := State.pump_doTurns (s := s) hpre
  rw [heq, List.foldl_append, List.foldl_cons] at hq
  generalize pre.foldl State.doTurn s = u at hpins hbefore hq
  have hturn : (u.doTurn .pump).pump = u.pump.map fun p => { p with flowSeen := p.flowSeen || u.pins.flowOk } :=
    (State.works_turn _).pump.trans ((congrArg State.pump u.readPumpAndGas_eq).trans rfl)
  rcases State.pump_doTurns (s := u.doTurn .pump) hpost with hafter | hafter
  · rw [hafter] at hq; cases hq
  · rw [hafter, hturn, Option.map_eq_some_iff] at hq
    obtain ⟨p, hp, rfl⟩ := hq
    rcases hbefore with hn | hn
    · rw [hn] at hp; cases hp
    · exact ⟨p, hn.symm.trans hp, by rw [hpins]⟩

/-- The Bath Monitor's work of a second at a station, with the other blocks' before and after it. -/
theorem State.second_bath (hlen : s.baths.length = 16) (h1 : 1 ≤ n) (h16 : n ≤ 16) (hb : s.isBath n = true) :
    ∃ a b, s.Afloat a ∧ a.pin n = s.pin n ∧ a.isBath n = true ∧ State.Watched n a b ∧ a.Noted n b ∧ a.cfg = b.cfg ∧
      a.cfg.line = s.cfg.line ∧ b.Afloat ((taskOrder order).foldl State.doTurn s) := by
  obtain ⟨pre, post, heq, hpre, hpost⟩ := taskOrder_split (mem_taskOrder_of_mandatory (x := .bath) (by decide) order)
  have hacts := State.foldActs pre s
  have hafloat := State.afloat_doTurns (s := s) hpre
  rw [heq, List.foldl_append, List.foldl_cons]
  generalize pre.foldl State.doTurn s = u at hacts hafloat
  have hline : u.cfg.line = s.cfg.line := by rw [hacts.cfg_kept rfl]
  have hbath : u.isBath n = true := by
    have hsame : u.isBath n = s.isBath n := by
      unfold State.isBath State.role State.configured State.stationCfg
      rw [hafloat.stations, hline]
    rw [hsame]; exact hb
  obtain ⟨hwatched, hnoted⟩ := State.watched_watchBaths (s := u) (hafloat.length.trans hlen) h1 h16 hbath
  have hafter : u.watchBaths.Afloat (post.foldl State.doTurn (u.doTurn .bath)) :=
    (State.works_turn u.watchBaths).dry.afloat.trans (State.afloat_doTurns hpost)
  exact ⟨u, u.watchBaths, hafloat, by unfold State.pin; rw [hacts.pins], hbath, hwatched, hnoted,
    u.watches_watchBaths.cfg.symm, hline, hafter⟩

/-- What a line second leaves of one station that holds a bath. -/
structure State.SecondAt (n : Nat) (s t : State) : Prop where
  noticed : State.Noticed n s t
  read : State.Read n s t
  spread : t.cond n .spread = true ↔ (s.masked n .spread = false ∨ s.cond n .spread = true) ∧
    ∃ x, (t.bath n).filtered = some x ∧ t.cond n .probeFault = false ∧ ∃ m ∈ s.groupStations (s.group n),
      ∃ y, (t.bath m).filtered = some y ∧ t.cond m .probeFault = false ∧ y + (s.stationCfg n).spreadLimit < x
  exhausted : t.cond n .exhausted = true ↔ (s.stationCfg n).exhLimit ≤ (t.bath n).exhaustion
  noted : s.Noted n t

theorem State.second_at (hlen : s.baths.length = 16) (h1 : 1 ≤ n) (h16 : n ≤ 16) (hb : s.isBath n = true)
    (ht : t = ((taskOrder order).foldl State.doTurn s).drive) : State.SecondAt n s t := by
  obtain ⟨a, b, hsa, hpin, hab, hwatched, hnoted, hcfg, hline, hbt⟩ := State.second_bath (order := order) hlen h1 h16 hb
  generalize (taskOrder order).foldl State.doTurn s = v at ht hbt
  have hdrive := v.drive_eq
  rw [← ht] at hdrive
  have hvt : v.Afloat t := .of_baths (by rw [hdrive]) (by rw [hdrive]) (by rw [hdrive]) (by rw [hdrive])
  have hafter := hbt.trans hvt
  obtain ⟨hread, hflagged, hspread⟩ := hwatched
  refine ⟨hflagged.noticed hsa hafter hpin, ?_, ?_, ?_, (hsa.noted n).trans (hnoted.trans (hafter.noted n))⟩
  · exact (hread.before (hsa.stationCfg n) hpin (hsa.aside n).sampling (hsa.cond (by decide) n)).after (hafter.aside n).sampling
      (hafter.cond (by decide) n)
  · rw [hafter.cond (by decide), masked_flag_iff hspread, hsa.masked, hsa.cond (by decide)]
    have hbb : b.isBath n = true := by rw [State.isBath_of_cfg hcfg.symm]; exact hab
    rw [State.spreadPresent_iff_of (s := b) (u := s) (t := t) h1 h16 hbb (by rw [← hcfg]; exact hsa.stations)
      (by rw [← hcfg]; exact hline) hafter.temps.symm]
  · have hjudged : b.cond n .exhausted = true ↔ (b.stationCfg n).exhLimit ≤ (b.bath n).exhaustion := by
      have hsame : b.stationCfg n = a.stationCfg n := by unfold State.stationCfg; rw [hcfg]
      rw [hflagged.exhausted, decide_eq_true_iff, hsame]
    have hlimit : t.stationCfg n = s.stationCfg n := by
      have hsame : b.stationCfg n = a.stationCfg n := by unfold State.stationCfg; rw [hcfg]
      rw [hafter.stationCfg, hsame, hsa.stationCfg]
    rw [← hlimit]
    exact hafter.exhausted hjudged

end

/-- Settles O7. -/
theorem lineSecondSamplesEveryStation : Obligations.LineSecondSamplesEveryStation := by
  unfold Obligations.LineSecondSamplesEveryStation
  intro order inp s hrun hlen
  refine ⟨_, exec_second hrun, ?_⟩
  have hacts := State.secondActs order (s.latch inp).tock
  have hpresence (n : Nat) := State.second_presence (order := order) (s := (s.latch inp).tock) (n := n) hlen
  have hpump (q : PumpRun) := State.second_pump (order := order) (s := (s.latch inp).tock) (q := q)
  have hat (n : Nat) (h1 : 1 ≤ n) (h16 : n ≤ 16) (hb : s.isBath n = true) :=
    State.second_at (order := order) (s := (s.latch inp).tock) (n := n) hlen h1 h16 hb rfl
  have hdrive := ((taskOrder order).foldl State.doTurn (s.latch inp).tock).drive_eq
  generalize (taskOrder order).foldl State.doTurn (s.latch inp).tock = v at hacts hpresence hpump hat hdrive
  generalize v.drive = t at hat hdrive
  have hclock : t.clock = v.clock := by rw [hdrive]
  have htpins : t.pins = v.pins := by rw [hdrive]
  have htcfg : t.cfg = v.cfg := by rw [hdrive]
  have hcfg := hacts.cfg_kept rfl
  have hpin (n : Nat) : t.pin n = (s.latch inp).tock.pin n := by unfold State.pin; rw [htpins, hacts.pins]
  refine ⟨hclock.trans hacts.clock, htpins.trans hacts.pins, by rw [htcfg, hcfg]; rfl, by rw [htcfg, hcfg]; rfl, fun q hq => ?_,
    fun n h1 h16 => ⟨?_, fun hb => ?_⟩⟩
  · exact hpump q (by rw [hdrive] at hq; exact hq)
  · have hbath : t.bath n = v.bath n := by rw [hdrive]; rfl
    rw [hbath, hpresence n h1 h16, hpin]
  · obtain ⟨⟨hlow, hhigh, hllow, hlhigh, hlevels⟩, hread, hspread, hexhausted, hnoted⟩ := hat n h1 h16 hb
    obtain ⟨hraw, hvalid, hinvalid, hzero, haccepted, hrejected⟩ := hread
    rw [← hpin n] at hllow hlhigh hlevels hraw hvalid hinvalid hzero haccepted hrejected
    refine ⟨?_, ?_, hspread, ?_, hexhausted, fun fl hfl hs ht => ?_, hraw, hvalid, hlevels.1, hlevels.2, hllow, hinvalid,
      fun hx => ⟨hzero hx, fun hacc => ?_, fun y hy hjump hrej => ?_⟩⟩
    · rw [masked_flag_iff hlow, tempLowPresent_iff]; rfl
    · rw [masked_flag_iff hhigh, tempHighPresent_iff]; rfl
    · rw [masked_flag_iff hlhigh]; rfl
    · have hne : fl ≠ .exhUnknown := by
        rcases hfl with h | h | h | h | h | h | h <;> rw [h] <;> decide
      obtain ⟨hlatch, slot, tag, hposted⟩ := hnoted.noted fl hne hs ht
      refine ⟨hlatch, slot, tag, ?_⟩
      rw [hclock, hacts.clock]
      exact hposted
    · exact haccepted hx (Bath.accepts_iff.mpr hacc)
    · refine hrejected hx (Bool.eq_false_iff.mpr fun hacc => ?_)
      rcases Bath.accepts_iff.mp hacc y hy with h | h
      · exact absurd h (not_le.mpr hjump)
      · exact absurd h (not_le.mpr hrej)

end Sys2Proof.Machine
end

section
/-! PROOFS. The end of a rack at a station, and what is settled for the line with it (4.4, 4.5, 6.11, 9.4, 9.5). -/

namespace Sys2Proof.Machine

section
variable {s t x : State} {k n m : Nat} {r : Rack}

/-! ### What the end of a rack brings about for the line (R112, R149) -/

theorem State.leaveEvacuation_evacOrder (s : State) (k : Nat) :
    (s.leaveEvacuation k).evacOrder = s.evacOrder.filter (· != k) := by
  unfold State.leaveEvacuation
  split
  · simp only
    split
    · exact State.post_evacOrder _ _ _ _ _ _
    · rfl
  · next h =>
    refine (List.filter_eq_self.mpr fun j hj => ?_).symm
    simp only [List.contains_iff_mem] at h
    simpa using fun hjk : j = k => h (hjk ▸ hj)

theorem State.judgeRecovery_evacOrder (s : State) : s.judgeRecovery.evacOrder = s.evacOrder := by
  unfold State.judgeRecovery
  split
  · rw [State.enterLine_frame]
  · rfl

theorem State.judgeDrain_evacOrder (s : State) : s.judgeDrain.evacOrder = s.evacOrder := by
  unfold State.judgeDrain
  split
  · rw [State.enterLine_frame]; rfl
  · rfl

theorem State.settleLine_evacOrder (s : State) (k : Nat) : (s.settleLine k).evacOrder = s.evacOrder.filter (· != k) := by
  rw [State.settleLine, State.judgeDrain_evacOrder, State.judgeRecovery_evacOrder, State.leaveEvacuation_evacOrder]

/-- The evacuation order that empties is announced (R112). -/
theorem State.settleLine_evacuationDone (h : s.evacOrder = [k]) :
    s.posted (s.settleLine k) .evacuationDone 0 255 0 0 := by
  have hleave : s.leaveEvacuation k = State.postLine { s with evacOrder := s.evacOrder.filter (· != k) } .evacuationDone 0 0 := by
    unfold State.leaveEvacuation
    rw [h]
    simp
  have hdone : s.posted (s.leaveEvacuation k) .evacuationDone 0 255 0 0 := by
    rw [hleave]
    exact State.posted_post rfl
  exact hdone.of_prefix ((State.settled_judgeRecovery _).trans (State.settled_judgeDrain _)).posts

theorem State.someRack_congr {p q : Rack → Bool} (hs : t.slots = s.slots) (hpq : ∀ r, q r = p r) :
    t.someRack q = s.someRack p := by
  have hracks : t.racks = s.racks := by
    unfold State.racks
    rw [show t.rack = s.rack from funext fun k => State.rack_congr hs k]
  unfold State.someRack
  rw [hracks]
  exact congrArg _ (funext fun e => hpq e.2)

theorem State.countsForDrain_of_cfg (h : t.cfg = s.cfg) (r : Rack) : t.countsForDrain r = s.countsForDrain r := by
  unfold State.countsForDrain State.standsInBath
  rw [State.isBath_of_cfg h]

theorem State.remains_of_cfg (h : t.cfg = s.cfg) (r : Rack) : t.remains r = s.remains r := by
  unfold State.remains State.standsInBath
  rw [State.isBath_of_cfg h]

/-- While the line drains only the end of the drain is to be settled. -/
theorem State.settleLine_of_draining (h : s.line.state = .draining) :
    s.settleLine k = (s.leaveEvacuation k).judgeDrain := by
  have hline : (s.leaveEvacuation k).line = s.line := by rw [State.leaveEvacuation_frame]
  have hrecovery : (s.leaveEvacuation k).judgeRecovery = s.leaveEvacuation k := by
    simp [State.judgeRecovery, State.recoverable, hline, h]
  rw [State.settleLine, hrecovery]

/-- A drain goes on while a rack counts for it (R149). -/
theorem State.settleLine_drains (h : s.line.state = .draining) (hc : s.someRack s.countsForDrain = true) :
    (s.settleLine k).line = s.line := by
  have hframe := s.leaveEvacuation_frame k
  rw [State.settleLine_of_draining h]
  generalize s.leaveEvacuation k = u at hframe
  have hcount : u.someRack u.countsForDrain = true := by
    rw [State.someRack_congr (s := s) (by rw [hframe]) (State.countsForDrain_of_cfg (by rw [hframe]))]; exact hc
  rw [State.judgeDrain, hcount, if_neg (by simp), hframe]

/-- A drain ends in its target when no rack counts for it (R149). -/
theorem State.settleLine_drained (h : s.line.state = .draining) (hc : s.someRack s.countsForDrain = false) :
    (s.settleLine k).line.state = s.line.drainTarget.getD .standby ∧ (s.settleLine k).line.drainTarget = none ∧
      s.posted (s.settleLine k) .lineState 0 255 0 ((s.line.drainTarget.getD .standby).code * 256 + 3) := by
  have hframe := s.leaveEvacuation_frame k
  rw [State.settleLine_of_draining h]
  generalize s.leaveEvacuation k = u at hframe
  have hcount : u.someRack u.countsForDrain = false := by
    rw [State.someRack_congr (s := s) (by rw [hframe]) (State.countsForDrain_of_cfg (by rw [hframe]))]; exact hc
  have hline : u.line = s.line := by rw [hframe]
  have hclock : u.clock = s.clock := by rw [hframe]
  have hjudge : u.judgeDrain = (u.setDrainTarget none).enterLine (s.line.drainTarget.getD .standby) .drainDone := by
    rw [State.judgeDrain, if_pos ⟨by rw [hline]; exact h, hcount⟩, hline]
  have hposted := (State.enterLine_posted (s := u.setDrainTarget none) (s.line.drainTarget.getD .standby) .drainDone).of_clock hclock
  rw [hjudge]
  refine ⟨?_, ?_, hposted⟩
  · rw [State.enterLine_line]; rfl
  · rw [State.enterLine_line]; rfl

/-- With the fault cleared, the line stays FAULTED while a rack remains, and returns to READY when none does (R112). -/
theorem State.settleLine_recovers (h : s.line.state = .faulted) (hc : s.driver.faultCleared = true) :
    (s.someRack s.remains = true → (s.settleLine k).line = s.line ∧ (s.settleLine k).driver = s.driver) ∧
    (s.someRack s.remains = false → (s.settleLine k).line.state = .ready ∧
      s.posted (s.settleLine k) .lineState 0 255 0 (3 * 256 + 5)) := by
  have hframe := s.leaveEvacuation_frame k
  rw [State.settleLine]
  generalize s.leaveEvacuation k = u at hframe
  have hremains : u.someRack u.remains = s.someRack s.remains :=
    State.someRack_congr (by rw [hframe]) (State.remains_of_cfg (by rw [hframe]))
  have hline : u.line = s.line := by rw [hframe]
  have hdriver : u.driver = s.driver := by rw [hframe]
  have hclock : u.clock = s.clock := by rw [hframe]
  constructor
  · intro hleft
    have hrecovery : u.judgeRecovery = u := by simp [State.judgeRecovery, State.recoverable, hremains, hleft]
    have hdrain : u.judgeDrain = u := by simp [State.judgeDrain, hline, h]
    rw [hrecovery, hdrain]
    exact ⟨hline, hdriver⟩
  · intro hnone
    have hrecovery : u.judgeRecovery = u.enterLine .ready .recovered := by
      rw [State.judgeRecovery, if_pos]
      simp [State.recoverable, hline, h, hdriver, hc, hremains, hnone]
    have hready : (u.enterLine .ready .recovered).line.state = .ready := by rw [State.enterLine_line]; rfl
    have hdrain : (u.enterLine .ready .recovered).judgeDrain = u.enterLine .ready .recovered := by
      rw [State.judgeDrain, hready]; simp
    rw [hrecovery, hdrain]
    exact ⟨hready, (State.enterLine_posted .ready .recovered).of_clock hclock⟩

/-! ### The end of the rack of one slot (R59, R72) -/

/-- The rack of slot `k`, which stood at a station, is gone: its slot is free, or the rack awaits its report. -/
structure State.Gone (s x : State) (k : Nat) : Prop where
  line : x.line = s.line
  faultCleared : x.driver.faultCleared = s.driver.faultCleared
  evacOrder : x.evacOrder = s.evacOrder
  cfg : x.cfg = s.cfg
  clock : x.clock = s.clock
  pins : x.pins = s.pins
  baths : x.baths = s.baths
  posts : s.events <+: x.events
  completions : s.completions <+: x.completions
  held : ∃ r, s.rack k = some r ∧ r.station ≠ 0
  other : ∀ j, j ≠ k → x.rack j = s.rack j
  own : x.rack k = none ∨ ∃ q, x.rack k = some q ∧ q.phase = .awaitingReport ∧ q.station = 0

theorem State.gone_rackEnds (h : s.rack k = some r) (hst : r.station ≠ 0) (n : Nat) (outcome : RackOutcome) :
    s.Gone (s.rackEnds k n r outcome) k := by
  have hframe := s.rackEnds_eq k n r outcome
  have hforget := s.forgetRack_eq k r
  have hcompletions := s.rackEnds_completions (k := k) (n := n) (r := r) (outcome := outcome)
  have hother (j : Nat) (hj : j ≠ k) := s.rackEnds_rack_other (n := n) (r := r) (outcome := outcome) hj
  have hended := State.rackEnds_ended (n := n) (outcome := outcome) h
  generalize s.rackEnds k n r outcome = x at *
  refine ⟨by rw [hframe, hforget], by rw [hframe, hforget]; rfl, by rw [hframe, hforget], by rw [hframe, hforget],
    by rw [hframe, hforget], by rw [hframe, hforget], by rw [hframe, hforget], ?_, hcompletions, ⟨r, h, hst⟩, hother, ?_⟩
  · rw [hframe]
    exact s.events_prefix_post _ _ _ _ _
  · rcases hended with ⟨hnone, -⟩ | ⟨-, q, hq, hphase, hstation, -⟩
    · exact .inl hnone
    · exact .inr ⟨q, hq, hphase, hstation⟩

theorem State.gone_orphanEnds (h : s.rack k = some r) (hst : r.station ≠ 0) (n : Nat) : s.Gone (s.orphanEnds k n r) k := by
  have hframe := s.orphanEnds_eq k n r
  have hforget := s.forgetRack_eq k r
  have hother (j : Nat) (hj : j ≠ k) := s.orphanEnds_rack_other (n := n) (r := r) hj
  have hsame := s.orphanEnds_rack_same (k := k) (n := n) (r := r)
  generalize s.orphanEnds k n r = x at *
  refine ⟨by rw [hframe, hforget], by rw [hframe, hforget]; rfl, by rw [hframe, hforget], by rw [hframe, hforget],
    by rw [hframe, hforget], by rw [hframe, hforget], by rw [hframe, hforget], ?_, ?_, ⟨r, h, hst⟩, hother, .inl hsame⟩
  · rw [hframe]
    exact s.events_prefix_post _ _ _ _ _
  · rw [hframe, hforget]

/-- A fall of presence ends the rack at the station, or nothing. -/
theorem State.presenceFall_cases (s : State) (n : Nat) : s.presenceFall n = s ∨
    ∃ x k r, s.rackAt n = some (k, r) ∧ s.Gone x k ∧ s.presenceFall n = x.settleLine k := by
  unfold State.presenceFall
  split
  · exact .inl rfl
  · split
    · next k r hat =>
      obtain ⟨-, hrack, hst, hn⟩ := State.rack_of_rackAt hat
      have hgone (outcome : RackOutcome) : ∃ x k' r', s.rackAt n = some (k', r') ∧ s.Gone x k' ∧
          s.endRack k n outcome = x.settleLine k' :=
        ⟨_, k, r, hat, State.gone_rackEnds hrack (hst ▸ hn) n outcome, State.endRack_eq hrack⟩
      split
      · exact .inr (hat ▸ hgone _)
      · exact .inr (hat ▸ hgone _)
      · exact .inr (hat ▸ hgone _)
      · exact .inr ⟨_, k, r, hat, State.gone_orphanEnds hrack (hst ▸ hn) n, State.endOrphan_eq hrack⟩
      · exact .inl rfl
      · exact .inl rfl
    · exact .inl rfl

/-- A presence sample takes the sample alone, or ends a rack that stands there. -/
theorem State.samplePresence_cases (s : State) (n : Nat) : s.samplePresence n = s.sampled n ∨
    ∃ x k r, s.rackAt n = some (k, r) ∧ (s.sampled n).Gone x k ∧ s.samplePresence n = x.settleLine k := by
  by_cases h : (s.bath n).presence = false ∨ (s.pin n).presence = true
  · exact .inl (State.samplePresence_of_stay h)
  · simp only [not_or, Bool.not_eq_false, Bool.not_eq_true] at h
    rw [State.samplePresence_of_fall h.1 h.2]
    exact (s.sampled n).presenceFall_cases n

end

end Sys2Proof.Machine
end

section
/-! PROOFS. A line second up to the fall of presence that ends a rack, and after it (4.4). -/

namespace Sys2Proof.Machine

section
variable {s t u : State} {k n m : Nat} {r q : Rack}

/-! ### What the other pieces leave -/

/-- What every piece but the presence samples and the carriage's step leaves of the part: the racks as they stand, the
completion queue, the evacuation order, the presence samples, the line but for a warm-up that ends. -/
structure State.Aloof (s t : State) : Prop where
  clock : t.clock = s.clock
  pins : t.pins = s.pins
  cfg : t.cfg = s.cfg
  evacOrder : t.evacOrder = s.evacOrder
  completions : t.completions = s.completions
  faultCleared : t.driver.faultCleared = s.driver.faultCleared
  posts : s.events <+: t.events
  drainTarget : t.line.drainTarget = s.line.drainTarget
  state : s.line.state ≠ .warmup → t.line.state = s.line.state
  presence : ∀ n, (t.bath n).presence = (s.bath n).presence
  racks : ∀ k, Option.Rel Rack.Tended (s.rack k) (t.rack k)

theorem State.Aloof.trans (h : s.Aloof t) (h' : t.Aloof u) : s.Aloof u where
  clock := h'.clock.trans h.clock
  pins := h'.pins.trans h.pins
  cfg := h'.cfg.trans h.cfg
  evacOrder := h'.evacOrder.trans h.evacOrder
  completions := h'.completions.trans h.completions
  faultCleared := h'.faultCleared.trans h.faultCleared
  posts := h.posts.trans h'.posts
  drainTarget := h'.drainTarget.trans h.drainTarget
  state hs := (h'.state (by rw [h.state hs]; exact hs)).trans (h.state hs)
  presence n := (h'.presence n).trans (h.presence n)
  racks k := option_rel_trans (P := Rack.Tended) (fun _ _ _ h h' => h.trans h') (h.racks k) (h'.racks k)

theorem racks_tended_of_slots (h : t.slots = s.slots) (k : Nat) : Option.Rel Rack.Tended (s.rack k) (t.rack k) := by
  rw [State.rack_congr h]
  cases s.rack k
  · exact .none
  · exact .some (Rack.Tended.refl _)

theorem State.Works.aloof {R : Nat → Rack → Rack → Prop} (h : s.Works R t) (hR : ∀ k a b, R k a b → a.Tended b) :
    s.Aloof t where
  clock := h.clock
  pins := h.pins
  cfg := h.cfg
  evacOrder := h.evacOrder
  completions := h.completions
  faultCleared := h.faultCleared
  posts := h.posts
  drainTarget := congrArg _ h.line
  state _ := congrArg _ h.line
  presence n := by rw [State.bath, h.baths, State.bath]
  racks k := option_rel_mono (hR k) (h.racks k)

theorem State.Works.aloof_of_eq (h : s.Works (fun _ => Eq) t) : s.Aloof t :=
  h.aloof fun _ a _ h => h ▸ Rack.Tended.refl a

theorem State.Watches.aloof (h : s.Watches t) : s.Aloof t where
  clock := h.clock
  pins := h.pins
  cfg := h.cfg
  evacOrder := h.evacOrder
  completions := h.completions
  faultCleared := by rw [h.driver]
  posts := h.posts
  drainTarget := congrArg _ h.line
  state _ := congrArg _ h.line
  presence := h.presence
  racks := racks_tended_of_slots h.slots

theorem State.aloof_judgeWarmup (s : State) : s.Aloof s.judgeWarmup := by
  have hframe := s.judgeWarmup_eq
  have hposts := s.judgeWarmup_posts
  have hstate (hs : s.line.state ≠ .warmup) : s.judgeWarmup.line.state = s.line.state := by
    rw [State.judgeWarmup_of_other hs]
  generalize s.judgeWarmup = t at hframe hposts hstate
  exact ⟨by rw [hframe], by rw [hframe], by rw [hframe], by rw [hframe], by rw [hframe], by rw [hframe], hposts,
    by rw [hframe], hstate, fun n => by rw [hframe]; rfl, racks_tended_of_slots (by rw [hframe])⟩

theorem State.aloof_readPumpAndGas (s : State) : s.Aloof s.readPumpAndGas := by
  have hframe := s.readPumpAndGas_eq
  have hposts := s.readPumpAndGas_posts
  generalize s.readPumpAndGas = t at hframe hposts
  exact ⟨by rw [hframe], by rw [hframe], by rw [hframe], by rw [hframe], by rw [hframe], by rw [hframe], hposts,
    by rw [hframe], fun _ => by rw [hframe], fun n => by rw [hframe]; rfl, racks_tended_of_slots (by rw [hframe])⟩

theorem State.aloof_doTurn {task : SecondTask} (hp : task ≠ .presence) (hc : task ≠ .carriage) : s.Aloof (s.doTurn task) := by
  have hdevelop : s.Aloof s.developAll := s.works_developAll.aloof fun _ _ _ => id
  refine State.Aloof.trans (t := s.doTask task) ?_ (State.works_turn _).aloof_of_eq
  cases task with
  | presence => exact (hp rfl).elim
  | bath => exact s.watches_watchBaths.aloof
  | develop => exact hdevelop
  | retry => exact hdevelop.trans (s.developAll.works_retryAll.aloof fun _ _ _ => Rack.Replanned.tended)
  | warmup => exact s.aloof_judgeWarmup
  | pump => exact s.aloof_readPumpAndGas
  | expiry => exact s.works_examineAll.aloof_of_eq
  | carriage => exact (hc rfl).elim

/-! ### The rack that stands at the station -/

theorem State.rackAt_iff (hn : n ≠ 0) : s.rackAt n = some (k, r) ↔
    k < 24 ∧ s.rack k = some r ∧ r.station = n ∧ ∀ j x, j < k → s.rack j = some x → x.station ≠ n := by
  rw [State.rackAt, if_neg hn, State.find_racks]
  simp

/-- The rack `r` of slot `k`, tended since, stands at station `n`, whose presence is about to fall. -/
structure State.Stands (n k : Nat) (r : Rack) (c : Nat) (w : State) : Prop where
  clock : w.clock = c
  role : w.role n ≠ .unused
  presence : (w.bath n).presence = true
  pin : (w.pin n).presence = false
  at' : ∃ q, r.Tended q ∧ w.rackAt n = some (k, q)

theorem Rack.Tended.station (h : r.Tended q) : q.station = r.station := by rw [h]
theorem Rack.Tended.phase (h : r.Tended q) : q.phase = r.phase := by rw [h]

theorem State.Aloof.stands (h : s.Aloof t) (hn : n ≠ 0) {c : Nat} (hs : s.Stands n k r c) : t.Stands n k r c := by
  obtain ⟨hclock, hrole, hpresence, hpin, q, hq, hat⟩ := hs
  obtain ⟨hk, hrack, hst, hlow⟩ := (State.rackAt_iff hn).mp hat
  refine ⟨h.clock.trans hclock, ?_, (h.presence n).trans hpresence, ?_, ?_⟩
  · unfold State.role State.configured State.stationCfg at hrole ⊢
    rw [h.cfg]; exact hrole
  · unfold State.pin at hpin ⊢
    rw [h.pins]; exact hpin
  · have hrel := h.racks k
    rw [hrack] at hrel
    generalize hx : t.rack k = x at hrel
    cases hrel with
    | some hq' =>
      refine ⟨_, hq.trans hq', (State.rackAt_iff hn).mpr ⟨hk, hx, hq'.station.trans hst, fun j y hj hy => ?_⟩⟩
      have hrelj := h.racks j
      rw [hy] at hrelj
      generalize hz : s.rack j = z at hrelj
      cases hrelj with
      | some hy' => rw [hy'.station]; exact hlow j _ hj hz

theorem State.settled_rack (h : s.Settled t) (j : Nat) : t.rack j = s.rack j := State.rack_congr h.slots j

theorem State.Departs.cfg (h : s.Departs t) : ∃ live, t.cfg = { s.cfg with live := live } := by
  cases h with | mk live => exact ⟨live, rfl⟩

/-- A presence sample of another station leaves the rack where it stands. -/
theorem State.stands_samplePresence (hn : n ≠ 0) (hm : m ≠ n) {c : Nat} (hs : s.Stands n k r c) :
    (s.samplePresence m).Stands n k r c := by
  obtain ⟨hclock, hrole, hpresence, hpin, q, hq, hat⟩ := hs
  have hdeparts := s.samplePresence_departs m
  obtain ⟨live, hlive⟩ := hdeparts.cfg
  have hbath := (s.bath_samplePresence m n).resolve_right fun h => hm h.1.symm
  refine ⟨hdeparts.clock.trans hclock, ?_, by rw [hbath]; exact hpresence, ?_, q, hq, ?_⟩
  · unfold State.role State.configured State.stationCfg at hrole ⊢
    rw [hlive]; exact hrole
  · have hpins : (s.samplePresence m).pins = s.pins := hdeparts.pins
    unfold State.pin at hpin ⊢
    rw [hpins]; exact hpin
  · rcases s.samplePresence_cases m with h | ⟨x, k', r', hat', hgone, h⟩
    · rw [h]; exact hat
    · obtain ⟨hk, hrack, hst, hlow⟩ := (State.rackAt_iff hn).mp hat
      obtain ⟨hk', hrack', hst', hm0⟩ := State.rack_of_rackAt hat'
      have hsettled (j : Nat) : (x.settleLine k').rack j = x.rack j := State.settled_rack (x.settled_settleLine k') j
      have hne : k ≠ k' := by
        rintro rfl
        rw [hrack] at hrack'
        cases hrack'
        exact hm (hst'.symm.trans hst)
      rw [h]
      refine (State.rackAt_iff hn).mpr ⟨hk, (hsettled k).trans ((hgone.other k hne).trans hrack), hst, fun j y hj hy => ?_⟩
      rw [hsettled] at hy
      by_cases hjk : j = k'
      · rw [hjk] at hy
        rcases hgone.own with hnone | ⟨p, hp, -, hp0⟩
        · rw [hnone] at hy; cases hy
        · rw [hp] at hy
          cases hy
          rw [hp0]
          exact Ne.symm hn
      · exact hlow j y hj ((hgone.other j hjk).symm.trans hy)

/-! ### What a fall of presence brings about -/

/-- What is known before the fall, `P`, and what the fall brings about, `D`, over the work of a line second: neither is
disturbed by the other blocks, a rack that ends elsewhere leaves `P` or brings about `D`, and the fall itself brings it about. -/
structure Falls (n k : Nat) (r : Rack) (c : Nat) (P D : State → Prop) : Prop where
  before : ∀ {w w'}, State.Aloof w w' → P w → P w'
  after : ∀ {w w'}, State.Aloof w w' → D w → D w'
  sampledBefore : ∀ w m, P w → P (State.sampled w m)
  sampledAfter : ∀ w m, D w → D (State.sampled w m)
  other : ∀ {w x j}, State.Gone w x j → j ≠ k → P w → P (x.settleLine j) ∨ D (x.settleLine j)
  ended : ∀ {w x j}, State.Gone w x j → D w → D (x.settleLine j)
  fall : ∀ {w}, State.Stands n k r c w → P w ∨ D w → D (w.samplePresence n)

theorem Falls.after_sample {c : Nat} {P D : State → Prop} (h : Falls n k r c P D) {w : State} (hd : D w) (m : Nat) :
    D (w.samplePresence m) := by
  rcases w.samplePresence_cases m with hw | ⟨x, j, _, -, hgone, hw⟩
  · rw [hw]; exact h.sampledAfter w m hd
  · rw [hw]; exact h.ended hgone (h.sampledAfter w m hd)

theorem Falls.before_sample {c : Nat} {P D : State → Prop} (h : Falls n k r c P D) (hn : n ≠ 0) {w : State}
    (hs : w.Stands n k r c) (hm : m ≠ n) (hp : P w ∨ D w) : P (w.samplePresence m) ∨ D (w.samplePresence m) := by
  rcases hp with hp | hd
  · rcases w.samplePresence_cases m with hw | ⟨x, j, y, hat, hgone, hw⟩
    · rw [hw]; exact .inl (h.sampledBefore w m hp)
    · rw [hw]
      refine h.other hgone ?_ (h.sampledBefore w m hp)
      rintro rfl
      obtain ⟨q, -, hatn⟩ := hs.at'
      obtain ⟨-, hrack, hst, -⟩ := (State.rackAt_iff hn).mp hatn
      obtain ⟨-, hrack', hst', -⟩ := State.rack_of_rackAt hat
      rw [hrack] at hrack'
      cases hrack'
      exact hm (hst'.symm.trans hst)
  · exact .inr (h.after_sample hd m)

/-- The presence samples of a second bring about what the fall brings about. -/
theorem Falls.samplePresences {c : Nat} {P D : State → Prop} (h : Falls n k r c P D) (h1 : 1 ≤ n) (h16 : n ≤ 16) {w : State}
    (hs : w.Stands n k r c) (hp : P w) : D w.samplePresences := by
  have hn : n ≠ 0 := by omega
  obtain ⟨l₁, l₂, heq⟩ := List.append_of_mem (mem_allStations.mpr ⟨h1, h16⟩)
  have hsorted : (l₁ ++ n :: l₂).Pairwise (· < ·) := heq ▸ allStations_sorted
  have hl₁ : ∀ m ∈ l₁, m ≠ n := fun m hm =>
    Nat.ne_of_lt ((List.pairwise_append.mp hsorted).2.2 m hm n List.mem_cons_self)
  have hfirst (l : List Nat) : ∀ v : State, v.Stands n k r c → (P v ∨ D v) → (∀ m ∈ l, m ≠ n) →
      (l.foldl State.samplePresence v).Stands n k r c ∧
        (P (l.foldl State.samplePresence v) ∨ D (l.foldl State.samplePresence v)) := by
    induction l with
    | nil => exact fun _ hv hpv _ => ⟨hv, hpv⟩
    | cons m l ih =>
      intro v hv hpv hne
      have hm := hne m List.mem_cons_self
      exact ih _ (State.stands_samplePresence hn hm hv) (h.before_sample hn hv hm hpv)
        fun j hj => hne j (List.mem_cons_of_mem m hj)
  have hlast (l : List Nat) : ∀ v : State, D v → D (l.foldl State.samplePresence v) := by
    induction l with
    | nil => exact fun _ hv => hv
    | cons m l ih => exact fun v hv => ih _ (h.after_sample hv m)
  obtain ⟨hstands, hpd⟩ := hfirst l₁ w hs (.inl hp) hl₁
  rw [State.samplePresences, heq, List.foldl_append, List.foldl_cons]
  exact hlast l₂ _ (h.fall hstands hpd)

/-- A line second without a step of the carriage brings about what the fall brings about. -/
theorem Falls.second {c : Nat} {P D : State → Prop} (h : Falls n k r c P D) (h1 : 1 ≤ n) (h16 : n ≤ 16) {order : List SecondTask}
    (hc : .carriage ∉ order) {w : State} (hs : w.Stands n k r c) (hp : P w) : D ((taskOrder order).foldl State.doTurn w) := by
  have hn : n ≠ 0 := by omega
  obtain ⟨pre, post, heq, hpre, hpost⟩ := taskOrder_split (mem_taskOrder_of_mandatory (x := .presence) (by decide) order)
  have hcarriage : .carriage ∉ pre ++ .presence :: post := by rw [← heq, carriage_mem_taskOrder]; exact hc
  rw [List.mem_append, List.mem_cons, not_or, not_or] at hcarriage
  obtain ⟨hcpre, -, hcpost⟩ := hcarriage
  rw [heq, List.foldl_append, List.foldl_cons]
  have hbefore := doTurns_keep (P := fun v => v.Stands n k r c ∧ P v) (tasks := pre) (fun task ht v hv =>
    have hal := State.aloof_doTurn (s := v) (fun h' => hpre (h' ▸ ht)) (fun h' => hcpre (h' ▸ ht))
    ⟨hal.stands hn hv.1, h.before hal hv.2⟩) ⟨hs, hp⟩
  refine doTurns_keep (P := D) (fun task ht v hv =>
    h.after (State.aloof_doTurn (fun h' => hpost (h' ▸ ht)) (fun h' => hcpost (h' ▸ ht))) hv) ?_
  exact h.after (State.works_turn _).aloof_of_eq (h.samplePresences h1 h16 hbefore.1 hbefore.2)

end

end Sys2Proof.Machine
end

section
/-! PROOFS. What a fall of presence brings about for the rack, the evacuation order and the line (4.4, 4.8, 6.11, 9.4, 9.5). -/

namespace Sys2Proof.Machine

section
variable {s t v w x : State} {k n m c : Nat} {r q : Rack} {outcome : RackOutcome}

/-- The phases in which a fall of presence ends the rack at the station. -/
def Rack.Falling (r : Rack) : Prop :=
  r.phase = .atUnload ∨ r.phase = .waitingEntry ∨ r.phase = .inBath ∨ r.phase = .orphan

/-- The outcome with which a fall of presence ends a rack (R60 to R63). -/
def Rack.FallsWith (r : Rack) (outcome : RackOutcome) : Prop :=
  (r.phase = .atUnload ∧ outcome = if r.pending = .none then .complete else r.pending) ∨
    (r.phase = .waitingEntry ∧ outcome = .withdrawn) ∨ (r.phase = .inBath ∧ outcome = .lost)

/-! ### The sample alone -/

theorem State.sampled_rack (w : State) (m j : Nat) : (w.sampled m).rack j = w.rack j := State.rack_congr rfl j
theorem State.sampled_role (w : State) (m n : Nat) : (w.sampled m).role n = w.role n := rfl
theorem State.sampled_isBath (w : State) (m n : Nat) : (w.sampled m).isBath n = w.isBath n := rfl

theorem State.sampled_rackAt (w : State) (m n : Nat) : (w.sampled m).rackAt n = w.rackAt n := by
  unfold State.rackAt State.racks
  rw [show (w.sampled m).rack = w.rack from funext (w.sampled_rack m)]

/-! ### The fall itself -/

theorem State.presenceFall_of_ended (hrole : s.role n ≠ .unused) (hat : s.rackAt n = some (k, r))
    (ho : r.FallsWith outcome) : s.presenceFall n = (s.rackEnds k n r outcome).settleLine k := by
  obtain ⟨-, hrack, -, -⟩ := State.rack_of_rackAt hat
  unfold State.presenceFall
  rw [if_neg hrole, hat]
  rcases ho with ⟨hp, rfl⟩ | ⟨hp, rfl⟩ | ⟨hp, rfl⟩
  · simp only [hp]; exact State.endRack_eq hrack
  · simp only [hp]; exact State.endRack_eq hrack
  · simp only [hp]; exact State.endRack_eq hrack

theorem State.presenceFall_of_orphan (hrole : s.role n ≠ .unused) (hat : s.rackAt n = some (k, r))
    (hp : r.phase = .orphan) : s.presenceFall n = (s.orphanEnds k n r).settleLine k := by
  obtain ⟨-, hrack, -, -⟩ := State.rack_of_rackAt hat
  unfold State.presenceFall
  rw [if_neg hrole, hat]
  simp only [hp]
  exact State.endOrphan_eq hrack

theorem Rack.Falling.cases (h : r.Falling) : (∃ outcome, r.FallsWith outcome) ∨ r.phase = .orphan := by
  rcases h with h | h | h | h
  · exact .inl ⟨_, .inl ⟨h, rfl⟩⟩
  · exact .inl ⟨_, .inr (.inl ⟨h, rfl⟩)⟩
  · exact .inl ⟨_, .inr (.inr ⟨h, rfl⟩)⟩
  · exact .inr h

theorem Rack.Tended.fallsWith (h : r.Tended q) (ho : r.FallsWith outcome) : q.FallsWith outcome := by
  rw [h]; exact ho

theorem State.Stands.sample (h : w.Stands n k r c) : w.samplePresence n = (w.sampled n).presenceFall n :=
  State.samplePresence_of_fall h.presence h.pin

/-- The fall at the station of a rack with an outcome is the end of that rack and what is settled with it. -/
theorem State.Stands.ends (h : w.Stands n k r c) (ho : r.FallsWith outcome) : ∃ q, r.Tended q ∧ w.rack k = some q ∧
    (w.sampled n).Gone ((w.sampled n).rackEnds k n q outcome) k ∧
    w.samplePresence n = ((w.sampled n).rackEnds k n q outcome).settleLine k := by
  obtain ⟨q, hq, hat⟩ := h.at'
  obtain ⟨-, hrack, hst, hn⟩ := State.rack_of_rackAt hat
  refine ⟨q, hq, hrack, State.gone_rackEnds ((w.sampled_rack n k).trans hrack) (hst ▸ hn) n outcome, ?_⟩
  rw [h.sample]
  exact State.presenceFall_of_ended h.role ((w.sampled_rackAt n n).trans hat) (hq.fallsWith ho)

theorem State.Stands.orphan_ends (h : w.Stands n k r c) (hp : r.phase = .orphan) : ∃ q, w.rack k = some q ∧
    (w.sampled n).Gone ((w.sampled n).orphanEnds k n q) k ∧
    w.samplePresence n = ((w.sampled n).orphanEnds k n q).settleLine k := by
  obtain ⟨q, hq, hat⟩ := h.at'
  obtain ⟨-, hrack, hst, hn⟩ := State.rack_of_rackAt hat
  refine ⟨q, hrack, State.gone_orphanEnds ((w.sampled_rack n k).trans hrack) (hst ▸ hn) n, ?_⟩
  rw [h.sample]
  exact State.presenceFall_of_orphan h.role ((w.sampled_rackAt n n).trans hat) (hq.phase.trans hp)

/-- The fall frees the slot or lets the rack await its report, and settles the line. -/
theorem State.Stands.gone (h : w.Stands n k r c) (hf : r.Falling) :
    ∃ x, (w.sampled n).Gone x k ∧ w.samplePresence n = x.settleLine k := by
  rcases hf.cases with ⟨outcome, ho⟩ | hp
  · obtain ⟨q, -, -, hgone, heq⟩ := h.ends ho
    exact ⟨_, hgone, heq⟩
  · obtain ⟨q, -, hgone, heq⟩ := h.orphan_ends hp
    exact ⟨_, hgone, heq⟩

/-- What the end of the rack brings about for the line is brought about by the fall of its presence. -/
theorem Falls.of_gone {P D : State → Prop} (hf : r.Falling)
    (before : ∀ {w w'}, State.Aloof w w' → P w → P w')
    (after : ∀ {w w'}, State.Aloof w w' → D w → D w')
    (sampledBefore : ∀ w m, P w → P (State.sampled w m))
    (sampledAfter : ∀ w m, D w → D (State.sampled w m))
    (other : ∀ {w x j}, State.Gone w x j → j ≠ k → P w → P (x.settleLine j) ∨ D (x.settleLine j))
    (ended : ∀ {w x j}, State.Gone w x j → D w → D (x.settleLine j))
    (own : ∀ {w x}, State.Gone w x k → P w → D (x.settleLine k)) : Falls n k r c P D where
  before := before
  after := after
  sampledBefore := sampledBefore
  sampledAfter := sampledAfter
  other := other
  ended := ended
  fall {w} hs hpd := by
    obtain ⟨x, hgone, heq⟩ := hs.gone hf
    rw [heq]
    rcases hpd with hp | hd
    · exact own hgone (sampledBefore w n hp)
    · exact ended hgone (sampledAfter w n hd)

theorem State.posted.aloof {e : EventKind} {a b d f : Nat} (h : v.posted w e a b d f) (hal : w.Aloof t) :
    v.posted t e a b d f := h.of_prefix hal.posts

/-- What the end of a rack and its settlement leave of the event queue. -/
theorem State.Gone.posts_settled (h : w.Gone x k) : w.events <+: (x.settleLine k).events :=
  h.posts.trans (x.settled_settleLine k).posts

/-! ### The evacuation order that empties (R112) -/

theorem falls_evacuation (hf : r.Falling) (hv : v.clock = c) :
    Falls n k r c (fun w => w.clock = c ∧ w.evacOrder = [k]) (fun w => w.evacOrder = [] ∧ v.posted w .evacuationDone 0 255 0 0) :=
  .of_gone hf
    (fun hal h => ⟨hal.clock.trans h.1, hal.evacOrder.trans h.2⟩)
    (fun hal h => ⟨hal.evacOrder.trans h.1, h.2.aloof hal⟩)
    (fun _ _ h => h)
    (fun _ _ h => h)
    (fun {w x j} hg hj h => .inl ⟨(x.departs_settleLine j).clock.trans (hg.clock.trans h.1), by
      rw [State.settleLine_evacOrder, hg.evacOrder, h.2]; simpa using Ne.symm hj⟩)
    (fun {w x j} hg h => ⟨by rw [State.settleLine_evacOrder, hg.evacOrder, h.1]; rfl, h.2.of_prefix hg.posts_settled⟩)
    (fun {w x} hg h => ⟨by rw [State.settleLine_evacOrder, hg.evacOrder, h.2]; simp,
      (State.settleLine_evacuationDone (hg.evacOrder.trans h.2)).of_clock (hg.clock.trans (h.1.trans hv.symm))⟩)

/-! ### The racks that hold the line -/

/-- No rack but that of slot `k` satisfies a test. -/
def State.NoOther (w : State) (k : Nat) (p : State → Rack → Bool) : Prop := ∀ j q, j < 24 → j ≠ k → w.rack j = some q → p w q = false

/-- The test looks at where a rack stands, in what phase, and at the stations that hold a bath; a rack awaiting its report
does not satisfy it. -/
structure HoldTest (p : State → Rack → Bool) : Prop where
  congr : ∀ {w t : State} {q y : Rack}, (∀ m, t.isBath m = w.isBath m) → y.phase = q.phase → y.station = q.station → p t y = p w q
  awaiting : ∀ {w : State} {q : Rack}, q.phase = .awaitingReport → q.station = 0 → p w q = false

theorem holdTest_countsForDrain : HoldTest State.countsForDrain where
  congr hb hp hs := by unfold State.countsForDrain State.standsInBath; rw [hp, hs, hb]
  awaiting hp _ := by unfold State.countsForDrain; rw [hp]

theorem holdTest_remains : HoldTest State.remains where
  congr hb hp hs := by unfold State.remains State.standsInBath; rw [hp, hs, hb]
  awaiting hp hs := by unfold State.remains State.standsInBath; rw [hp, hs, State.isBath_zero]; rfl

variable {p : State → Rack → Bool}

theorem HoldTest.aloof (hp : HoldTest p) (hal : w.Aloof t) (h : w.NoOther k p) : t.NoOther k p := fun j q h24 hj hq => by
  have hrel := hal.racks j
  rw [hq] at hrel
  generalize hy : w.rack j = y at hrel
  cases hrel with
  | some htended =>
    exact (hp.congr (State.isBath_of_cfg hal.cfg) htended.phase htended.station).trans (h j _ h24 hj hy)

theorem HoldTest.sampled (hp : HoldTest p) (m : Nat) (h : w.NoOther k p) : (w.sampled m).NoOther k p := fun j q h24 hj hq =>
  (hp.congr (w := w) (t := w.sampled m) (fun _ => rfl) rfl rfl).trans (h j q h24 hj ((w.sampled_rack m j).symm.trans hq))

/-- The end of a rack lets no other rack hold the line. -/
theorem HoldTest.gone {j : Nat} (hp : HoldTest p) (hg : w.Gone x j) (h : w.NoOther k p) : x.NoOther k p := fun i q h24 hi hq => by
  by_cases hij : i = j
  · rw [hij] at hq
    rcases hg.own with hnone | ⟨y, hy, hphase, hst⟩
    · rw [hnone] at hq; cases hq
    · rw [hy] at hq
      cases hq
      exact hp.awaiting hphase hst
  · exact (hp.congr (State.isBath_of_cfg hg.cfg) rfl rfl).trans (h i q h24 hi ((hg.other i hij).symm.trans hq))

theorem HoldTest.settle {j : Nat} (hp : HoldTest p) (h : x.NoOther k p) : (x.settleLine j).NoOther k p := fun i q h24 hi hq => by
  obtain ⟨live, hcfg⟩ := (x.departs_settleLine j).cfg
  refine (hp.congr (fun m => ?_) rfl rfl).trans (h i q h24 hi ((State.settled_rack (x.settled_settleLine j) i).symm.trans hq))
  unfold State.isBath State.role State.configured State.stationCfg
  rw [hcfg]

/-- Once the rack of slot `k` is gone too, no rack holds the line. -/
theorem HoldTest.none (hp : HoldTest p) (hg : w.Gone x k) (h : w.NoOther k p) : x.someRack (p x) = false := by
  refine Bool.eq_false_iff.mpr fun hsome => ?_
  obtain ⟨⟨j, q⟩, hmem, htrue⟩ := State.someRack_iff.mp hsome
  obtain ⟨h24, hq⟩ := State.mem_racks.mp hmem
  have hfalse : p x q = false := by
    by_cases hj : j = k
    · rw [hj] at hq
      rcases hg.own with hnone | ⟨y, hy, hphase, hst⟩
      · rw [hnone] at hq; cases hq
      · rw [hy] at hq
        cases hq
        exact hp.awaiting hphase hst
    · exact hp.gone hg h j q h24 hj hq
  rw [hfalse] at htrue
  cases htrue

/-! ### The drain that ends (R149) -/

/-- The line drains to `target`, and but for the rack of slot `k` none counts. -/
structure State.Draining (w : State) (k c : Nat) (target : Option LineState) : Prop where
  clock : w.clock = c
  state : w.line.state = .draining
  target : w.line.drainTarget = target
  others : w.NoOther k State.countsForDrain

/-- The line has entered `st` with a passage posted, and no drain target. -/
structure State.Entered (v w : State) (st : LineState) (cause : Nat) : Prop where
  state : w.line.state = st
  target : st ≠ .ready → w.line.drainTarget = none
  posted : v.posted w .lineState 0 255 0 (st.code * 256 + cause)

theorem State.Entered.aloof {st : LineState} {cause : Nat} (hw : st ≠ .warmup) (h : v.Entered w st cause) (hal : w.Aloof t) :
    v.Entered t st cause where
  state := (hal.state (by rw [h.state]; exact hw)).trans h.state
  target hst := hal.drainTarget.trans (h.target hst)
  posted := h.posted.aloof hal

theorem State.Entered.gone {st : LineState} {cause j : Nat} (hd : st ≠ .draining) (hf : st ≠ .faulted) (h : v.Entered w st cause)
    (hg : w.Gone x j) : v.Entered (x.settleLine j) st cause := by
  have hstate : x.line.state = st := by rw [hg.line]; exact h.state
  have hline : (x.settleLine j).line = w.line :=
    ((x.departs_settleLine j).line (by rw [hstate]; exact hd) (by rw [hstate]; exact hf)).1.trans hg.line
  exact ⟨by rw [hline]; exact h.state, fun hst => by rw [hline]; exact h.target hst, h.posted.of_prefix hg.posts_settled⟩

theorem falls_drain {target : Option LineState} (hf : r.Falling) (hv : v.clock = c)
    (ht : target = none ∨ target = some .standby ∨ target = some .dormant) :
    Falls n k r c (fun w => w.Draining k c target) (fun w => v.Entered w (target.getD .standby) 3) := by
  have hne : target.getD .standby ≠ .warmup ∧ target.getD .standby ≠ .draining ∧ target.getD .standby ≠ .faulted := by
    rcases ht with rfl | rfl | rfl
    · exact ⟨by decide, by decide, by decide⟩
    · exact ⟨by decide, by decide, by decide⟩
    · exact ⟨by decide, by decide, by decide⟩
  obtain ⟨hwarm, hdrain, hfault⟩ := hne
  have hended {w x : State} {j : Nat} (hg : w.Gone x j) (h : w.Draining k c target) (hc : x.someRack x.countsForDrain = false) :
      v.Entered (x.settleLine j) (target.getD .standby) 3 := by
    obtain ⟨hst, htarget, hposted⟩ := State.settleLine_drained (k := j) (by rw [hg.line]; exact h.state) hc
    rw [hg.line, h.target] at hst hposted
    exact ⟨hst, fun _ => htarget, hposted.of_clock (hg.clock.trans (h.clock.trans hv.symm))⟩
  refine .of_gone hf
    (fun hal h => ⟨hal.clock.trans h.clock, (hal.state (by rw [h.state]; decide)).trans h.state, hal.drainTarget.trans h.target,
      holdTest_countsForDrain.aloof hal h.others⟩)
    (fun hal h => h.aloof hwarm hal)
    (fun w m h => ⟨h.clock, h.state, h.target, holdTest_countsForDrain.sampled m h.others⟩)
    (fun w m h => ⟨h.state, h.target, h.posted⟩)
    (fun {w x j} hg hj h => ?_)
    (fun hg h => h.gone hdrain hfault hg)
    (fun {w x} hg h => hended hg h (holdTest_countsForDrain.none hg h.others))
  by_cases hc : x.someRack x.countsForDrain = true
  · have hline : (x.settleLine j).line = w.line := (State.settleLine_drains (by rw [hg.line]; exact h.state) hc).trans hg.line
    exact .inl ⟨(x.departs_settleLine j).clock.trans (hg.clock.trans h.clock), by rw [hline]; exact h.state,
      by rw [hline]; exact h.target, holdTest_countsForDrain.settle (holdTest_countsForDrain.gone hg h.others)⟩
  · exact .inr (hended hg h (Bool.eq_false_iff.mpr hc))

/-! ### The return from FAULTED (R112) -/

/-- The line is FAULTED with the fault cleared, and but for the rack of slot `k` none remains. -/
structure State.Clearing (w : State) (k c : Nat) : Prop where
  clock : w.clock = c
  state : w.line.state = .faulted
  cleared : w.driver.faultCleared = true
  others : w.NoOther k State.remains

theorem falls_recovery (hf : r.Falling) (hv : v.clock = c) :
    Falls n k r c (fun w => w.Clearing k c) (fun w => v.Entered w .ready 5) := by
  have hended {w x : State} {j : Nat} (hg : w.Gone x j) (h : w.Clearing k c) (hc : x.someRack x.remains = false) :
      v.Entered (x.settleLine j) .ready 5 := by
    obtain ⟨-, hnone⟩ := State.settleLine_recovers (k := j) (by rw [hg.line]; exact h.state)
      (hg.faultCleared.trans h.cleared)
    obtain ⟨hst, hposted⟩ := hnone hc
    exact ⟨hst, fun h => (h rfl).elim, hposted.of_clock (hg.clock.trans (h.clock.trans hv.symm))⟩
  refine .of_gone hf
    (fun hal h => ⟨hal.clock.trans h.clock, (hal.state (by rw [h.state]; decide)).trans h.state,
      hal.faultCleared.trans h.cleared, holdTest_remains.aloof hal h.others⟩)
    (fun hal h => h.aloof (by decide) hal)
    (fun w m h => ⟨h.clock, h.state, h.cleared, holdTest_remains.sampled m h.others⟩)
    (fun w m h => ⟨h.state, h.target, h.posted⟩)
    (fun {w x j} hg hj h => ?_)
    (fun hg h => h.gone (by decide) (by decide) hg)
    (fun {w x} hg h => hended hg h (holdTest_remains.none hg h.others))
  by_cases hc : x.someRack x.remains = true
  · obtain ⟨hleft, -⟩ := State.settleLine_recovers (k := j) (by rw [hg.line]; exact h.state) (hg.faultCleared.trans h.cleared)
    obtain ⟨hline, hdriver⟩ := hleft hc
    exact .inl ⟨(x.departs_settleLine j).clock.trans (hg.clock.trans h.clock), by rw [hline, hg.line]; exact h.state,
      by rw [hdriver, hg.faultCleared]; exact h.cleared, holdTest_remains.settle (holdTest_remains.gone hg h.others)⟩
  · exact .inr (hended hg h (Bool.eq_false_iff.mpr hc))

/-! ### The rack that ends (R59 to R63, R72) -/

theorem State.rackEnded.tended (h : v.rackEnded w k r outcome) (hc : w.completions <+: t.completions)
    (hr : Option.Rel Rack.Tended (w.rack k) (t.rack k)) : v.rackEnded t k r outcome := by
  rcases h with ⟨hnone, y, hy, hrecord⟩ | ⟨hfull, q, hq, hphase, hst, htag, hout, hend⟩
  · rw [hnone] at hr
    generalize ht : t.rack k = z at hr
    cases hr
    exact .inl ⟨ht, y, hc.subset hy, hrecord⟩
  · rw [hq] at hr
    generalize ht : t.rack k = z at hr
    cases hr with
    | some hz =>
      exact .inr ⟨hfull.trans hc.length_le, _, ht, hz.phase.trans hphase, hz.station.trans hst, by rw [hz]; exact htag,
        by rw [hz]; exact hout, by rw [hz]; exact hend⟩

/-- A rack that ends later is not the one that has ended. -/
theorem State.Gone.ne_of_ended {j : Nat} (hg : w.Gone x j) (h : v.rackEnded w k r outcome) : k ≠ j := by
  rintro rfl
  obtain ⟨q, hq, hst⟩ := hg.held
  rcases h with ⟨hnone, -⟩ | ⟨-, y, hy, -, hy0, -⟩
  · rw [hnone] at hq; cases hq
  · rw [hy] at hq; cases hq; exact hst hy0

theorem racks_tended_of_eq (h : t.rack k = w.rack k) : Option.Rel Rack.Tended (w.rack k) (t.rack k) := by
  rw [h]
  cases w.rack k
  · exact .none
  · exact .some (Rack.Tended.refl _)

theorem State.Gone.rack_settled {j : Nat} (hg : w.Gone x j) (hk : k ≠ j) : (x.settleLine j).rack k = w.rack k :=
  (State.settled_rack (x.settled_settleLine j) k).trans (hg.other k hk)

theorem State.Gone.completions_settled {j : Nat} (hg : w.Gone x j) : w.completions <+: (x.settleLine j).completions :=
  hg.completions.trans (x.departs_settleLine j).completions

theorem Rack.Tended.rackEnded (h : r.Tended q) (he : w.rackEnded t k q outcome) (hv : v.clock = w.clock) :
    v.rackEnded t k r outcome := by
  rw [h] at he
  unfold State.rackEnded at he ⊢
  rw [hv]
  exact he

theorem falls_rack (ho : r.FallsWith outcome) (hv : v.clock = c) : Falls n k r c (fun _ => True)
    (fun w => v.rackEnded w k r outcome ∧ v.posted w .rackRemoved n k r.tag outcome.code) where
  before _ _ := trivial
  after hal h := ⟨h.1.tended (by rw [hal.completions]) (hal.racks k), h.2.aloof hal⟩
  sampledBefore _ _ _ := trivial
  sampledAfter w m h := ⟨h.1.tended List.prefix_rfl (racks_tended_of_eq (w.sampled_rack m k)), h.2⟩
  other _ _ _ := .inl trivial
  ended hg h := ⟨h.1.tended hg.completions_settled (racks_tended_of_eq (hg.rack_settled (hg.ne_of_ended h.1))),
    h.2.of_prefix hg.posts_settled⟩
  fall {w} hs _ := by
    obtain ⟨q, hq, hrack, hgone, heq⟩ := hs.ends ho
    have hended := State.rackEnds_ended (n := n) (outcome := outcome) ((w.sampled_rack n k).trans hrack)
    have hposted := State.rackEnds_posted (s := w.sampled n) (k := k) (n := n) (r := q) (outcome := outcome)
    generalize (w.sampled n).rackEnds k n q outcome = x at hgone heq hended hposted
    have hclock : v.clock = (w.sampled n).clock := hv.trans hs.clock.symm
    have hsettled := x.departs_settleLine k
    rw [heq]
    refine ⟨?_, ?_⟩
    · exact (hq.rackEnded hended hclock).tended hsettled.completions
        (racks_tended_of_eq (State.settled_rack (x.settled_settleLine k) k))
    · have htag : q.tag = r.tag := by rw [hq]
      rw [htag] at hposted
      exact (hposted.of_prefix hsettled.posts).of_clock hclock.symm

theorem falls_orphan (ho : r.phase = .orphan) (hv : v.clock = c) : Falls n k r c (fun _ => True)
    (fun w => w.rack k = none ∧ v.posted w .rackRemoved n k 0 0) where
  before _ _ := trivial
  after {w w'} hal h := ⟨by
    have hrel := hal.racks k
    rw [h.1] at hrel
    generalize w'.rack k = z at hrel
    cases hrel
    rfl, h.2.aloof hal⟩
  sampledBefore _ _ _ := trivial
  sampledAfter w m h := ⟨(w.sampled_rack m k).trans h.1, h.2⟩
  other _ _ _ := .inl trivial
  ended {w x j} hg h := by
    have hk : k ≠ j := by
      rintro rfl
      obtain ⟨q, hq, -⟩ := hg.held
      rw [h.1] at hq
      cases hq
    exact ⟨(hg.rack_settled hk).trans h.1, h.2.of_prefix hg.posts_settled⟩
  fall {w} hs _ := by
    obtain ⟨q, hrack, hgone, heq⟩ := hs.orphan_ends ho
    have hnone := State.orphanEnds_rack_same (s := w.sampled n) (k := k) (n := n) (r := q)
    have hposted := State.orphanEnds_posted (s := w.sampled n) (k := k) (n := n) (r := q)
    generalize (w.sampled n).orphanEnds k n q = x at hgone heq hnone hposted
    have hclock : v.clock = (w.sampled n).clock := hv.trans hs.clock.symm
    rw [heq]
    exact ⟨(State.settled_rack (x.settled_settleLine k) k).trans hnone,
      (hposted.of_prefix (x.departs_settleLine k).posts).of_clock hclock.symm⟩

end

/-- Settles O9. -/
theorem presenceFallEndsTheRack : Obligations.PresenceFallEndsTheRack := by
  unfold Obligations.PresenceFallEndsTheRack
  intro order inp s k n r hrun hk h1 h16 hrole hat hpresence hpin hcarriage
  refine ⟨_, exec_second hrun, ?_⟩
  have hpin' : ((s.latch inp).tock.pin n).presence = false := by
    obtain ⟨m, rfl⟩ : ∃ m, n = m + 1 := ⟨n - 1, by omega⟩
    exact hpin
  have hstands : ((s.latch inp).tock).Stands n k r (s.latch inp).tock.clock :=
    ⟨rfl, hrole, hpresence, hpin', r, Rack.Tended.refl r, hat⟩
  have hsecond {P D : State → Prop} (h : Falls n k r (s.latch inp).tock.clock P D) (hp : P (s.latch inp).tock) :
      D ((taskOrder order).foldl State.doTurn (s.latch inp).tock) := h.second h1 h16 hcarriage hstands hp
  have hacts := State.secondActs order (s.latch inp).tock
  have hdrive := ((taskOrder order).foldl State.doTurn (s.latch inp).tock).drive_eq
  generalize (taskOrder order).foldl State.doTurn (s.latch inp).tock = w at hsecond hacts hdrive
  have hclock : w.drive.clock = (s.latch inp).tock.clock := by rw [hdrive]; exact hacts.clock
  have hposted {e : EventKind} {a b c d : Nat} (h : (s.latch inp).tock.posted w e a b c d) :
      (⟨w.drive.clock, e, a, b, c, d⟩ : Event) ∈ w.drive.events ∨ 64 ≤ w.drive.events.length := by
    rw [hclock, hdrive]; exact h
  have hothers {p : State → Rack → Bool} (h : ∀ e ∈ s.racks, e.1 ≠ k → p (s.latch inp).tock e.2 = false) :
      ((s.latch inp).tock).NoOther k p := fun j q h24 hj hq =>
    h (j, q) (State.mem_racks.mpr ⟨h24, hq⟩) hj
  refine ⟨fun hf => ⟨fun hevac => ?_, fun hst ht hc => ?_, fun hst hcl hrem => ?_⟩, fun outcome ho => ?_, fun ho => ?_⟩
  · obtain ⟨hempty, hdone⟩ := hsecond (falls_evacuation hf rfl) ⟨rfl, hevac⟩
    exact ⟨by rw [hdrive]; exact hempty, hposted hdone⟩
  · have hentered := hsecond (falls_drain hf rfl ht) ⟨rfl, hst, rfl, hothers hc⟩
    have hready : s.line.drainTarget.getD .standby ≠ .ready := by
      rcases ht with h | h | h
      · rw [h]; decide
      · rw [h]; decide
      · rw [h]; decide
    exact ⟨by rw [hdrive]; exact hentered.state, by rw [hdrive]; exact hentered.target hready, hposted hentered.posted⟩
  · have hnone : ∀ e ∈ s.racks, e.1 ≠ k → State.remains (s.latch inp).tock e.2 = false := fun e he hek => by
      obtain ⟨hbath, hphase⟩ := hrem e he hek
      have hstands : (s.latch inp).tock.standsInBath e.2 = false := hbath
      simp [State.remains, hstands, hphase]
    have hentered := hsecond (falls_recovery hf rfl) ⟨rfl, hst, hcl, hothers hnone⟩
    exact ⟨by rw [hdrive]; exact hentered.state, hposted hentered.posted⟩
  · obtain ⟨hended, hremoved⟩ := hsecond (falls_rack ho rfl) trivial
    refine ⟨?_, hposted hremoved⟩
    unfold State.rackEnded at hended
    rw [hclock, hdrive]
    exact hended
  · obtain ⟨hnone, hremoved⟩ := hsecond (falls_orphan ho rfl) trivial
    exact ⟨by rw [hdrive]; exact hnone, hposted hremoved⟩

end Sys2Proof.Machine
end

section
/-! PROOFS. Chains that are booked (5.5), and the Driver that turns to the first entry (6.2). -/

namespace Sys2Proof.Machine

section
variable {s t u : State} {k n first : Nat} {r : Rack} {c : Cursor}

/-! ### Chains that are booked (R89) -/

theorem State.bookChain_eq (s : State) (k first : Nat) (c : Cursor) : s.bookChain k first c =
    (State.bookPlans { s with deferred := s.deferred.filter (·.slot != k) } k first c).noteStart k := rfl

theorem State.bookPlans_schedule (s : State) (k first : Nat) (c : Cursor) : (s.bookPlans k first c).schedule =
    c.entries.foldl (fun l m => insertEntry m l) (dropBooked k s.schedule) := by
  rw [State.bookPlans_eq]

theorem State.mem_bookPlans_timeline (h1 : 1 ≤ n) (hn : n ≤ s.timelines.length) {iv : Interval} :
    iv ∈ (s.bookPlans k first c).timeline n ↔
      (iv ∈ s.timeline n ∧ (iv.slot ≠ k ∨ iv.step < first)) ∨ (n, iv) ∈ c.stays := by
  rw [State.bookPlans, State.timeline_addIntervals _ _ h1 (by simpa [State.removeStaysFrom, State.mapTimelines] using hn),
    (insertIntervals_perm _ _).mem_iff, List.mem_append, mem_staysIn, State.removeStaysFrom,
    State.timeline_mapTimelines _ _ rfl, List.mem_filter, or_comm]
  simp only [State.timeline, Bool.not_and, Bool.or_eq_true, Bool.not_eq_true', beq_eq_false_iff_ne, decide_eq_false_iff_not, not_le]

/-- The planned start a booking writes is the last it changes (R53). -/
theorem State.noteStart_eq (h : s.rack k = some r) :
    s.noteStart k = { s with slots := s.slots.set k (some { r with nextStart := nextStartIn s.schedule k }) } := by
  unfold State.noteStart State.modifyRack
  rw [h]
  rfl

/-- The booking of a chain books the chain and does nothing else (R89). -/
theorem State.onlyBooked_bookChain (h : s.rack k = some r) (c : Cursor) : s.onlyBooked (s.bookChain k r.step c) k r c := by
  have hbook := State.bookPlans_eq { s with deferred := s.deferred.filter (·.slot != k) } k r.step c
  have htimeline {n : Nat} (h1 : 1 ≤ n) (hn : n ≤ s.timelines.length) {iv : Interval} := State.mem_bookPlans_timeline
    (s := { s with deferred := s.deferred.filter (·.slot != k) }) (k := k) (first := r.step) (c := c) (iv := iv) h1 hn
  rw [State.bookChain_eq]
  generalize State.bookPlans { s with deferred := s.deferred.filter (·.slot != k) } k r.step c = w at hbook htimeline
  have hslots : w.slots = s.slots := by rw [hbook]
  have hschedule : w.schedule = c.entries.foldl (fun l m => insertEntry m l) (dropBooked k s.schedule) := by rw [hbook]
  have hdeferred : w.deferred = s.deferred.filter (fun x => x.slot != k) := by rw [hbook]
  have hrack : w.rack k = some r := (State.rack_congr hslots k).trans h
  rw [State.noteStart_eq hrack, hslots]
  refine ⟨⟨fun m => ?_, hdeferred, fun n h1 hn iv => htimeline h1 hn, fun q hq => ?_⟩, ?_⟩
  · show m ∈ w.schedule ↔ _
    rw [hschedule, (insertEntries_perm _ _).mem_iff, List.mem_append, mem_dropBooked, or_comm]
  · have hset : (s.setRack k { r with nextStart := nextStartIn w.schedule k }).rack k =
        some { r with nextStart := nextStartIn w.schedule k } := State.rack_setRack_same _ _ (State.rack_lt h)
    have hq' : (s.setRack k { r with nextStart := nextStartIn w.schedule k }).rack k = some q :=
      (State.rack_congr rfl k).trans hq
    rw [hset] at hq'
    cases hq'
    rfl
  · rw [hbook]

/-! ### The walk of a rack on the line (R83, R90) -/

theorem State.placeRack_of_ok {evac : Bool} (h : s.rack k = some r)
    (hw : s.walk (if evac then s.evacTrip k r else s.replaceTrip k r) (s.cursorOf k r) (addSec s.clock 1) = .ok c) :
    s.placeRack k evac = some (s.bookChain k r.step c) := by
  unfold State.placeRack
  simp only [h, hw]

theorem State.placeRack_of_error {evac : Bool} {why : WalkReason} (h : s.rack k = some r)
    (hw : s.walk (if evac then s.evacTrip k r else s.replaceTrip k r) (s.cursorOf k r) (addSec s.clock 1) = .error why) :
    s.placeRack k evac = none := by
  unfold State.placeRack
  simp only [h, hw]

/-! ### The Driver turns (R95) -/

theorem State.turn_of_empty (h : s.driver.state = .idle ∨ s.driver.state = .waiting) (hs : s.schedule = []) :
    s.turn.driver = s.driver.rest .idle := by
  unfold State.turn
  rcases h with h | h
  · simp only [h, hs, List.head?_nil]
  · simp only [h, hs, List.head?_nil]

theorem State.turn_of_entry {m : Entry} {rest : List Entry} (h : s.driver.state = .idle ∨ s.driver.state = .waiting)
    (hs : s.schedule = m :: rest) : s.turn.driver = if m.src = s.driver.position ∨ s.hookedWaits = true then
      { s.driver.rest .waiting with entry := some (m.slot, m.index) }
    else (s.approach (m.slot, m.index) m.src s.driver.position).driver := by
  unfold State.turn
  rcases h with h | h
  · simp only [h, hs, List.head?_cons, apply_ite State.driver]
  · simp only [h, hs, List.head?_cons, apply_ite State.driver]

theorem State.atLimit_iff : s.atLimit = true ↔ s.pins.hoistUp = true ∨ s.pins.hoistDown = true := by
  simp [State.atLimit]

theorem State.approach_of_away {key : Nat × Nat} {f : Nat} (h : s.atLimit = false) : s.approach key n f = s := by
  unfold State.approach
  simp only
  rw [if_pos h]

theorem State.approach_of_there {key : Nat × Nat} {f : Nat} (h : s.atLimit = true) (hn : s.standsAt n = true) :
    (s.approach key n f).driver = { s.driver.rest .waiting with goTo := n, position := n, entry := some key } := by
  unfold State.approach
  simp only
  rw [if_neg (by rw [h]; decide), if_pos hn]

theorem State.approach_of_elsewhere {key : Nat × Nat} {f : Nat} (h : s.atLimit = true) (hn : s.standsAt n = false) :
    (s.approach key n f).driver = { s.driver with
      state := .approaching, goTo := n, entry := some key, phaseStart := some s.clock, approachFrom := f
      deadline := some (addSec s.clock (travelTime s.cfg.line.tp f n + s.cfg.line.margin)) } := by
  unfold State.approach
  simp only
  rw [if_neg (by rw [h]; decide), if_neg (by rw [hn]; decide)]

theorem State.hookedWaits_congr (hd : t.deferred = s.deferred) (hs : t.slots = s.slots) : t.hookedWaits = s.hookedWaits := by
  unfold State.hookedWaits
  rw [hd, show t.rack = s.rack from funext (State.rack_congr hs)]

theorem travel_eq (tp a b : Nat) : travelTime tp a b = (((b - a) + (a - b)) * tp + 9) / 10 := by
  unfold travelTime ceilDiv pitches
  rw [Nat.add_comm (a - b)]
  rfl

/-- A free Driver that turns has turned to the first entry (R95). -/
theorem State.turnedFrom_turn (h : s.driver.state = .idle ∨ s.driver.state = .waiting) : s.turn.turnedFrom s.driver := by
  have hframe := s.turn_eq
  have hempty := State.turn_of_empty h
  have hentry {m : Entry} {rest : List Entry} := State.turn_of_entry (m := m) (rest := rest) h
  generalize s.turn = t at hframe hempty hentry
  have hschedule : t.schedule = s.schedule := by rw [hframe]
  have hhook : t.hookedWaits = s.hookedWaits := State.hookedWaits_congr (by rw [hframe]) (by rw [hframe])
  have hpins : t.pins = s.pins := by rw [hframe]
  have hcfg : t.cfg = s.cfg := by rw [hframe]
  have hclock : t.clock = s.clock := by rw [hframe]
  unfold State.turnedFrom
  rw [hschedule, hhook, hpins, hcfg, hclock]
  refine ⟨fun hs => hempty hs, fun m rest hs => ⟨fun hm => ?_, fun hm hw hlimit => ?_, fun hm hw hup hdown => ?_⟩⟩
  · rw [hentry hs, if_pos hm]
    rfl
  · have hturn : ¬ (m.src = s.driver.position ∨ s.hookedWaits = true) := by simp [hm, hw]
    rw [hentry hs, if_neg hturn]
    by_cases hat : s.pins.atStation = m.src ∧ 1 ≤ m.src ∧ m.src ≤ s.cfg.line.count
    · rw [if_pos hat, State.approach_of_there (State.atLimit_iff.mpr hlimit) (State.standsAt_iff.mpr hat)]
      rfl
    · rw [if_neg hat, State.approach_of_elsewhere (State.atLimit_iff.mpr hlimit)
        (Bool.eq_false_iff.mpr fun hx => hat (State.standsAt_iff.mp hx)), travel_eq]
      rfl
  · have hturn : ¬ (m.src = s.driver.position ∨ s.hookedWaits = true) := by simp [hm, hw]
    have hlimit : s.atLimit = false := by simp [State.atLimit, hup, hdown]
    rw [hentry hs, if_neg hturn, State.approach_of_away hlimit]

end

end Sys2Proof.Machine
end

section
/-! PROOFS. A move that is due and cannot begin, and the re-placement pass (6.7). -/

namespace Sys2Proof.Machine

section
variable {s t u v w : State} {k n : Nat} {r : Rack} {e : Entry} {rest : List Entry} {inp : Inputs}

/-! ### The five conditions (R96) -/

theorem State.movesAllowed_iff : s.movesAllowed = true ↔
    s.line.state = .ready ∨ s.line.state = .draining ∨ (s.line.state = .faulted ∧ s.driver.faultCleared = true) := by
  unfold State.movesAllowed
  cases s.line.state <;> simp

theorem State.startable_of (hstart : e.start ≤ s.clock) (hsrc : s.standsAt e.src = true) (hhook : s.pins.hook = s.fromHook e)
    (hcradle : s.isBath e.src = true → (s.pin e.src).cradleDown = true) (hmoves : s.movesAllowed = true) :
    s.startable e = true := by
  have hdown : (!s.isBath e.src || (s.pin e.src).cradleDown) = true := by
    cases hb : s.isBath e.src with
    | false => rfl
    | true => rw [hcradle hb]; rfl
  simp [State.startable, hstart, hsrc, hhook, hdown, hmoves]

theorem State.fromHook_of (h : s.rack e.slot = some r) : s.fromHook e = (e.kind == .evacuate && r.phase == .onCarriage) := by
  rw [State.fromHook, h]

theorem State.moveStart_of_startable (hs : s.schedule = e :: rest) (hd : s.driver.state = .waiting) (he : s.startable e = true) :
    s.moveStart = s.startOrDefer e := by
  unfold State.moveStart
  simp only [hs]
  rw [if_pos ⟨hd, he⟩]

/-! ### A move that is deferred (R105) -/

/-- No booked entry of a rack is left where they are dropped (R53, R77). -/
theorem nextStartIn_dropBooked (l : List Entry) (k : Nat) : nextStartIn (dropBooked k l) k = none := by
  have hnone : (dropBooked k l).filter (Entry.bookedFor k) = [] :=
    List.filter_eq_nil_iff.mpr fun m hm => by
      unfold dropBooked at hm
      simpa using (List.mem_filter.mp hm).2
  rw [nextStartIn, hnone]
  rfl

/-- The stays of a rack beyond its present one go, and the end of that one becomes OPEN (R105). -/
def deferredStays (k step : Nat) (l : List Interval) : List Interval :=
  (l.filter fun iv => !(iv.slot == k && decide (step < iv.step))).map fun iv =>
    if iv.slot = k ∧ iv.step = step then { iv with stop := none } else iv

theorem openStay_eq (k step : Nat) (l : List Interval) :
    (l.map fun iv => if iv.isStay k step = true then { iv with stop := none } else iv) =
      l.map fun iv => if iv.slot = k ∧ iv.step = step then { iv with stop := none } else iv := by
  simp only [Interval.isStay, Bool.and_eq_true, beq_iff_eq]

theorem State.removeBooked_of_free (h : s.driver.state ≠ .approaching) :
    s.removeBooked k = { s with schedule := dropBooked k s.schedule } := by
  unfold State.removeBooked
  rw [if_neg fun hx => h hx.1]

theorem State.deferMove_eq (h : s.rack e.slot = some r) (hd : s.driver.state ≠ .approaching) (cause : Nat) :
    s.deferMove e cause = { s with
      schedule := dropBooked e.slot s.schedule
      deferred := s.deferred.filter (·.slot != e.slot) ++ [{ slot := e.slot, kind := e.kind, second := s.clock }]
      timelines := s.timelines.map (deferredStays e.slot r.step)
      slots := s.slots.set e.slot (some { r with nextStart := none })
      events := (s.post .moveDeferred e.dst e.slot r.tag cause).events
      lost := (s.post .moveDeferred e.dst e.slot r.tag cause).lost } := by
  have hplans : ((s.removeBooked e.slot).removeLaterIntervals e.slot r.step).openStay e.slot r.step =
      { s with schedule := dropBooked e.slot s.schedule, timelines := s.timelines.map (deferredStays e.slot r.step) } := by
    rw [State.removeBooked_of_free hd]
    unfold State.removeLaterIntervals State.openStay State.mapTimelines
    simp only [List.map_map]
    congr 1
    exact List.map_congr_left fun l _ => openStay_eq _ _ _
  let w : State := { s with
    schedule := dropBooked e.slot s.schedule
    deferred := s.deferred.filter (·.slot != e.slot) ++ [{ slot := e.slot, kind := e.kind, second := s.clock }]
    timelines := s.timelines.map (deferredStays e.slot r.step)
    slots := s.slots.set e.slot (some { r with nextStart := none }) }
  have hnote : ((((s.removeBooked e.slot).removeLaterIntervals e.slot r.step).openStay e.slot r.step).joinDeferred e.slot
      e.kind).noteStart e.slot = w := by
    rw [hplans, State.noteStart_eq (r := r) (by exact (State.rack_congr rfl _).trans h)]
    simp only [State.joinDeferred, nextStartIn_dropBooked]
    rfl
  have htag : w.tagOf e.slot = r.tag := by
    have hset : w.rack e.slot = some { r with nextStart := none } :=
      (State.rack_congr (s := s.setRack e.slot { r with nextStart := none }) rfl _).trans
        (State.rack_setRack_same _ _ (State.rack_lt h))
    unfold State.tagOf
    rw [hset]
    rfl
  unfold State.deferMove
  simp only [h]
  rw [hnote, State.postRack, htag, State.post_eq]
  have hpost := State.post_same (u := w) (s := s) (k := .moveDeferred) (a := e.dst) (b := e.slot) (c := r.tag) (d := cause)
    rfl rfl rfl
  rw [hpost.1, hpost.2]

theorem State.turnedFrom_drive {d : Driver} (h : s.turnedFrom d) : s.drive.turnedFrom d := by
  have hframe := s.drive_eq
  generalize s.drive = t at hframe
  rw [hframe]
  exact h

end

/-- A due move whose destination is taken or low is deferred (R105). -/
theorem State.startOrDefer_of_taken {s : State} {e : Entry} (h : (s.bath e.dst).presence = true ∨ s.cond e.dst .levelLow = true) :
    s.startOrDefer e = (s.deferMove e (if (s.bath e.dst).presence = true then 0 else 1)).turn := by
  unfold State.startOrDefer
  by_cases hp : (s.bath e.dst).presence = true
  · rw [if_pos hp, if_pos hp]
  · rw [if_neg hp, if_neg hp, if_pos (h.resolve_left hp)]

theorem moveStart_defers (inp : Inputs) (s : State) (e : Entry) (rest : List Entry) (r : Rack) (hrun : s.run = .running)
    (hs : s.schedule = e :: rest) (hd : s.driver.state = .waiting) (hr : s.rack e.slot = some r)
    (he : (s.latch inp).startable e = true)
    (hdst : (s.bath e.dst).presence = true ∨ s.cond e.dst .levelLow = true) :
    ∃ t, exec (.moveStart inp) s = .next t ∧
      t.schedule = (s.schedule.filter fun m => !(m.slot == e.slot && !m.executing)) ∧
      t.deferred = (s.deferred.filter fun d => d.slot != e.slot) ++ [{ slot := e.slot, kind := e.kind, second := s.clock }] ∧
      t.rack e.slot = some { r with nextStart := none } ∧
      t.timelines = s.timelines.map (deferredStays e.slot r.step) ∧
      s.posted t .moveDeferred e.dst e.slot r.tag (if (s.bath e.dst).presence = true then 0 else 1) ∧
      t.turnedFrom s.driver ∧
      t = { s with pins := inp, out := t.out, schedule := t.schedule, deferred := t.deferred, timelines := t.timelines,
                   driver := t.driver, slots := s.slots.set e.slot (some { r with nextStart := none }),
                   events := t.events, lost := t.lost } := by
  have hfree : (s.latch inp).driver.state ≠ .approaching := by
    rw [show (s.latch inp).driver.state = .waiting from hd]; decide
  have hdefer := State.deferMove_eq (s := s.latch inp) (e := e) ((State.rack_congr rfl _).trans hr) hfree
    (if (s.bath e.dst).presence = true then 0 else 1)
  have hstart : (s.latch inp).moveStart = ((s.latch inp).deferMove e (if (s.bath e.dst).presence = true then 0 else 1)).turn :=
    (State.moveStart_of_startable (s := s.latch inp) hs hd he).trans (State.startOrDefer_of_taken (s := s.latch inp) hdst)
  have hposted : s.posted (((s.latch inp).post .moveDeferred e.dst e.slot r.tag (if (s.bath e.dst).presence = true then 0 else 1)))
      .moveDeferred e.dst e.slot r.tag (if (s.bath e.dst).presence = true then 0 else 1) := State.posted_post rfl
  refine ⟨_, exec_of_effect (f := State.moveStart) hrun rfl hstart, ?_⟩
  generalize (s.latch inp).post .moveDeferred e.dst e.slot r.tag _ = p at hdefer hposted
  generalize (s.latch inp).deferMove e _ = w at hdefer
  have hwdriver : w.driver = s.driver := by rw [hdefer]; rfl
  have hturned := State.turnedFrom_drive (hwdriver ▸ State.turnedFrom_turn (s := w) (.inr (by rw [hwdriver]; exact hd)))
  have hturn := w.turn_eq
  have hdrive := w.turn.drive_eq
  generalize w.turn = x at hturn hdrive hturned
  generalize x.drive = t at hdrive hturned
  have hrack : t.slots = (s.setRack e.slot { r with nextStart := none }).slots := by rw [hdrive, hturn, hdefer]; rfl
  refine ⟨by rw [hdrive, hturn, hdefer]; rfl, by rw [hdrive, hturn, hdefer]; rfl, ?_, by rw [hdrive, hturn, hdefer]; rfl, ?_,
    hturned, ?_⟩
  · rw [State.rack_congr hrack]
    exact State.rack_setRack_same _ _ (State.rack_lt hr)
  · exact hposted.congr (by rw [hdrive, hturn, hdefer])
  · rw [hdrive, hturn, hdefer]
    rfl

end Sys2Proof.Machine
end

section
/-! PROOFS. The re-placement pass in a line second (6.7). -/

namespace Sys2Proof.Machine

section
variable {s t u v w : State} {k n : Nat} {r : Rack}

/-! ### The pass over the deferred set (R106) -/

theorem State.retry_retried (v : State) (d : Deferred) : v.retried (v.retry d) d := by
  have hevac : (d.kind == .evacuate) = decide (d.kind = .evacuate) := rfl
  refine ⟨fun r hr hgo => ?_, fun r hr hw hp => ?_, fun hnone => ?_⟩
  · have hretry : v.retry d = (v.placeRack d.slot (d.kind == .evacuate)).getD v := by
      unfold State.retry
      simp only [hr]
      rw [if_neg]
      rcases hgo with h | h
      · rw [h]; exact Bool.false_ne_true
      · rw [h]; simp
    have htrip : (if (d.kind == .evacuate) = true then v.evacTrip d.slot r else v.replaceTrip d.slot r) =
        if d.kind = .evacuate then v.evacTrip d.slot r else v.replaceTrip d.slot r := by
      simp only [beq_iff_eq]
    rw [hretry]
    refine ⟨fun c hc => ?_, fun why hwhy => ?_⟩
    · rw [State.placeRack_of_ok hr (by rw [htrip]; exact hc)]
      exact State.onlyBooked_bookChain hr c
    · rw [State.placeRack_of_error hr (by rw [htrip]; exact hwhy)]
      rfl
  · unfold State.retry
    simp only [hr]
    rw [if_pos]
    simp [hw, hp]
  · unfold State.retry
    simp only [hnone]

theorem State.inTurn_retries (l : List Deferred) (v : State) : inTurn State.retried l v (l.foldl State.retry v) := by
  induction l generalizing v with
  | nil => rfl
  | cons d l ih => exact ⟨v.retry d, v.retry_retried d, ih _⟩

theorem State.retry_due (v : State) (d : Deferred) : (v.retry d).accrualDue = v.accrualDue := by
  unfold State.retry
  split
  · split
    · rfl
    · cases hp : v.placeRack d.slot (d.kind == .evacuate) with
      | none => rfl
      | some t =>
        obtain ⟨r, c, hr, -, rfl⟩ := State.placeRack_some hp
        have hbook := (State.onlyBooked_bookChain hr c).2
        rw [Option.getD_some, hbook]
  · rfl

theorem State.retryAll_due (v : State) : v.retryAll.accrualDue = v.accrualDue := by
  unfold State.retryAll
  generalize v.deferred = l
  induction l generalizing v with
  | nil => rfl
  | cons d l ih => rw [List.foldl_cons, ih, State.retry_due]

/-! ### What the other pieces leave of the pass -/

/-- No presence is about to fall at the station of a rack. -/
def State.Calm (s : State) : Prop :=
  ∀ k r, s.rack k = some r → (s.bath r.station).presence = false ∨ (s.pin r.station).presence = true

/-- The plans and the racks stand as in `w`, with the Integrator's work done and no presence about to fall. -/
structure State.Rests (w : State) (open_ : Bool) (u : State) : Prop where
  schedule : u.schedule = w.schedule
  deferred : u.deferred = w.deferred
  slots : u.slots = w.slots
  due : u.accrualDue = []
  calm : u.Calm
  timelines : open_ = true → u.timelines = w.timelines

theorem State.Calm.of_presence (h : s.Calm) (hs : t.slots = s.slots) (hp : t.pins = s.pins)
    (hb : ∀ n, (t.bath n).presence = (s.bath n).presence) : t.Calm := fun k r hr => by
  have hpin : t.pin r.station = s.pin r.station := by unfold State.pin; rw [hp]
  rw [hb, hpin]
  exact h k r ((State.rack_congr hs k).symm.trans hr)

/-- A presence sample where no presence is about to fall samples and does nothing else. -/
theorem State.Calm.samplePresence (h : s.Calm) (n : Nat) : s.samplePresence n = s.sampled n ∧ (s.sampled n).Calm := by
  constructor
  · by_cases hstay : (s.bath n).presence = false ∨ (s.pin n).presence = true
    · exact State.samplePresence_of_stay hstay
    · have hnone : (s.sampled n).rackAt n = none := by
        rw [State.sampled_rackAt]
        cases hat : s.rackAt n with
        | none => rfl
        | some e =>
          obtain ⟨-, hrack, hst, -⟩ := State.rack_of_rackAt (k := e.1) (r := e.2) hat
          exact (hstay (hst ▸ h e.1 e.2 hrack)).elim
      simp only [not_or, Bool.not_eq_false, Bool.not_eq_true] at hstay
      rw [State.samplePresence_of_fall hstay.1 hstay.2]
      unfold State.presenceFall
      rw [hnone]
      exact ite_self _
  · intro k r hr
    have hrack := (s.sampled_rack n k).symm.trans hr
    rcases s.bath_setBath_cases n { s.bath n with presence := (s.pin n).presence } r.station with hb | ⟨hn, hb⟩
    · have hsame : (s.sampled n).bath r.station = s.bath r.station := hb
      rw [hsame]
      exact h k r hrack
    · have hsame : (s.sampled n).bath r.station = { s.bath n with presence := (s.pin n).presence } := by rw [State.sampled, hb]
      rw [hsame, hn]
      exact Bool.eq_false_or_eq_true (s.pin n).presence |>.symm

theorem State.Watches.plans (h : s.Watches t) : t.schedule = s.schedule ∧ t.deferred = s.deferred ∧
    t.timelines = s.timelines ∧ t.accrualDue = s.accrualDue := by
  cases h
  exact ⟨rfl, rfl, rfl, rfl⟩

theorem State.Rests.presence {open_ : Bool} (h : w.Rests open_ u) : w.Rests open_ u.samplePresences := by
  unfold State.samplePresences
  generalize allStations = l
  induction l generalizing u with
  | nil => exact h
  | cons n l ih =>
    obtain ⟨heq, hcalm⟩ := h.calm.samplePresence n
    rw [List.foldl_cons, heq]
    exact ih ⟨h.schedule, h.deferred, h.slots, h.due, hcalm, h.timelines⟩

theorem State.examineAll_eq (s : State) : s.examineAll = { s with timelines := s.examineAll.timelines } := by
  have hfold (l : List Nat) : ∀ v : State,
      l.foldl (fun t n => t.setTimeline n ((t.timeline n).filterMap (t.examine n))) v =
        { v with timelines := (l.foldl (fun t n => t.setTimeline n ((t.timeline n).filterMap (t.examine n))) v).timelines } := by
    induction l with
    | nil => exact fun _ => rfl
    | cons n l ih => exact fun v => by rw [List.foldl_cons, ih]; rfl
  exact hfold _ s

theorem State.Rests.turn {open_ : Bool} (h : w.Rests open_ u) : w.Rests open_ u.turn := by
  have hframe := u.turn_eq
  generalize u.turn = t at hframe
  rw [hframe]
  exact ⟨h.schedule, h.deferred, h.slots, h.due, h.calm.of_presence rfl rfl fun _ => rfl, h.timelines⟩

theorem State.Rests.doTask {open_ : Bool} {task : SecondTask} (h : w.Rests open_ u) (hr : task ≠ .retry) (hc : task ≠ .carriage)
    (he : task = .expiry → open_ = false) : w.Rests open_ (u.doTask task) := by
  cases task with
  | presence => exact h.presence
  | bath =>
    have hw := u.watches_watchBaths
    obtain ⟨hschedule, hdeferred, htimelines, hdue⟩ := hw.plans
    exact ⟨hschedule.trans h.schedule, hdeferred.trans h.deferred, hw.slots.trans h.slots, hdue.trans h.due,
      h.calm.of_presence hw.slots hw.pins hw.presence, fun ho => htimelines.trans (h.timelines ho)⟩
  | develop =>
    have hdone : u.developAll = { u with accrualDue := [] } := by rw [State.developAll, h.due]; rfl
    rw [State.doTask, hdone]
    exact ⟨h.schedule, h.deferred, h.slots, rfl, h.calm.of_presence rfl rfl fun _ => rfl, h.timelines⟩
  | retry => exact (hr rfl).elim
  | warmup =>
    have hframe := u.judgeWarmup_eq
    rw [State.doTask]
    generalize u.judgeWarmup = t at hframe
    rw [hframe]
    exact ⟨h.schedule, h.deferred, h.slots, h.due, h.calm.of_presence rfl rfl fun _ => rfl, h.timelines⟩
  | pump =>
    have hframe := u.readPumpAndGas_eq
    rw [State.doTask]
    generalize u.readPumpAndGas = t at hframe
    rw [hframe]
    exact ⟨h.schedule, h.deferred, h.slots, h.due, h.calm.of_presence rfl rfl fun _ => rfl, h.timelines⟩
  | expiry =>
    have hframe := u.examineAll_eq
    rw [State.doTask]
    generalize u.examineAll = t at hframe
    rw [hframe]
    refine ⟨h.schedule, h.deferred, h.slots, h.due, h.calm.of_presence rfl rfl fun _ => rfl, fun ho => ?_⟩
    rw [he rfl] at ho
    cases ho
  | carriage => exact (hc rfl).elim

/-- After the pass the pieces that follow leave plans and racks as the pass left them (R106). -/
theorem State.rests_second {order pre post : List SecondTask} {a : State} (horder : taskOrder order = pre ++ .retry :: post)
    (hc : .carriage ∉ post) (hcalm : ((pre.foldl State.doTurn a).developAll).Calm) :
    ((pre.foldl State.doTurn a).developAll.retryAll).Rests (decide (.expiry ∉ post)) ((taskOrder order).foldl State.doTurn a) := by
  have hretry : .retry ∉ post := by
    have hnodup : (pre ++ .retry :: post).Nodup := horder ▸ firstPlaces_nodup (order ++ mandatoryTasks)
    rw [List.nodup_append, List.nodup_cons] at hnodup
    exact hnodup.2.1.1
  rw [horder, List.foldl_append, List.foldl_cons]
  generalize pre.foldl State.doTurn a = b at hcalm
  have hworks := b.developAll.works_retryAll
  have hpass : (b.developAll.retryAll).Rests (decide (.expiry ∉ post)) (b.doTask .retry) := by
    refine ⟨rfl, rfl, rfl, ?_, ?_, fun _ => rfl⟩
    · exact b.developAll.retryAll_due
    · intro k r hr
      have hrel := hworks.racks k
      have hr' : b.developAll.retryAll.rack k = some r := hr
      rw [hr'] at hrel
      generalize hq : b.developAll.rack k = q at hrel
      cases hrel with
      | some hrep =>
        have hst := hrep.tended.station
        have hbath (n : Nat) : (b.doTask .retry).bath n = b.developAll.bath n := by
          unfold State.bath; rw [show (b.doTask .retry).baths = b.developAll.baths from hworks.baths]
        have hpin (n : Nat) : (b.doTask .retry).pin n = b.developAll.pin n := by
          unfold State.pin; rw [show (b.doTask .retry).pins = b.developAll.pins from hworks.pins]
        rw [hbath, hpin, hst]
        exact hcalm k _ hq
  refine doTurns_keep (P := fun x => b.developAll.retryAll.Rests (decide (.expiry ∉ post)) x) (fun task ht x hx => ?_) hpass.turn
  refine (hx.doTask (fun h => hretry (h ▸ ht)) (fun h => hc (h ▸ ht)) fun h => ?_).turn
  exact decide_eq_false fun hno => hno (h ▸ ht)

end

/-- Settles O13. -/
theorem moveStartDefersTheMove : Obligations.MoveStartDefersTheMove := by
  unfold Obligations.MoveStartDefersTheMove
  constructor
  · intro inp s e rest r hrun hs _ hd hr hstart hat h1 hcount hhook hphase hcradle hmoves hdst
    refine moveStart_defers inp s e rest r hrun hs hd hr (State.startable_of hstart ?_ ?_ ?_ ?_) hdst
    · exact State.standsAt_iff.mpr ⟨hat, h1, hcount⟩
    · rw [State.fromHook_of (s := s.latch inp) ((State.rack_congr rfl _).trans hr)]
      have hno : (r.phase == Phase.onCarriage) = false := by simpa using hphase
      rw [hno, Bool.and_false]
      exact hhook
    · intro hb
      obtain ⟨m, hm⟩ : ∃ m, e.src = m + 1 := ⟨e.src - 1, by omega⟩
      have hdown := hcradle hb
      rw [hm] at hdown ⊢
      exact hdown
    · exact State.movesAllowed_iff.mpr hmoves
  · intro order pre post inp s v hrun horder hc hv hcalm
    subst hv
    have hrests := State.rests_second (a := (s.latch inp).tock) horder hc hcalm
    refine ⟨_, _, exec_second hrun, State.inTurn_retries _ _, ?_⟩
    have hdrive := ((taskOrder order).foldl State.doTurn (s.latch inp).tock).drive_eq
    generalize (taskOrder order).foldl State.doTurn (s.latch inp).tock = x at hrests hdrive
    rw [hdrive]
    exact ⟨hrests.schedule, hrests.deferred, hrests.slots, fun he => hrests.timelines (decide_eq_true he)⟩

end Sys2Proof.Machine
end

section
/-! PROOFS. What a placement walk answers: the chain it has built, move by move (5.5). -/

namespace Sys2Proof.Machine

/-! ### One move of a chain (R84, R85, R87) -/

/-- The move of a chain from the cursor's station to `x` for candidate `e`. -/
def State.nextMove (v : State) (w : Trip) (e : Nat) (c : Cursor) (last : Bool) (x : Nat) : Entry :=
  mkEntry v.cfg.line w.slot c.step c.station x (w.kind c.step last) (w.firm c.step)
    (v.tripStart w e c (moveDuration v.cfg.line c.station x (w.drain c.step))) (w.drain c.step)

/-- The stay the move ends at the cursor's station, where the cursor has one. -/
def Cursor.leaving (c : Cursor) (tl : Nat) (w : Trip) (m : Entry) : List (Nat × Interval) :=
  (c.stayFrom.map fun t => (c.station, c.stay tl w t m.start m.drain)).toList

/-- The cursor once the move to `x` is taken. -/
def State.moved (v : State) (w : Trip) (e : Nat) (c : Cursor) (last : Bool) (x : Nat) : Cursor :=
  { station := x, step := c.step + 1
    immersion := addSec (v.nextMove w e c last x).start (v.nextMove w e c last x).duration
    stayFrom := some (v.nextMove w e c last x).start, placed := true, predicted := c.predicted
    entries := c.entries ++ [v.nextMove w e c last x]
    stays := c.stays ++ c.leaving v.cfg.line.tl w (v.nextMove w e c last x) ++
      if last then [(x, holdInterval v.cfg.line.hold (v.nextMove w e c last x))] else [] }

section
variable {v : State} {w : Trip} {e : Nat} {c c' : Cursor} {last : Bool} {x : Nat} {steps : List Step}

theorem State.tryStation_moved (h : v.tryStation w e c last x = .ok c') : c' = v.moved w e c last x := by
  unfold State.tryStation at h
  split at h
  · cases h
  simp only at h
  split at h
  · cases h
  split at h
  · cases h
  split at h
  · cases h
  split at h
  · cases h
  cases h
  unfold State.moved Cursor.leaving
  cases last with
  | false => simp [State.nextMove, mkEntry, Function.comp_def]
  | true => simp [State.nextMove, mkEntry, Function.comp_def]

theorem State.tryStations_moved {xs : List Nat} {why : WalkReason} (h : v.tryStations w e c last xs why = .ok c') :
    ∃ x ∈ xs, c' = v.moved w e c last x := by
  induction xs generalizing why with
  | nil => cases h
  | cons x xs ih =>
    unfold State.tryStations at h
    split at h
    · next c₁ hc =>
      cases h
      exact ⟨x, List.mem_cons_self, State.tryStation_moved hc⟩
    · obtain ⟨y, hy, hc⟩ := ih h
      exact ⟨y, List.mem_cons_of_mem x hy, hc⟩

/-- A chain from a cursor through stations for the remaining steps to an UNLOAD station (R84 to R87). -/
inductive State.Chain (v : State) (w : Trip) (e : Nat) : List Step → Cursor → Cursor → Prop
  | exit {c : Cursor} {x : Nat} (hx : x ∈ v.tripUnloads w) : Chain v w e [] c (v.moved w e c true x)
  | step {st : Step} {rest : List Step} {c c' : Cursor} {x : Nat} (hx : x ∈ v.tripStations w st.group)
      (h : Chain v w e rest (v.moved w e c false x) c') : Chain v w e (st :: rest) c c'

theorem State.buildChain_chain (h : v.buildChain w e steps c = .ok c') : v.Chain w e steps c c' := by
  induction steps generalizing c with
  | nil =>
    obtain ⟨x, hx, rfl⟩ := State.tryStations_moved h
    exact .exit hx
  | cons st steps ih =>
    unfold State.buildChain at h
    split at h
    · next c₁ h₁ =>
      obtain ⟨x, hx, rfl⟩ := State.tryStations_moved h₁
      exact .step hx (ih h)
    · cases h

theorem State.walkFrom_chain {n : Nat} (he : e ≤ Config.maxSecond) (h : v.walkFrom w c steps n e = .ok c') :
    ∃ e', e ≤ e' ∧ e' ≤ Config.maxSecond ∧ v.Chain w e' steps c c' := by
  induction n generalizing e with
  | zero => exact ⟨e, le_rfl, he, State.buildChain_chain h⟩
  | succ n ih =>
    unfold State.walkFrom at h
    split at h
    · next h₁ => cases h; exact ⟨e, le_rfl, he, State.buildChain_chain h₁⟩
    · obtain ⟨e', hle, hmax, hchain⟩ := ih (min_le_right _ _) h
      exact ⟨e', (le_min (Nat.le_succ e) he).trans hle, hmax, hchain⟩

/-- What a walk answers is a chain for a candidate from the first one on (R83). -/
theorem State.walk_chain {t0 : Nat} (h0 : t0 ≤ Config.maxSecond) (h : v.walk w c t0 = .ok c') :
    ∃ e, t0 ≤ e ∧ e ≤ Config.maxSecond ∧ v.Chain w e (if w.evac then [] else w.steps.drop c.step) c c' :=
  State.walkFrom_chain h0 h

/-! ### The stations a walk tries (R83) -/

theorem State.mem_tripUnloads (hx : x ∈ v.tripUnloads w) :
    1 ≤ x ∧ x ≤ 16 ∧ v.role x = .unload ∧ (w.admission = true → v.isOpen x = true) := by
  unfold State.tripUnloads State.unloads at hx
  simp only [List.mem_filter, beq_iff_eq, State.mem_stations] at hx
  obtain ⟨⟨⟨h1, h16, -⟩, hrole⟩, hopen⟩ := hx
  exact ⟨h1, h16, hrole, fun ha => by simpa [ha] using hopen⟩

theorem State.mem_tripStations {g : Nat} (hx : x ∈ v.tripStations w g) :
    1 ≤ x ∧ x ≤ 16 ∧ x ∈ v.groupStations g ∧ (w.admission = true → v.isOpen x = true) := by
  unfold State.tripStations at hx
  obtain ⟨hgroup, hopen⟩ := List.mem_filter.mp hx
  obtain ⟨h1, h16, -⟩ := State.mem_stations.mp (List.mem_filter.mp hgroup).1
  exact ⟨h1, h16, hgroup, fun ha => by simpa [ha] using hopen⟩

/-! ### The chain of an evacuation (R90) -/

/-- An evacuation is the one move to an UNLOAD station, with the stay it ends and the hold there (R90). -/
structure State.EvacChain (v : State) (w : Trip) (c c' : Cursor) (m : Entry) (e : Nat) : Prop where
  entries : c'.entries = c.entries ++ [m]
  own : m.slot = w.slot ∧ m.index = c.step ∧ m.executing = false ∧ m.firm = false ∧ m.kind = .evacuate ∧ m.src = c.station ∧
    m.start = e
  dst : 1 ≤ m.dst ∧ m.dst ≤ 16 ∧ v.role m.dst = .unload
  stays : c'.stays = c.stays ++ c.leaving v.cfg.line.tl w m ++ [(m.dst, holdInterval v.cfg.line.hold m)]

theorem State.Chain.evac (he : w.evac = true) (h : v.Chain w e [] c c') : ∃ m, v.EvacChain w c c' m e := by
  cases h with
  | exit hx =>
    obtain ⟨h1, h16, hrole, -⟩ := State.mem_tripUnloads hx
    have hstart (d : Nat) : v.tripStart w e c d = e := by rw [State.tripStart, if_pos he]
    refine ⟨_, rfl, ⟨rfl, rfl, rfl, ?_, ?_, rfl, hstart _⟩, ⟨h1, h16, hrole⟩, rfl⟩
    · show w.firm c.step = false
      rw [Trip.firm, he]; rfl
    · show w.kind c.step true = .evacuate
      rw [Trip.kind, if_pos he]

theorem State.walk_evac {t0 : Nat} (he : w.evac = true) (h0 : t0 ≤ Config.maxSecond) (h : v.walk w c t0 = .ok c') :
    ∃ m e, t0 ≤ e ∧ e ≤ Config.maxSecond ∧ v.EvacChain w c c' m e := by
  obtain ⟨e, hle, hmax, hchain⟩ := State.walk_chain h0 h
  rw [if_pos he] at hchain
  obtain ⟨m, hm⟩ := hchain.evac he
  exact ⟨m, e, hle, hmax, hm⟩

end

end Sys2Proof.Machine
end

section
/-! PROOFS. ABANDON (4.6): the rack it names, what is cleared for a standing one, and its evacuation. -/

namespace Sys2Proof.Machine

section
variable {s t u w : State} {k n : Nat} {r q : Rack} {c : Cursor} {f : Frame} {inp : Inputs} {sel hi lo : Byte}

/-! ### A standing rack cleared (R67) -/

/-- The timelines with nothing of a rack left but its present stay, whose end is OPEN (R67). -/
def State.keptTimelines (s : State) (k station step : Nat) : List (List Interval) :=
  ((s.keepStay k station step).openStay k step).timelines

theorem State.clearStanding_eq (h : s.rack k = some q) (r : Rack) : s.clearStanding k r = { s with
    schedule := dropBooked k s.schedule
    deferred := s.deferred.filter (·.slot != k)
    timelines := s.keptTimelines k r.station r.step
    driver := (s.removeBooked k).driver
    slots := s.slots.set k (some { q with nextStart := none }) } := by
  unfold State.clearStanding
  rw [State.noteStart_eq (r := q) (by exact (State.rack_congr rfl k).trans h)]
  have hnone : nextStartIn (dropBooked k s.schedule) k = none := nextStartIn_dropBooked _ _
  simp only [State.removeBooked, State.openStay, State.keepStay, State.mapTimelines, State.setTimeline, hnone]
  rfl

theorem openStay_of_other {l : List Interval} {step : Nat} (h : ∀ iv ∈ l, iv.slot ≠ k) :
    (l.map fun iv => if iv.isStay k step = true then { iv with stop := none } else iv) = l := by
  refine (List.map_congr_left fun iv hiv => ?_).trans (List.map_id _)
  rw [if_neg]
  · rfl
  · simpa [Interval.isStay] using fun hk => (h iv hiv hk).elim

theorem State.timeline_openStay (s : State) (k step n : Nat) : (s.openStay k step).timeline n =
    (s.timeline n).map fun iv => if iv.isStay k step = true then { iv with stop := none } else iv :=
  s.timeline_mapTimelines _ rfl n

theorem State.keptTimelines_other (s : State) {station step : Nat} (hn : n ≠ station) :
    atStation (s.keptTimelines k station step) [] n = (s.timeline n).filter fun iv => iv.slot != k := by
  show ((s.keepStay k station step).openStay k step).timeline n = _
  have hkeep : (s.keepStay k station step).timeline n = (s.timeline n).filter fun iv => iv.slot != k :=
    (State.timeline_setTimeline_other _ _ hn).trans (s.timeline_mapTimelines _ rfl n)
  rw [State.timeline_openStay, hkeep]
  exact openStay_of_other fun iv hiv => by simpa using (List.mem_filter.mp hiv).2

theorem State.keptTimelines_same (s : State) {station step : Nat} (h1 : 1 ≤ station) (hn : station ≤ s.timelines.length) :
    atStation (s.keptTimelines k station step) [] station =
      ((s.timeline station).filter fun iv => !(iv.slot == k && decide (step < iv.step))).map fun iv =>
        if iv.slot = k ∧ iv.step = step then { iv with stop := none } else iv := by
  show ((s.keepStay k station step).openStay k step).timeline station = _
  have hkeep : (s.keepStay k station step).timeline station =
      (s.timeline station).filter fun iv => !(iv.slot == k && decide (step < iv.step)) :=
    State.timeline_setTimeline_same _ _ h1 (by simpa [State.mapTimelines] using hn)
  rw [State.timeline_openStay, hkeep, openStay_eq]

/-! ### The evacuation of a cleared rack (R67, R90) -/

/-- The state in which the evacuation walk of a rack finds the part: the rack marked and cleared (R67). -/
def State.cleared (s : State) (k : Nat) (r : Rack) : State := (s.setRack k r).clearStanding k r

theorem State.rack_setRack_of (h : s.rack k = some r) (q : Rack) : (s.setRack k q).rack k = some q :=
  State.rack_setRack_same _ _ (State.rack_lt h)

/-- What clearing leaves (R67). -/
structure State.StandingCleared (s u : State) (k : Nat) (q : Rack) : Prop where
  frame : u = { s with schedule := u.schedule, deferred := u.deferred, timelines := u.timelines, driver := u.driver,
                       slots := s.slots.set k (some { q with nextStart := none }) }
  rack : u.rack k = some { q with nextStart := none }
  other : ∀ j, j ≠ k → u.rack j = s.rack j
  schedule : u.schedule = dropBooked k s.schedule
  deferred : u.deferred = s.deferred.filter (·.slot != k)
  timelines : u.timelines = s.keptTimelines k q.station q.step
  driver : s.driver.state ≠ .approaching → u.driver = s.driver

theorem State.standingCleared_cleared (h : s.rack k = some r) (q : Rack) : s.StandingCleared (s.cleared k q) k q := by
  have hq := State.rack_setRack_of h q
  have heq := State.clearStanding_eq hq q
  unfold State.cleared
  have hslots : (s.setRack k q).slots.set k (some { q with nextStart := none }) =
      s.slots.set k (some { q with nextStart := none }) := List.set_set ..
  have hrack : ((s.setRack k q).clearStanding k q).slots = (s.setRack k { q with nextStart := none }).slots := by
    rw [heq, hslots]; rfl
  refine ⟨?_, ?_, fun j hj => ?_, by rw [heq]; rfl, by rw [heq]; rfl, by rw [heq]; rfl, fun hd => ?_⟩
  · rw [heq, hslots]
    rfl
  · rw [State.rack_congr hrack]
    exact State.rack_setRack_of h _
  · rw [State.rack_congr hrack]
    exact State.rack_setRack_other _ _ hj
  · rw [heq, State.removeBooked_of_free (s := s.setRack k q) hd]
    rfl

/-- The evacuation walk of a rack on the line looks at its record alone in these fields (R90). -/
theorem State.evacWalk_congr (hp : q.phase = r.phase) (hst : q.station = r.station) (hstep : q.step = r.step)
    (hrec : q.recipe = r.recipe) (hscale : q.scale = r.scale) (himm : q.immersion = r.immersion)
    (hpred : q.predicted = r.predicted) :
    s.evacTrip k q = s.evacTrip k r ∧ s.cursorOf k q = s.cursorOf k r := by
  unfold State.evacTrip State.cursorOf State.sourceOf State.drainOf State.stepOf State.stepsOf
  rw [hp, hst, hstep, hrec, hscale, himm, hpred]
  exact ⟨rfl, rfl⟩

theorem State.placeEvacuation_of_ok (h : s.rack k = some r)
    (hw : s.walk (s.evacTrip k r) (s.cursorOf k r) (addSec s.clock 1) = .ok c) :
    s.placeEvacuation k = (s.bookChain k r.step c, true) := by
  rw [State.placeEvacuation, State.placeRack_of_ok (evac := true) h (by rw [if_pos rfl]; exact hw)]

theorem State.placeEvacuation_of_error {why : WalkReason} (h : s.rack k = some r)
    (hw : s.walk (s.evacTrip k r) (s.cursorOf k r) (addSec s.clock 1) = .error why) :
    s.placeEvacuation k = (s.joinDeferred k .evacuate, false) := by
  rw [State.placeEvacuation, State.placeRack_of_error (evac := true) h (by rw [if_pos rfl]; exact hw)]

/-! ### The command -/

theorem State.taken_selected {kind : Byte} (p : List Byte) : (s.taken kind f inp).selected p = s.selected p := by
  rw [State.taken, State.accept_eq]; rfl

theorem State.taken_rack {kind : Byte} (j : Nat) : (s.taken kind f inp).rack j = s.rack j :=
  State.rack_congr (State.taken_slots ..) j

theorem State.taken_beyondAbandon {kind : Byte} (r : Rack) : (s.taken kind f inp).beyondAbandon r = s.beyondAbandon r := by
  rw [State.taken, State.accept_eq]; rfl

/-- A line state in which ABANDON is taken (R66). -/
def State.abandons (s : State) : Prop := s.line.state = .ready ∨ s.line.state = .draining ∨ s.line.state = .faulted

section
variable {p : List Byte} (hgood : selectorBad p = false) (hl : s.abandons)
include hgood hl

theorem State.ruled_of_abandons : ¬ selectorBad p = true ∧
    ¬ (s.line.state ≠ .ready ∧ s.line.state ≠ .draining ∧ s.line.state ≠ .faulted) :=
  ⟨by rw [hgood]; decide, fun ⟨h1, h2, h3⟩ => hl.elim h1 fun h => h.elim h2 h3⟩

theorem abandonOwner_unknown (hsel : s.selected p = none) : abandonOwner p s = refuse .notFound s := by
  obtain ⟨h1, h2⟩ := State.ruled_of_abandons hgood hl
  unfold abandonOwner
  rw [if_neg h1, if_neg h2, hsel]

theorem abandonOwner_beyond (hsel : s.selected p = some (k, r)) (hb : s.beyondAbandon r = true) :
    abandonOwner p s = refuse .wrongState s := by
  obtain ⟨h1, h2⟩ := State.ruled_of_abandons hgood hl
  unfold abandonOwner
  rw [if_neg h1, if_neg h2, hsel]
  exact if_pos hb

theorem abandonOwner_found (hsel : s.selected p = some (k, r)) (hb : s.beyondAbandon r = false) :
    abandonOwner p s = ((s.abandonRack k r).1, replyOk (b1 (s.abandonRack k r).2)) := by
  obtain ⟨h1, h2⟩ := State.ruled_of_abandons hgood hl
  unfold abandonOwner
  rw [if_neg h1, if_neg h2, hsel]
  exact if_neg (by rw [hb]; decide)

end

theorem State.taken_abandons {kind : Byte} (hl : s.abandons) : (s.taken kind f inp).abandons := by
  unfold State.abandons
  rw [State.taken_line]
  exact hl

theorem exec_abandon_refused {payload : List Byte} (hh : s.hears 0x10#8 f) (hp : f.payload = [sel, hi, lo])
    (h : abandonOwner [sel, hi, lo] (s.taken 0x10#8 f inp) = (s.taken 0x10#8 f inp, payload)) :
    ∃ t, exec (.abandon f inp) s = .next t ∧ s.onlyAnswered t 0x10#8 f inp payload := by
  refine exec_refused (c := .abandon f inp) rfl hh (by rw [hp]; rfl) ?_
  rw [hp]
  exact h

/-- An ABANDON of a rack that can be abandoned disposes of it. -/
theorem exec_abandon {v : State} {d : Nat} (hh : s.hears 0x10#8 f) (hp : f.payload = [sel, hi, lo])
    (hgood : selectorBad [sel, hi, lo] = false) (hl : s.abandons) (hsel : s.selected [sel, hi, lo] = some (k, r))
    (hb : s.beyondAbandon r = false) (hv : (s.taken 0x10#8 f inp).abandonRack k r = (v, d))
    (hlink : v.link = (s.taken 0x10#8 f inp).link) :
    ∃ t, exec (.abandon f inp) s = .next t ∧ t = { v with link := s.replying 0x10#8 f inp (replyOk (b1 d)), out := t.out } := by
  refine exec_granted (c := .abandon f inp) rfl hh (by rw [hp]; rfl) ?_ hlink
  rw [hp]
  show abandonOwner _ _ = _
  rw [abandonOwner_found hgood (State.taken_abandons hl) ((State.taken_selected _).trans hsel)
    ((State.taken_beyondAbandon r).trans hb), hv]

theorem State.abandonStanding_moves (h : s.rack k = some r) (hl : s.line.state = .ready ∨ s.line.state = .draining) :
    s.abandonStanding k = (s.cleared k r.abandoned).placeEvacuation k := by
  unfold State.abandonStanding
  simp only [h]
  rw [if_pos hl]
  rfl

theorem State.abandonStanding_stays (h : s.rack k = some r) (hl : s.line.state = .faulted) :
    s.abandonStanding k = (s.setRack k r.abandoned, false) := by
  unfold State.abandonStanding
  simp only [h]
  rw [if_neg (by rw [hl]; decide)]

theorem State.abandonRack_standing (hpend : r.pending ≠ .abandoned) (hphase : r.phase = .inBath ∨ r.phase = .orphan) :
    s.abandonRack k r = ((s.abandonStanding k).1.turn,
      if s.line.state = .faulted then 4 else if (s.abandonStanding k).2 then 1 else 2) := by
  unfold State.abandonRack
  rw [if_neg hpend]
  rcases hphase with h | h
  · simp only [h]
  · simp only [h]

end

end Sys2Proof.Machine
end

section
/-! PROOFS. ABANDON by phase and line state (4.6). -/

namespace Sys2Proof.Machine

section
variable {s t u w x : State} {k n : Nat} {r q : Rack} {c : Cursor} {f : Frame} {inp : Inputs} {sel hi lo : Byte}

/-! ### The rack withdrawn, marked, or left (R66, R67, R68) -/

/-- What the end of a rack leaves of the plans of its slot. -/
theorem State.rackEnds_plans (s : State) (k n : Nat) (r : Rack) (outcome : RackOutcome) :
    (s.rackEnds k n r outcome).link = s.link ∧ (s.rackEnds k n r outcome).schedule = dropBooked k s.schedule ∧
    (s.rackEnds k n r outcome).timelines = s.timelines.map fun l => l.filter (·.slot != k) := by
  have hframe := s.rackEnds_eq k n r outcome
  have hforget := s.forgetRack_eq k r
  generalize s.rackEnds k n r outcome = x at *
  exact ⟨by rw [hframe, hforget], by rw [hframe, hforget], by rw [hframe, hforget]⟩

/-- A rack that waits for its entry is withdrawn (R67). -/
theorem State.abandonRack_withdrawn (hr : s.rack k = some r) (hpend : r.pending ≠ .abandoned) (hphase : r.phase = .waitingEntry) :
    s.abandonRack k r = (((s.rackEnds k r.station r .withdrawn).settleLine k).turn, 0) := by
  unfold State.abandonRack
  rw [if_neg hpend]
  simp only [hphase, State.endRack_eq hr]

theorem exec_abandon_withdrawn (hh : s.hears 0x10#8 f) (hp : f.payload = [sel, hi, lo]) (hgood : selectorBad [sel, hi, lo] = false)
    (hl : s.abandons) (hsel : s.selected [sel, hi, lo] = some (k, r)) (hr : s.rack k = some r) (hpend : r.pending ≠ .abandoned)
    (hphase : r.phase = .waitingEntry) :
    ∃ t, exec (.abandon f inp) s = .next t ∧ t.link = s.replying 0x10#8 f inp [0#8, 0#8] ∧
      s.rackEnded t k r .withdrawn ∧ s.posted t .rackRemoved r.station k r.tag 4 ∧
      (∀ m ∈ t.schedule, m.slot = k → m.executing = true) ∧ (∀ l ∈ t.timelines, ∀ iv ∈ l, iv.slot ≠ k) ∧
      ∀ j, j ≠ k → t.rack j = s.rack j := by
  have hz : (s.taken 0x10#8 f inp).rack k = some r := (State.taken_rack k).trans hr
  have hclock : (s.taken 0x10#8 f inp).clock = s.clock := State.taken_clock ..
  have hdispose := State.abandonRack_withdrawn hz hpend hphase
  have hended := State.rackEnds_ended (n := r.station) (outcome := .withdrawn) hz
  have hposted := State.rackEnds_posted (s := s.taken 0x10#8 f inp) (k := k) (n := r.station) (r := r) (outcome := .withdrawn)
  obtain ⟨hlink, hschedule, htimelines⟩ := (s.taken 0x10#8 f inp).rackEnds_plans k r.station r .withdrawn
  have hother (j : Nat) (hj : j ≠ k) := (s.taken 0x10#8 f inp).rackEnds_rack_other (n := r.station) (r := r) (outcome := .withdrawn) hj
  generalize (s.taken 0x10#8 f inp).rackEnds k r.station r .withdrawn = x at *
  have hsettled := x.settled_settleLine k
  generalize x.settleLine k = y at hdispose hsettled
  have hturn := y.turn_eq
  have hbeyond : s.beyondAbandon r = false := by simp [State.beyondAbandon, hphase]
  obtain ⟨t, hexec, ht⟩ := exec_abandon hh hp hgood hl hsel hbeyond hdispose
    (by rw [hturn]; exact hsettled.link.trans hlink)
  generalize y.turn = v at hturn ht
  have hslots : t.slots = x.slots := by rw [ht, hturn]; exact hsettled.slots
  have hcompletions : t.completions = x.completions := by rw [ht, hturn]; exact hsettled.completions
  have hevents : t.events = y.events := by rw [ht, hturn]
  have htsched : t.schedule = dropBooked k (s.taken 0x10#8 f inp).schedule := by
    rw [ht, hturn]; exact hsettled.schedule.trans hschedule
  have httime : t.timelines = (s.taken 0x10#8 f inp).timelines.map fun l => l.filter (·.slot != k) := by
    rw [ht, hturn]; exact hsettled.timelines.trans htimelines
  refine ⟨t, hexec, by rw [ht]; rfl, ?_, ?_, fun m hm hk => ?_, fun l hlt iv hiv => ?_, fun j hj => ?_⟩
  · exact (hended.congr (State.rack_congr hslots k) (by rw [hcompletions])).of_clock hclock
  · exact ((hposted.of_prefix hsettled.posts).congr hevents).of_clock hclock
  · rw [htsched] at hm
    exact (mem_dropBooked.mp hm).2.resolve_left fun h => h hk
  · rw [httime] at hlt
    obtain ⟨l', -, rfl⟩ := List.mem_map.mp hlt
    simpa using (List.mem_filter.mp hiv).2
  · exact (State.rack_congr hslots j).trans ((hother j hj).trans (State.taken_rack j))

/-! ### A standing rack where moves may begin (R67) -/

/-- A standing rack is cleared, and its evacuation walk books the evacuation or lets it wait. -/
theorem exec_abandon_standing (hh : s.hears 0x10#8 f) (hp : f.payload = [sel, hi, lo]) (hgood : selectorBad [sel, hi, lo] = false)
    (hl : s.line.state = .ready ∨ s.line.state = .draining) (hsel : s.selected [sel, hi, lo] = some (k, r))
    (hr : s.rack k = some r) (hpend : r.pending ≠ .abandoned) (hphase : r.phase = .inBath ∨ r.phase = .orphan)
    (hb : s.beyondAbandon r = false) (hu : u = (s.taken 0x10#8 f inp).cleared k r.abandoned) :
    ∃ t x, exec (.abandon f inp) s = .next t ∧ t = { x.turn with link := t.link, out := t.out } ∧
      ((∃ c, u.walk (u.evacTrip k r) (u.cursorOf k r) (addSec u.clock 1) = .ok c ∧ x = u.bookChain k r.step c ∧
          t.link = s.replying 0x10#8 f inp [0#8, 1#8]) ∨
        (∃ why, u.walk (u.evacTrip k r) (u.cursorOf k r) (addSec u.clock 1) = .error why ∧ x = u.joinDeferred k .evacuate ∧
          t.link = s.replying 0x10#8 f inp [0#8, 2#8])) := by
  have hz : (s.taken 0x10#8 f inp).rack k = some r := (State.taken_rack k).trans hr
  have hline : (s.taken 0x10#8 f inp).line = s.line := State.taken_line ..
  have hdispose := State.abandonRack_standing (s := s.taken 0x10#8 f inp) (k := k) hpend hphase
  rw [State.abandonStanding_moves hz (by rw [hline]; exact hl), hline,
    if_neg (by rcases hl with h | h <;> rw [h] <;> decide), ← hu] at hdispose
  have hclear := State.standingCleared_cleared hz r.abandoned
  rw [← hu] at hclear
  have hlinku : u.link = (s.taken 0x10#8 f inp).link := by rw [hclear.frame]
  obtain ⟨htrip, hcursor⟩ := State.evacWalk_congr (s := u) (k := k) (r := r) (q := { r.abandoned with nextStart := none })
    rfl rfl rfl rfl rfl rfl rfl
  have hlab : s.abandons := hl.elim .inl fun h => .inr (.inl h)
  cases hwalk : u.walk (u.evacTrip k r) (u.cursorOf k r) (addSec u.clock 1) with
  | ok c =>
    rw [State.placeEvacuation_of_ok hclear.rack (by rw [htrip, hcursor]; exact hwalk)] at hdispose
    have hdone : (s.taken 0x10#8 f inp).abandonRack k r = ((u.bookChain k r.step c).turn, 1) := hdispose
    have hbook := (State.onlyBooked_bookChain hclear.rack c).2
    have hturn := (u.bookChain k r.step c).turn_eq
    obtain ⟨t, hexec, ht⟩ := exec_abandon hh hp hgood hlab hsel hb hdone
      (by rw [hturn]; exact (congrArg State.link hbook).trans hlinku)
    exact ⟨t, u.bookChain k r.step c, hexec, by rw [ht], .inl ⟨c, rfl, rfl, by rw [ht]; rfl⟩⟩
  | error why =>
    rw [State.placeEvacuation_of_error hclear.rack (by rw [htrip, hcursor]; exact hwalk)] at hdispose
    have hdone : (s.taken 0x10#8 f inp).abandonRack k r = ((u.joinDeferred k .evacuate).turn, 2) := hdispose
    have hturn := (u.joinDeferred k .evacuate).turn_eq
    obtain ⟨t, hexec, ht⟩ := exec_abandon hh hp hgood hlab hsel hb hdone (by rw [hturn]; exact hlinku)
    exact ⟨t, u.joinDeferred k .evacuate, hexec, by rw [ht], .inr ⟨why, rfl, rfl, by rw [ht]; rfl⟩⟩

/-- The chain booked depends on schedule, deferred set, timelines and racks alone. -/
theorem State.chainBooked.congr {first : Nat} (h : s.chainBooked x k first c) (h1 : t.schedule = x.schedule)
    (h2 : t.deferred = x.deferred) (h3 : t.timelines = x.timelines) (h4 : t.slots = x.slots) : s.chainBooked t k first c := by
  obtain ⟨hs, hd, ht, hr⟩ := h
  refine ⟨by rw [h1]; exact hs, h2.trans hd, fun n hn hl iv => ?_, fun q hq => ?_⟩
  · rw [State.timeline, h3]
    exact ht n hn hl iv
  · rw [h1]
    exact hr q ((State.rack_congr h4 k).symm.trans hq)

theorem State.timeline_outside (h : n = 0 ∨ s.timelines.length < n) : s.timeline n = [] := by
  rcases h with rfl | h
  · rfl
  · obtain ⟨m, rfl⟩ : ∃ m, n = m + 1 := ⟨n - 1, by omega⟩
    simp only [State.timeline, atStation, List.getD_eq_getElem?_getD]
    rw [List.getElem?_eq_none (by omega)]
    rfl

theorem State.bookChain_timelines_length (s : State) (k first : Nat) (c : Cursor) :
    (s.bookChain k first c).timelines.length = s.timelines.length := by
  have hnote : (s.bookChain k first c).timelines =
      (State.bookPlans { s with deferred := s.deferred.filter (·.slot != k) } k first c).timelines := by
    rw [State.bookChain_eq]
    unfold State.noteStart State.modifyRack
    split
    · rfl
    · rfl
  rw [hnote, State.bookPlans_timelines_length]

/-- The evacuation of a standing rack that is booked (R67, R90). -/
theorem State.StandingCleared.booked (h : s.StandingCleared u k q) (hq : q.phase ≠ .onCarriage)
    (hw : u.walk (u.evacTrip k q) (u.cursorOf k q) (addSec u.clock 1) = .ok c)
    (hx : x = u.bookChain k q.step c) :
    (∀ d ∈ x.deferred, d.slot ≠ k) ∧ ∃ m ∈ x.schedule, m.slot = k ∧ m.kind = .evacuate ∧ m.src = q.station ∧
      s.role m.dst = .unload ∧ m.executing = false ∧ m.firm = false ∧
      (∀ y ∈ x.schedule, y.slot = k → y.executing = false → y = m) ∧
      ∀ n, n ≠ q.station → ∀ iv ∈ x.timeline n, iv.slot = k → n = m.dst ∧ iv.purpose = .unloadHold := by
  obtain ⟨m, e, -, -, hchain⟩ := State.walk_evac (w := u.evacTrip k q) rfl (min_le_right _ _) hw
  obtain ⟨hslot, -, hidle, hfirm, hkind, hsrc, -⟩ := hchain.own
  obtain ⟨-, -, hrole⟩ := hchain.dst
  have hentries : c.entries = [m] := hchain.entries
  have hstation : (u.cursorOf k q).station = q.station := if_neg hq
  obtain ⟨⟨hschedule, hdeferred, htimeline, -⟩, -⟩ := State.onlyBooked_bookChain h.rack c
  have hlen := u.bookChain_timelines_length k q.step c
  have hx' : x = u.bookChain k ({ q with nextStart := none } : Rack).step c := hx
  rw [← hx'] at hschedule hdeferred htimeline
  rw [← hx] at hlen
  refine ⟨fun d hd => ?_, m, ?_, hslot, hkind, hsrc.trans hstation, ?_, hidle, hfirm, fun y hy hyk hyb => ?_,
    fun n hn iv hiv hivk => ?_⟩
  · rw [hdeferred] at hd
    simpa using (List.mem_filter.mp hd).2
  · rw [hschedule, hentries]
    exact .inr List.mem_cons_self
  · rw [h.frame] at hrole
    exact hrole
  · rw [hschedule, hentries, List.mem_singleton] at hy
    rcases hy with ⟨-, hy | hy⟩ | hy
    · exact (hy hyk).elim
    · rw [hyb] at hy; cases hy
    · exact hy
  · have hin : 1 ≤ n ∧ n ≤ u.timelines.length := by
      by_contra hout
      rw [State.timeline_outside (s := x) (by omega)] at hiv
      cases hiv
    rw [htimeline n hin.1 hin.2] at hiv
    rcases hiv with ⟨hiv, -⟩ | hiv
    · have hother : u.timeline n = (s.timeline n).filter fun iv => iv.slot != k := by
        rw [State.timeline, h.timelines]
        exact s.keptTimelines_other hn
      rw [hother] at hiv
      exact ((by simpa using (List.mem_filter.mp hiv).2 : ¬ iv.slot = k) hivk).elim
    · rw [hchain.stays, List.mem_append, List.mem_singleton] at hiv
      rcases hiv with hiv | hiv
      · have hleft : (n, iv).1 = q.station := by
          rw [List.mem_append] at hiv
          rcases hiv with hiv | hiv
          · cases hiv
          · obtain ⟨t, -, heq⟩ := Option.map_eq_some_iff.mp (Option.mem_toList.mp hiv)
            rw [← heq]
            exact hstation
        exact (hn hleft).elim
      · cases hiv
        exact ⟨rfl, rfl⟩

end

end Sys2Proof.Machine
end

section
/-! PROOFS. ABANDON settled. -/

namespace Sys2Proof.Machine

section
variable {s t u x : State} {k n : Nat} {r q : Rack} {f : Frame} {inp : Inputs} {sel hi lo : Byte}

/-- The rack that waits with its stay OPEN, where its evacuation walk fails (R67). -/
theorem State.StandingCleared.waits (h : s.StandingCleared u k q) (hx : x = u.joinDeferred k .evacuate) :
    x.deferred = (s.deferred.filter fun d => d.slot != k) ++ [⟨k, .evacuate, s.clock⟩] ∧
    x.schedule = (s.schedule.filter fun m => !(m.slot == k && !m.executing)) ∧
    (∀ n, n ≠ q.station → x.timeline n = (s.timeline n).filter fun iv => iv.slot != k) ∧
    (1 ≤ q.station → q.station ≤ s.timelines.length → x.timeline q.station =
      ((s.timeline q.station).filter fun iv => !(iv.slot == k && decide (q.step < iv.step))).map fun iv =>
        if iv.slot = k ∧ iv.step = q.step then { iv with stop := none } else iv) := by
  have hclock : u.clock = s.clock := by rw [h.frame]
  have htimeline (n : Nat) : x.timeline n = atStation (s.keptTimelines k q.station q.step) [] n := by
    rw [hx, State.timeline, ← h.timelines]
    rfl
  refine ⟨?_, ?_, fun n hn => ?_, fun h1 hl => ?_⟩
  · rw [hx]
    show u.deferred.filter (·.slot != k) ++ [_] = _
    rw [h.deferred, List.filter_filter, hclock]
    simp only [Bool.and_self]
  · rw [hx]
    exact h.schedule
  · rw [htimeline]
    exact s.keptTimelines_other hn
  · rw [htimeline]
    exact s.keptTimelines_same h1 hl

theorem State.taken_timelines {kind : Byte} : (s.taken kind f inp).timelines = s.timelines := by
  rw [State.taken, State.accept_eq]
  rfl

theorem selectorBad_of_notInRange (h : ¬ ((sel = 1#8 ∧ hi.toNat * 256 + lo.toNat < 24) ∨ (sel = 0#8 ∧ 1 ≤ hi.toNat * 256 + lo.toNat))) :
    selectorBad [sel, hi, lo] = true := by
  refine selectorBad_of_outside ?_
  by_cases h0 : sel = 0#8
  · exact .inr (.inl ⟨h0, by by_contra hv; exact h (.inr ⟨h0, by omega⟩)⟩)
  by_cases h1 : sel = 1#8
  · exact .inr (.inr ⟨h1, by by_contra hv; exact h (.inl ⟨h1, by omega⟩)⟩)
  · exact .inl (by bv_omega)

theorem selectorBad_of_inRange (h : (sel = 1#8 ∧ hi.toNat * 256 + lo.toNat < 24) ∨ (sel = 0#8 ∧ 1 ≤ hi.toNat * 256 + lo.toNat)) :
    selectorBad [sel, hi, lo] = false := by
  rcases h with ⟨rfl, h⟩ | ⟨rfl, h⟩
  · rw [selectorBad_slot]
    simp only [decide_eq_false_iff_not]
    omega
  · rw [selectorBad_tag, beq_eq_false_iff_ne]
    omega

theorem State.abandonRack_unchanged (hpend : r.pending = .abandoned) : s.abandonRack k r = (s, 4) := by
  rw [State.abandonRack, if_pos hpend]

theorem State.abandonRack_carried (hpend : r.pending ≠ .abandoned) (hphase : r.phase = .onCarriage) :
    s.abandonRack k r = (s.setRack k r.abandoned, 3) := by
  rw [State.abandonRack, if_neg hpend]
  simp only [hphase]

theorem State.beyondAbandon_iff : s.beyondAbandon r = true ↔
    r.phase = .atUnload ∨ r.phase = .awaitingReport ∨ (r.phase = .orphan ∧ s.isBath r.station = false) := by
  simp [State.beyondAbandon, State.standsInBath, or_assoc]

/-- What a standing rack's ABANDON leaves, in the terms of its statement. -/
theorem abandon_standing (hh : s.hears 0x10#8 f) (hp : f.payload = [sel, hi, lo]) (hgood : selectorBad [sel, hi, lo] = false)
    (hl : s.line.state = .ready ∨ s.line.state = .draining) (hsel : s.selected [sel, hi, lo] = some (k, r))
    (hr : s.rack k = some r) (hpend : r.pending ≠ .abandoned) (hphase : r.phase = .inBath ∨ r.phase = .orphan)
    (hb : s.beyondAbandon r = false) :
    ∃ t q, exec (.abandon f inp) s = .next t ∧ t.rack k = some q ∧
      q = { r.abandoned with nextStart := q.nextStart } ∧
      (∀ j, j ≠ k → t.rack j = s.rack j) ∧ (∀ m ∈ s.schedule, m.slot ≠ k → m ∈ t.schedule) ∧
      ((t.link = s.replying 0x10#8 f inp [0#8, 1#8] ∧ (∀ x ∈ t.deferred, x.slot ≠ k) ∧
          ∃ m ∈ t.schedule, m.slot = k ∧ m.kind = .evacuate ∧ m.src = r.station ∧ s.role m.dst = .unload ∧
            m.executing = false ∧ m.firm = false ∧ (∀ x ∈ t.schedule, x.slot = k → x.executing = false → x = m) ∧
            ∀ n, n ≠ r.station → ∀ iv ∈ t.timeline n, iv.slot = k → n = m.dst ∧ iv.purpose = .unloadHold) ∨
        (t.link = s.replying 0x10#8 f inp [0#8, 2#8] ∧ q.nextStart = none ∧
          t.deferred = (s.deferred.filter fun x => x.slot != k) ++ [⟨k, .evacuate, s.clock⟩] ∧
          t.schedule = (s.schedule.filter fun m => !(m.slot == k && !m.executing)) ∧
          (∀ n, n ≠ r.station → t.timeline n = (s.timeline n).filter fun iv => iv.slot != k) ∧
          (1 ≤ r.station → r.station ≤ s.timelines.length → t.timeline r.station =
            ((s.timeline r.station).filter fun iv => !(iv.slot == k && decide (r.step < iv.step))).map fun iv =>
                                if iv.slot = k ∧ iv.step = r.step then { iv with stop := none } else iv))) ∧
      (∀ u, u = (s.taken 0x10#8 f inp).cleared k r.abandoned →
        (∀ c, u.walk (u.evacTrip k r) (u.cursorOf k r) (min (u.clock + 1) 4294967295) = .ok c →
          t.link = s.replying 0x10#8 f inp [0#8, 1#8] ∧ u.chainBooked t k r.step c) ∧
        (∀ why, u.walk (u.evacTrip k r) (u.cursorOf k r) (min (u.clock + 1) 4294967295) = .error why →
          t.link = s.replying 0x10#8 f inp [0#8, 2#8])) ∧
      (s.driver.state = .idle ∨ s.driver.state = .waiting → t.turnedFrom s.driver) := by
  obtain ⟨t, x, hexec, ht, hcase⟩ := exec_abandon_standing (inp := inp) hh hp hgood hl hsel hr hpend hphase hb rfl
  have hz : (s.taken 0x10#8 f inp).rack k = some r := (State.taken_rack k).trans hr
  have hclear := State.standingCleared_cleared hz r.abandoned
  generalize hu : (s.taken 0x10#8 f inp).cleared k r.abandoned = u at hcase hclear
  have hcarried : r.phase ≠ .onCarriage := by
    rcases hphase with h | h
    · rw [h]; decide
    · rw [h]; decide
  have hturn := x.turn_eq
  have hturned : x.driver.state = .idle ∨ x.driver.state = .waiting → t.turnedFrom x.driver := fun h => by
    have := State.turnedFrom_turn h
    rw [ht]
    exact this
  generalize x.turn = v at ht hturn
  have hschedule : t.schedule = x.schedule := by rw [ht, hturn]
  have hdeferred : t.deferred = x.deferred := by rw [ht, hturn]
  have htimelines : t.timelines = x.timelines := by rw [ht, hturn]
  have hslots : t.slots = x.slots := by rw [ht, hturn]
  have htimeline (n : Nat) : t.timeline n = x.timeline n := by rw [State.timeline, htimelines, State.timeline]
  have hfree (h : s.driver.state = .idle ∨ s.driver.state = .waiting) : u.driver = s.driver := by
    have hsame : (s.taken 0x10#8 f inp).driver = s.driver := State.taken_driver ..
    rw [hclear.driver (by rw [hsame]; rcases h with h | h <;> rw [h] <;> decide), hsame]
  have hrole (n : Nat) : (s.taken 0x10#8 f inp).role n = s.role n := State.taken_role n
  have hstimeline (n : Nat) : (s.taken 0x10#8 f inp).timeline n = s.timeline n := by
    rw [State.timeline, State.taken_timelines, State.timeline]
  rcases hcase with ⟨c, hwalk, hx, hlink⟩ | ⟨why, hwalk, hx, hlink⟩
  · obtain ⟨hbooked, hframe⟩ := State.onlyBooked_bookChain hclear.rack c
    have hx' : x = u.bookChain k ({ r.abandoned with nextStart := none } : Rack).step c := hx
    rw [← hx'] at hbooked hframe
    have hxdriver : x.driver = u.driver := by rw [hframe]
    have hset : x.slots = (u.setRack k { r.abandoned with nextStart := nextStartIn x.schedule k }).slots := by rw [hframe]; rfl
    obtain ⟨hmem, -, -, -⟩ := hbooked
    obtain ⟨hdef, m, hm, hmk, hkind, hsrc, hdst, hidle, hfirm, hone, hiv⟩ := hclear.booked hcarried
      (by rw [(State.evacWalk_congr (r := r) (q := r.abandoned) rfl rfl rfl rfl rfl rfl rfl).1,
            (State.evacWalk_congr (r := r) (q := r.abandoned) rfl rfl rfl rfl rfl rfl rfl).2]
          exact hwalk) hx
    refine ⟨t, _, hexec, (State.rack_congr (hslots.trans hset) k).trans (State.rack_setRack_of hclear.rack _), rfl,
      fun j hj => ?_, fun y hy hyk => ?_, .inl ⟨hlink, by rw [hdeferred]; exact hdef, m, by rw [hschedule]; exact hm, hmk, hkind,
        hsrc, (hrole _).symm.trans hdst, hidle, hfirm, by rw [hschedule]; exact hone, fun n hn iv h => ?_⟩,
      fun w hw => ?_, fun hd => ?_⟩
    · exact (State.rack_congr (hslots.trans hset) j).trans
        ((State.rack_setRack_other _ _ hj).trans ((hclear.other j hj).trans (State.taken_rack j)))
    · rw [hschedule, hmem, hclear.schedule, State.taken_schedule]
      exact .inl ⟨mem_dropBooked.mpr ⟨hy, .inl hyk⟩, .inl hyk⟩
    · rw [htimeline] at h
      exact hiv n hn iv h
    · subst hw
      refine ⟨fun c' hc' => ?_, fun why' hwhy => ?_⟩
      · have heq : c' = c := Except.ok.inj (hc'.symm.trans hwalk)
        rw [heq]
        exact ⟨hlink, State.chainBooked.congr (hx ▸ (State.onlyBooked_bookChain hclear.rack c).1) hschedule hdeferred htimelines
          hslots⟩
      · cases hwhy.symm.trans hwalk
    · have h := hturned (by rw [hxdriver, hfree hd]; exact hd)
      rwa [hxdriver, hfree hd] at h
  · obtain ⟨hdef, hsched, hother, hsame⟩ := hclear.waits hx
    have hxdriver : x.driver = u.driver := by rw [hx]; rfl
    have hxslots : x.slots = u.slots := by rw [hx]; rfl
    refine ⟨t, _, hexec, (State.rack_congr (hslots.trans hxslots) k).trans hclear.rack, rfl, fun j hj => ?_, fun y hy hyk => ?_,
      .inr ⟨hlink, rfl, ?_, ?_, fun n hn => ?_, fun h1 hle => ?_⟩, fun w hw => ?_, fun hd => ?_⟩
    · exact (State.rack_congr (hslots.trans hxslots) j).trans ((hclear.other j hj).trans (State.taken_rack j))
    · rw [hschedule, hsched, State.taken_schedule]
      exact List.mem_filter.mpr ⟨hy, by simp [hyk]⟩
    · rw [hdeferred, hdef, State.taken_deferred, State.taken_clock]
    · rw [hschedule, hsched, State.taken_schedule]
    · rw [htimeline, hother n hn, hstimeline]
    · have h := hsame h1 (by rw [State.taken_timelines]; exact hle)
      rw [hstimeline] at h
      rw [htimeline]
      exact h
    · subst hw
      refine ⟨fun c' hc' => ?_, fun why' _ => hlink⟩
      cases hc'.symm.trans hwalk
    · have h := hturned (by rw [hxdriver, hfree hd]; exact hd)
      rwa [hxdriver, hfree hd] at h

/-- In FAULTED a standing rack is only marked (R67). -/
theorem exec_abandon_faulted (hh : s.hears 0x10#8 f) (hp : f.payload = [sel, hi, lo]) (hgood : selectorBad [sel, hi, lo] = false)
    (hl : s.line.state = .faulted) (hsel : s.selected [sel, hi, lo] = some (k, r)) (hr : s.rack k = some r)
    (hpend : r.pending ≠ .abandoned) (hphase : r.phase = .inBath ∨ r.phase = .orphan) (hb : s.beyondAbandon r = false) :
    ∃ t, exec (.abandon f inp) s = .next t ∧ t.link = s.replying 0x10#8 f inp [0#8, 4#8] ∧
      t.slots = s.slots.set k (some r.abandoned) ∧ t.schedule = s.schedule ∧ t.timelines = s.timelines ∧
      t.deferred = s.deferred := by
  have hz : (s.taken 0x10#8 f inp).rack k = some r := (State.taken_rack k).trans hr
  have hline : (s.taken 0x10#8 f inp).line.state = .faulted := by rw [State.taken_line]; exact hl
  have hdispose := State.abandonRack_standing (s := s.taken 0x10#8 f inp) (k := k) hpend hphase
  rw [State.abandonStanding_stays hz hline, if_pos hline] at hdispose
  have hturn := ((s.taken 0x10#8 f inp).setRack k r.abandoned).turn_eq
  obtain ⟨t, hexec, ht⟩ := exec_abandon hh hp hgood (.inr (.inr hl)) hsel hb hdispose (by rw [hturn]; rfl)
  have hframe : t = { ((s.taken 0x10#8 f inp).setRack k r.abandoned).turn with
      link := s.replying 0x10#8 f inp (replyOk (b1 4)), out := t.out } := ht
  generalize ((s.taken 0x10#8 f inp).setRack k r.abandoned).turn = v at hturn hframe
  refine ⟨t, hexec, by rw [hframe]; rfl, ?_, ?_, ?_, ?_⟩
  · rw [hframe, hturn]
    exact congrArg (·.set k (some r.abandoned)) (State.taken_slots ..)
  · rw [hframe, hturn]
    exact State.taken_schedule ..
  · rw [hframe, hturn]
    exact State.taken_timelines
  · rw [hframe, hturn]
    exact State.taken_deferred ..

end

/-- Settles O43: the selector first, then the line state, then the rack's phase. -/
theorem abandonDisposesOfTheRack : Obligations.AbandonDisposesOfTheRack := by
  unfold Obligations.AbandonDisposesOfTheRack
  rintro f inp s sel hi lo hh hp v rfl inRange ruled hin hruled
  refine ⟨fun hout => ?_, fun hi' hno => ?_, fun hr hfree => ?_, fun k r marked hr hk hrack hnamed hmark => ?_⟩
  · exact exec_abandon_refused hh hp (if_pos (selectorBad_of_notInRange fun h => hout (hin.mpr h)))
  · refine exec_abandon_refused hh hp ?_
    unfold abandonOwner
    rw [if_neg (by rw [selectorBad_of_inRange (hin.mp hi')]; decide), if_pos]
    · rfl
    · rw [State.taken_line]
      exact ⟨fun h => hno (hruled.mpr (.inl h)), fun h => hno (hruled.mpr (.inr (.inl h))), fun h => hno (hruled.mpr (.inr (.inr h)))⟩
  · obtain ⟨hgood, hnone⟩ := State.selected_of_unknown hfree
    exact exec_abandon_refused hh hp
      (abandonOwner_unknown hgood (State.taken_abandons (hruled.mp hr)) ((State.taken_selected _).trans hnone))
  · have hl := hruled.mp hr
    obtain ⟨hgood, hsel⟩ := State.selected_of_named (s := s) (sel := sel) (hi := hi) (lo := lo) (k := k) (r := r)
      (hnamed.imp (fun h => ⟨h.1, h.2, hk, hrack⟩) fun h => ⟨h.1, h.2.1, hk, hrack, h.2.2.1, h.2.2.2⟩)
    have hz : (s.taken 0x10#8 f inp).rack k = some r := (State.taken_rack k).trans hrack
    have hmarked : { r with pending := marked } = r.abandoned := by rw [hmark]; rfl
    have hstays (h : r.phase = .inBath ∨ (r.phase = .orphan ∧ s.isBath r.station = true)) :
        s.beyondAbandon r = false ∧ (r.phase = .inBath ∨ r.phase = .orphan) := by
      refine ⟨Bool.eq_false_iff.mpr fun hx => ?_, h.imp id fun h => h.1⟩
      rcases State.beyondAbandon_iff.mp hx with hx | hx | ⟨hx, hy⟩
      · rcases h with h | ⟨h, -⟩ <;> rw [h] at hx <;> cases hx
      · rcases h with h | ⟨h, -⟩ <;> rw [h] at hx <;> cases hx
      · rcases h with h | ⟨-, h⟩
        · rw [h] at hx; cases hx
        · rw [h] at hy; cases hy
    have hgo {ph : Phase} (h : r.phase = ph) (h1 : ph ≠ .atUnload) (h2 : ph ≠ .awaitingReport) (h3 : ph ≠ .orphan) :
        s.beyondAbandon r = false := Bool.eq_false_iff.mpr fun hx => by
      rcases State.beyondAbandon_iff.mp hx with hx | hx | ⟨hx, -⟩
      · exact h1 (h.symm.trans hx)
      · exact h2 (h.symm.trans hx)
      · exact h3 (h.symm.trans hx)
    refine ⟨fun hb => ?_, fun hpend hph => ?_, fun hpend hph => ?_, fun hpend hph => ?_, fun hpend hph hf => ?_,
      fun hpend hph hf => ?_⟩
    · exact exec_abandon_refused hh hp (abandonOwner_beyond hgood (State.taken_abandons hl) ((State.taken_selected _).trans hsel)
        ((State.taken_beyondAbandon r).trans (State.beyondAbandon_iff.mpr hb)))
    · have hb : s.beyondAbandon r = false := by
        rcases hph with h | h | h
        · exact (hstays (.inl h)).1
        · exact hgo h (by decide) (by decide) (by decide)
        · exact (hstays (.inr h)).1
      refine exec_abandon_refused hh hp ?_
      rw [abandonOwner_found hgood (State.taken_abandons hl) ((State.taken_selected _).trans hsel)
        ((State.taken_beyondAbandon r).trans hb), State.abandonRack_unchanged hpend]
      rfl
    · exact exec_abandon_withdrawn hh hp hgood hl hsel hrack hpend hph
    · obtain ⟨t, hexec, ht⟩ := exec_abandon (inp := inp) hh hp hgood hl hsel (hgo hph (by decide) (by decide) (by decide))
        (State.abandonRack_carried (s := s.taken 0x10#8 f inp) (k := k) hpend hph) rfl
      refine ⟨t, hexec, ?_⟩
      rw [hmarked, ← State.taken_slots s 0x10#8 f inp]
      exact ht
    · obtain ⟨hb, hphase⟩ := hstays hph
      obtain ⟨t, hexec, hlink, hslots, hrest⟩ := exec_abandon_faulted (inp := inp) hh hp hgood hf hsel hrack hpend hphase hb
      exact ⟨t, hexec, hlink, by rw [hmarked]; exact hslots, hrest⟩
    · obtain ⟨hb, hphase⟩ := hstays hph
      subst hmark
      exact abandon_standing hh hp hgood (hl.elim .inl fun h => h.elim .inr fun h => (hf h).elim) hsel hrack hpend hphase hb

end Sys2Proof.Machine
end

section
/-! PROOFS. EVACUATE (6.11): one rack after the other is booked or waits. -/

namespace Sys2Proof.Machine

section
variable {s t u v w : State} {k n b : Nat} {r q : Rack} {c : Cursor} {done ks : List Nat}

/-! ### One rack taken (R111) -/

theorem evacuateOne_waits (h : u.hookedWaits = true) : evacuateOne (u, b) k = (u.joinDeferred k .evacuate, b) := if_pos h

theorem evacuateOne_booked (h : u.hookedWaits = false) (hr : u.rack k = some r)
    (hw : u.walk (u.evacTrip k r) (u.cursorOf k r) (addSec u.clock 1) = .ok c) :
    evacuateOne (u, b) k = (u.bookChain k r.step c, b + 1) := by
  unfold evacuateOne
  rw [if_neg (by simp [h]), State.placeEvacuation_of_ok hr hw]
  rfl

theorem evacuateOne_deferred {why : WalkReason} (h : u.hookedWaits = false) (hr : u.rack k = some r)
    (hw : u.walk (u.evacTrip k r) (u.cursorOf k r) (addSec u.clock 1) = .error why) :
    evacuateOne (u, b) k = (u.joinDeferred k .evacuate, b) := by
  unfold evacuateOne
  rw [if_neg (by simp [h]), State.placeEvacuation_of_error hr hw]
  rfl

theorem evacuateOne_evacuated (u : State) (b k : Nat) : u.evacuated (evacuateOne (u, b) k).1 k := by
  rintro r hr x rfl
  refine ⟨fun h => by rw [evacuateOne_waits h]; rfl, fun h => ⟨fun c hc => ?_, fun why hwhy => ?_⟩⟩
  · rw [evacuateOne_booked h hr hc]
    exact State.onlyBooked_bookChain hr c
  · rw [evacuateOne_deferred h hr hwhy]
    rfl

theorem inTurn_evacuated (ks : List Nat) (u : State) (b : Nat) : inTurn State.evacuated ks u (ks.foldl evacuateOne (u, b)).1 := by
  induction ks generalizing u b with
  | nil => rfl
  | cons k ks ih => exact ⟨_, evacuateOne_evacuated u b k, ih _ _⟩

/-! ### While a rack on the hook waits no other is booked (R111) -/

theorem State.hookedWaits_iff : s.hookedWaits = true ↔ ∃ x ∈ s.deferred, ∃ r, s.rack x.slot = some r ∧ r.phase = .onCarriage := by
  unfold State.hookedWaits
  rw [List.any_eq_true]
  refine exists_congr fun x => and_congr_right fun _ => ?_
  cases s.rack x.slot with
  | none => simp
  | some r => simp

theorem State.hookedWaits_joinDeferred (h : s.hookedWaits = true) (k : Nat) (kind : MoveKind) :
    (s.joinDeferred k kind).hookedWaits = true := by
  obtain ⟨x, hx, r, hr, hp⟩ := State.hookedWaits_iff.mp h
  refine State.hookedWaits_iff.mpr ?_
  by_cases hk : x.slot = k
  · exact ⟨⟨k, kind, s.clock⟩, List.mem_append_right _ List.mem_cons_self, r, by rw [← hk]; exact hr, hp⟩
  · exact ⟨x, List.mem_append_left _ (List.mem_filter.mpr ⟨hx, by simpa using hk⟩), r, hr, hp⟩

theorem evacuateAll_waits (h : u.hookedWaits = true) : (ks.foldl evacuateOne (u, b)).2 = b := by
  induction ks generalizing u with
  | nil => rfl
  | cons k ks ih =>
    rw [List.foldl_cons, evacuateOne_waits h]
    exact ih (State.hookedWaits_joinDeferred h k _)

/-! ### The racks taken so far -/

/-- The record but for the planned start. -/
def Rack.SameBut (r q : Rack) : Prop := q = { r with nextStart := q.nextStart }

/-- EVACUATE has taken the racks of the slots `done`, `b` of them booked. -/
structure State.Evacuates (v : State) (done : List Nat) (u : State) (b : Nat) : Prop where
  frame : u = { v with schedule := u.schedule, deferred := u.deferred, timelines := u.timelines, slots := u.slots }
  racks : ∀ k, Option.Rel Rack.SameBut (v.rack k) (u.rack k)
  deferred : u.deferred = (v.deferred.filter fun x => !done.contains x.slot) ++
    (done.filter fun k => !u.evacBooked k).map fun k => ⟨k, .evacuate, v.clock⟩
  count : b = (done.filter u.evacBooked).length
  kept : ∀ m ∈ v.schedule, m.executing = true ∨ m.slot ∉ done ∨ u.evacBooked m.slot = false → m ∈ u.schedule
  foreign : ∀ m ∈ u.schedule, m.slot ∉ done → m ∈ v.schedule
  own : ∀ k ∈ done, ∀ m ∈ u.schedule, m.slot = k → m.kind = .evacuate →
    m.executing = false ∧ m.firm = false ∧ v.role m.dst = .unload ∧ addSec v.clock 1 ≤ m.start ∧
    ∀ r, v.rack k = some r → r.phase ≠ .onCarriage → m.src = r.station

theorem State.evacBooked_iff : s.evacBooked k = true ↔ ∃ m ∈ s.schedule, m.slot = k ∧ m.kind = .evacuate := by
  simp [State.evacBooked]

theorem State.evacFrame_trans
    (h : u = { v with schedule := u.schedule, deferred := u.deferred, timelines := u.timelines, slots := u.slots })
    (h' : t = { u with schedule := t.schedule, deferred := t.deferred, timelines := t.timelines, slots := t.slots }) :
    t = { v with schedule := t.schedule, deferred := t.deferred, timelines := t.timelines, slots := t.slots } := by
  rw [h] at h'
  exact h'

theorem State.Evacuates.start (v : State) : v.Evacuates [] v 0 where
  frame := rfl
  racks k := by
    cases v.rack k
    · exact .none
    · exact .some rfl
  deferred := by simp
  count := rfl
  kept _ h _ := h
  foreign _ h _ := h
  own := nofun

theorem deferred_filter_append (A : List Deferred) {p : Nat → Bool} (hk : k ∉ done) (x : Nat) :
    ((A.filter fun d => !done.contains d.slot) ++ (done.filter p).map fun j => (⟨j, .evacuate, x⟩ : Deferred)).filter
        (·.slot != k) =
      (A.filter fun d => !(done ++ [k]).contains d.slot) ++ (done.filter p).map fun j => ⟨j, .evacuate, x⟩ := by
  rw [List.filter_append, List.filter_filter]
  congr 1
  · refine List.filter_congr fun d _ => ?_
    by_cases hd : d.slot = k
    · simp [hd]
    · simp [hd]
  · refine List.filter_eq_self.mpr fun d hd => ?_
    obtain ⟨j, hj, rfl⟩ := List.mem_map.mp hd
    have hne : j ≠ k := fun h => hk (h ▸ (List.mem_filter.mp hj).1)
    simpa using hne

theorem option_sameBut_trans {x y z : Option Rack} (h : Option.Rel Rack.SameBut x y) (h' : Option.Rel Rack.SameBut y z) :
    Option.Rel Rack.SameBut x z :=
  option_rel_trans (P := Rack.SameBut) (fun a b c (hab : b = _) (hbc : c = _) => by
    unfold Rack.SameBut
    rw [hbc, hab]) h h'

/-- A rack that is not booked joins the deferred set. -/
theorem State.Evacuates.join (h : v.Evacuates done u b) (hk : k ∉ done) (hfree : v.evacBooked k = false) :
    v.Evacuates (done ++ [k]) (u.joinDeferred k .evacuate) b := by
  have hbooked (j : Nat) : (u.joinDeferred k .evacuate).evacBooked j = u.evacBooked j := rfl
  have hnot : u.evacBooked k = false := Bool.eq_false_iff.mpr fun hx => by
    obtain ⟨m, hm, hmk, hkind⟩ := State.evacBooked_iff.mp hx
    have : v.evacBooked k = true := State.evacBooked_iff.mpr ⟨m, h.foreign m hm (by rw [hmk]; exact hk), hmk, hkind⟩
    rw [hfree] at this
    cases this
  have hclock : u.clock = v.clock := by rw [h.frame]
  refine ⟨?_, h.racks, ?_, ?_, fun m hm hx => ?_, fun m hm hx => ?_, fun j hj m hm hmj hkind => ?_⟩
  · exact State.evacFrame_trans h.frame rfl
  · show u.deferred.filter (·.slot != k) ++ [_] = _
    rw [h.deferred, deferred_filter_append _ hk, hclock, List.filter_append]
    simp [hbooked, hnot]
  · show b = ((done ++ [k]).filter u.evacBooked).length
    rw [List.filter_append, h.count]
    simp [hnot]
  · refine h.kept m hm (hx.imp_right fun hx => ?_)
    rcases hx with hx | hx
    · exact .inl fun hd => hx (List.mem_append_left _ hd)
    · exact .inr hx
  · exact h.foreign m hm fun hd => hx (List.mem_append_left _ hd)
  · rcases List.mem_append.mp hj with hj | hj
    · exact h.own j hj m hm hmj hkind
    · obtain rfl := List.mem_singleton.mp hj
      have : u.evacBooked j = true := State.evacBooked_iff.mpr ⟨m, hm, hmj, hkind⟩
      rw [hnot] at this
      cases this

/-- The evacuation booked is that of its rack; those of the other racks stay as they are. -/
theorem State.bookChain_evacBooked (hr : u.rack k = some r)
    (hw : u.walk (u.evacTrip k r) (u.cursorOf k r) (addSec u.clock 1) = .ok c) :
    (u.bookChain k r.step c).evacBooked k = true ∧ ∀ j, j ≠ k → (u.bookChain k r.step c).evacBooked j = u.evacBooked j := by
  obtain ⟨m, e, -, -, hchain⟩ := State.walk_evac (w := u.evacTrip k r) rfl (min_le_right _ _) hw
  obtain ⟨hmk, -, -, -, hkind, -, -⟩ := hchain.own
  have hentries : c.entries = [m] := hchain.entries
  obtain ⟨⟨hschedule, -, -, -⟩, -⟩ := State.onlyBooked_bookChain hr c
  generalize u.bookChain k r.step c = x at hschedule
  rw [hentries] at hschedule
  simp only [List.mem_singleton] at hschedule
  refine ⟨State.evacBooked_iff.mpr ⟨m, (hschedule m).mpr (.inr rfl), hmk, hkind⟩, fun j hj => ?_⟩
  rw [Bool.eq_iff_iff, State.evacBooked_iff, State.evacBooked_iff]
  refine exists_congr fun y => and_congr_left fun ⟨hyj, _⟩ => ?_
  have hne : y.slot ≠ k := fun hy => hj (hyj.symm.trans hy)
  rw [hschedule]
  refine ⟨fun hy => hy.elim (·.1) fun hy => ?_, fun hy => .inl ⟨hy, .inl hne⟩⟩
  rw [hy] at hne
  exact (hne hmk).elim

theorem evacuateOne_evacBooked {j : Nat} (hj : j ≠ k) : (evacuateOne (u, b) k).1.evacBooked j = u.evacBooked j := by
  by_cases hw : u.hookedWaits = true
  · rw [evacuateOne_waits hw]; rfl
  · cases hr : u.rack k with
    | none =>
      have hplace : u.placeEvacuation k = (u.joinDeferred k .evacuate, false) := by
        unfold State.placeEvacuation State.placeRack
        simp only [hr]
      unfold evacuateOne
      rw [if_neg hw, hplace]
      rfl
    | some r =>
      cases hwalk : u.walk (u.evacTrip k r) (u.cursorOf k r) (addSec u.clock 1) with
      | ok c =>
        rw [evacuateOne_booked (Bool.eq_false_iff.mpr hw) hr hwalk]
        exact (State.bookChain_evacBooked hr hwalk).2 j hj
      | error why => rw [evacuateOne_deferred (Bool.eq_false_iff.mpr hw) hr hwalk]; rfl

/-- What is booked for a rack stays booked while others are taken. -/
theorem evacuateAll_evacBooked {j : Nat} (hj : j ∉ ks) : (ks.foldl evacuateOne (u, b)).1.evacBooked j = u.evacBooked j := by
  induction ks generalizing u b with
  | nil => rfl
  | cons k ks ih =>
    rw [List.mem_cons, not_or] at hj
    rw [List.foldl_cons]
    exact (ih hj.2).trans (evacuateOne_evacBooked hj.1)

/-- A rack whose evacuation walk passes is booked. -/
theorem State.Evacuates.book (h : v.Evacuates done u b) (hk : k ∉ done) (hfree : v.evacBooked k = false)
    (hr : u.rack k = some r) (hw : u.walk (u.evacTrip k r) (u.cursorOf k r) (addSec u.clock 1) = .ok c) :
    v.Evacuates (done ++ [k]) (u.bookChain k r.step c) (b + 1) := by
  obtain ⟨m, e, hle, -, hchain⟩ := State.walk_evac (w := u.evacTrip k r) rfl (min_le_right _ _) hw
  obtain ⟨hslot, -, hidle, hfirm, hkind, hsrc, hstart⟩ := hchain.own
  obtain ⟨-, -, hrole⟩ := hchain.dst
  have hentries : c.entries = [m] := hchain.entries
  obtain ⟨⟨hschedule, hdeferred, -, -⟩, hframe⟩ := State.onlyBooked_bookChain hr c
  obtain ⟨hself, hother⟩ := State.bookChain_evacBooked hr hw
  generalize u.bookChain k r.step c = x at hschedule hdeferred hframe hself hother
  rw [hentries] at hschedule
  simp only [List.mem_singleton] at hschedule
  have hclock : u.clock = v.clock := by rw [h.frame]
  have hurole (n : Nat) : u.role n = v.role n := by rw [h.frame]; rfl
  have hmk : m.slot = k := hslot
  have hdone : done.filter x.evacBooked = done.filter u.evacBooked :=
    List.filter_congr fun j hj => hother j fun hx => hk (hx ▸ hj)
  have hndone : (done.filter fun k => !x.evacBooked k) = done.filter fun k => !u.evacBooked k :=
    List.filter_congr fun j hj => congrArg _ (hother j fun hx => hk (hx ▸ hj))
  have hslots : x.slots = (u.setRack k { r with nextStart := nextStartIn x.schedule k }).slots := by rw [hframe]; rfl
  refine ⟨State.evacFrame_trans h.frame (by rw [hframe]), fun j => ?_, ?_, ?_, fun y hy hx => ?_, fun y hy hx => ?_,
    fun j hj y hy hyj hyk => ?_⟩
  · refine option_sameBut_trans (h.racks j) ?_
    rw [State.rack_congr hslots]
    by_cases hj : j = k
    · rw [hj, State.rack_setRack_of hr, hr]
      exact .some rfl
    · rw [State.rack_setRack_other _ _ hj]
      cases u.rack j
      · exact .none
      · exact .some rfl
  · rw [hdeferred, h.deferred, deferred_filter_append _ hk, List.filter_append, hndone]
    simp [hself]
  · rw [List.filter_append, hdone, h.count]
    simp [hself]
  · rw [hschedule]
    by_cases hyk : y.slot = k
    · rcases hx with hx | hx | hx
      · exact .inl ⟨h.kept y hy (.inl hx), .inr hx⟩
      · exact (hx (List.mem_append_right _ (by rw [hyk]; exact List.mem_cons_self))).elim
      · rw [hyk, hself] at hx
        cases hx
    · refine .inl ⟨h.kept y hy (hx.imp_right fun hx => hx.imp (fun hx hd => hx (List.mem_append_left _ hd)) fun hx => ?_), .inl hyk⟩
      rw [← hother _ hyk]
      exact hx
  · rw [hschedule] at hy
    rcases hy with ⟨hy, -⟩ | rfl
    · exact h.foreign y hy fun hd => hx (List.mem_append_left _ hd)
    · exact (hx (List.mem_append_right _ (by rw [hmk]; exact List.mem_cons_self))).elim
  · rw [hschedule] at hy
    rcases List.mem_append.mp hj with hj | hj
    · rcases hy with ⟨hy, -⟩ | rfl
      · exact h.own j hj y hy hyj hyk
      · exact (hk (hmk.symm.trans hyj ▸ hj)).elim
    · obtain rfl := List.mem_singleton.mp hj
      rcases hy with ⟨hy, hex⟩ | rfl
      · have hv : v.evacBooked j = true := State.evacBooked_iff.mpr ⟨y, h.foreign y hy (by rw [hyj]; exact hk), hyj, hyk⟩
        rw [hfree] at hv
        cases hv
      · refine ⟨hidle, hfirm, (hurole _).symm.trans hrole, by rw [hstart, ← hclock]; exact hle, fun r' hr' hp => ?_⟩
        have hrel := h.racks j
        rw [hr', hr] at hrel
        cases hrel with
        | some hsame =>
          have hph : r.phase = r'.phase := by rw [hsame]
          have hst : r.station = r'.station := by rw [hsame]
          rw [hsrc, ← hst]
          exact if_neg (by rw [hph]; exact hp)

theorem State.Evacuates.one (h : v.Evacuates done u b) (hk : k ∉ done) (hfree : v.evacBooked k = false)
    (hr : v.rack k ≠ none) : v.Evacuates (done ++ [k]) (evacuateOne (u, b) k).1 (evacuateOne (u, b) k).2 := by
  by_cases hw : u.hookedWaits = true
  · rw [evacuateOne_waits hw]
    exact h.join hk hfree
  · have hrel := h.racks k
    obtain ⟨r, hrk⟩ := Option.ne_none_iff_exists'.mp hr
    rw [hrk] at hrel
    generalize hx : u.rack k = x at hrel
    cases hrel with
    | @some _ q =>
      cases hwalk : u.walk (u.evacTrip k q) (u.cursorOf k q) (addSec u.clock 1) with
      | ok c =>
        rw [evacuateOne_booked (Bool.eq_false_iff.mpr hw) hx hwalk]
        exact h.book hk hfree hx hwalk
      | error why =>
        rw [evacuateOne_deferred (Bool.eq_false_iff.mpr hw) hx hwalk]
        exact h.join hk hfree

theorem State.Evacuates.all (ks : List Nat) (h : v.Evacuates done u b) (hnodup : (done ++ ks).Nodup)
    (hks : ∀ k ∈ ks, v.evacBooked k = false ∧ v.rack k ≠ none) :
    v.Evacuates (done ++ ks) (ks.foldl evacuateOne (u, b)).1 (ks.foldl evacuateOne (u, b)).2 := by
  induction ks generalizing done u b with
  | nil => rw [List.append_nil]; exact h
  | cons k ks ih =>
    obtain ⟨hfree, hr⟩ := hks k List.mem_cons_self
    have hk : k ∉ done := fun hd => (List.nodup_append.mp hnodup).2.2 k hd k List.mem_cons_self rfl
    have hnext := ih (h.one hk hfree hr) (by rw [List.append_assoc]; exact hnodup)
      fun j hj => hks j (List.mem_cons_of_mem k hj)
    rw [List.append_assoc] at hnext
    exact hnext

end

end Sys2Proof.Machine
end

section
/-! PROOFS. EVACUATE (6.11): the racks it takes and their order. -/

namespace Sys2Proof.Machine

section
variable {s t u : State} {k : Nat} {r : Rack} {f : Frame} {inp : Inputs}

/-! ### The racks EVACUATE takes -/

theorem State.evacuating_iff : s.evacuating k = false ↔ k ∉ s.evacOrder ∧
    (∀ m ∈ s.schedule, m.slot = k → m.kind ≠ .evacuate) ∧ (∀ x ∈ s.deferred, x.slot = k → x.kind ≠ .evacuate) := by
  simp [State.evacuating, and_assoc]

theorem State.hooked_iff : s.hooked r = true ↔ r.phase = .onCarriage ∧ s.executing = none := by
  simp [State.hooked]

theorem State.stranded_iff : s.stranded r = true ↔ s.isBath r.station = true ∧ (r.phase = .orphan ∨ r.pending = .interrupted) := by
  simp [State.stranded, State.standsInBath]

theorem State.mem_takeable {p : Rack → Bool} :
    k ∈ s.takeable p ↔ k < 24 ∧ s.evacuating k = false ∧ ∃ r, s.rack k = some r ∧ p r = true := by
  unfold State.takeable
  simp only [List.mem_map, List.mem_filter, Bool.and_eq_true, Bool.not_eq_true', Prod.exists, exists_and_right, exists_eq_right,
    State.mem_racks]
  constructor
  · rintro ⟨r, ⟨hk, hr⟩, hp, he⟩
    exact ⟨hk, he, r, hr, hp⟩
  · rintro ⟨hk, he, r, hr, hp⟩
    exact ⟨r, ⟨hk, hr⟩, hp, he⟩

theorem State.racks_ascending (s : State) : s.racks.Pairwise fun a b => a.1 < b.1 := by
  unfold State.racks
  rw [List.pairwise_filterMap]
  refine List.pairwise_lt_range.imp fun {a b} hab x hx y hy => ?_
  obtain ⟨_, -, rfl⟩ := Option.map_eq_some_iff.mp hx
  obtain ⟨_, -, rfl⟩ := Option.map_eq_some_iff.mp hy
  exact hab

theorem State.takeable_ascending (s : State) (p : Rack → Bool) : (s.takeable p).Pairwise (· < ·) := by
  unfold State.takeable
  exact List.pairwise_map.mpr (s.racks_ascending.sublist List.filter_sublist)

theorem State.mem_evacuees : k ∈ s.evacuees ↔ k < 24 ∧ s.evacuating k = false ∧ ∃ r, s.rack k = some r ∧
    (s.hooked r = true ∨ s.stranded r = true) := by
  unfold State.evacuees
  simp only [List.mem_append, State.mem_takeable]
  constructor
  · rintro ((⟨hk, he, r, hr, hp⟩ | ⟨hk, he, r, hr, hp⟩) | ⟨hk, he, r, hr, hp⟩)
    · exact ⟨hk, he, r, hr, .inl hp⟩
    · exact ⟨hk, he, r, hr, .inr (Bool.and_eq_true _ _ ▸ hp).1⟩
    · exact ⟨hk, he, r, hr, .inr (Bool.and_eq_true _ _ ▸ hp).1⟩
  · rintro ⟨hk, he, r, hr, hp | hp⟩
    · exact .inl (.inl ⟨hk, he, r, hr, hp⟩)
    · by_cases hd : s.role r.station = .develop
      · exact .inl (.inr ⟨hk, he, r, hr, by simp [hp, hd]⟩)
      · exact .inr ⟨hk, he, r, hr, by simp [hp, hd]⟩

/-! ### Their order (R111) -/

/-- No rack on the carriage has a station. -/
def State.CarriedApart (s : State) : Prop := ∀ k r, s.rack k = some r → r.phase = .onCarriage → r.station = 0

theorem State.evacRank_of_hooked (h : k ∈ s.takeable s.hooked) : s.evacRank k = 0 := by
  obtain ⟨-, -, r, hr, hp⟩ := State.mem_takeable.mp h
  unfold State.evacRank
  rw [hr]
  exact if_pos (State.hooked_iff.mp hp).1

theorem State.evacRank_of_stranded (hc : s.CarriedApart) {x : Bool}
    (h : k ∈ s.takeable fun r => s.stranded r && (s.role r.station == .develop) == x) : s.evacRank k = if x then 1 else 2 := by
  obtain ⟨-, -, r, hr, hp⟩ := State.mem_takeable.mp h
  obtain ⟨hstranded, hrole⟩ := (Bool.and_eq_true _ _).mp hp
  have hnot : r.phase ≠ .onCarriage := fun hx => by
    have hbath := (State.stranded_iff.mp hstranded).1
    rw [hc k r hr hx, State.isBath_zero] at hbath
    cases hbath
  unfold State.evacRank
  rw [hr]
  simp only
  rw [if_neg hnot]
  cases x with
  | true => rw [if_pos (by simpa using hrole)]; rfl
  | false => rw [if_neg (by simpa using hrole)]; rfl

/-- The order of the racks taken: by their place, then by slot (R111). -/
def State.evacBefore (s : State) (a b : Nat) : Prop := s.evacRank a < s.evacRank b ∨ (s.evacRank a = s.evacRank b ∧ a < b)

theorem State.evacuees_ordered (hc : s.CarriedApart) : s.evacuees.Pairwise s.evacBefore := by
  have hdevelop : (fun r => s.stranded r && s.role r.station == .develop) =
      fun r => s.stranded r && (s.role r.station == .develop) == true := by simp
  have hother : (fun r => s.stranded r && s.role r.station != .develop) =
      fun r => s.stranded r && (s.role r.station == .develop) == false := by
    funext r
    simp [bne]
  have hone (p : Rack → Bool) (x : Nat) (hx : ∀ k ∈ s.takeable p, s.evacRank k = x) :
      (s.takeable p).Pairwise s.evacBefore :=
    (s.takeable_ascending p).imp_of_mem fun ha hb hab => .inr ⟨(hx _ ha).trans (hx _ hb).symm, hab⟩
  unfold State.evacuees
  rw [hdevelop, hother]
  have h0 := fun k hk => State.evacRank_of_hooked (s := s) (k := k) hk
  have h1 := fun k hk => State.evacRank_of_stranded (s := s) (k := k) (x := true) hc hk
  have h2 := fun k hk => State.evacRank_of_stranded (s := s) (k := k) (x := false) hc hk
  refine List.pairwise_append.mpr ⟨List.pairwise_append.mpr ⟨hone _ 0 h0, hone _ 1 h1, fun a ha b hb => .inl ?_⟩,
    hone _ 2 h2, fun a ha b hb => .inl ?_⟩
  · rw [h0 a ha, h1 b hb]; decide
  · rw [h2 b hb]
    rcases List.mem_append.mp ha with ha | ha
    · rw [h0 a ha]; decide
    · rw [h1 a ha]; decide

theorem State.evacuees_nodup (hc : s.CarriedApart) : s.evacuees.Nodup :=
  (State.evacuees_ordered hc).imp fun {a b} h hab => by
    subst hab
    rcases h with h | ⟨-, h⟩
    · exact Nat.lt_irrefl _ h
    · exact Nat.lt_irrefl _ h

theorem State.evacBooked_of_evacuee (h : k ∈ s.evacuees) : s.evacBooked k = false := by
  obtain ⟨-, he, -⟩ := State.mem_evacuees.mp h
  refine Bool.eq_false_iff.mpr fun hx => ?_
  obtain ⟨m, hm, hmk, hkind⟩ := State.evacBooked_iff.mp hx
  exact (State.evacuating_iff.mp he).2.1 m hm hmk hkind

end

end Sys2Proof.Machine
end

section
/-! PROOFS. EVACUATE settled. -/

namespace Sys2Proof.Machine

section
variable {s t u v : State} {k b : Nat} {r : Rack} {f : Frame} {inp : Inputs} {ks : List Nat}

theorem State.recoverable_iff : s.recoverable = true ↔ s.line.state = .faulted ∧ s.driver.faultCleared = true ∧
    ∀ e ∈ s.racks, s.isBath e.2.station = false ∧ e.2.phase ≠ .onCarriage := by
  have hnone : s.someRack s.remains = false ↔ ∀ e ∈ s.racks, s.isBath e.2.station = false ∧ e.2.phase ≠ .onCarriage := by
    unfold State.someRack
    rw [List.any_eq_false]
    refine forall₂_congr fun e _ => ?_
    simp [State.remains, State.standsInBath]
  rw [State.recoverable, Bool.and_eq_true, Bool.and_eq_true, beq_iff_eq, Bool.not_eq_true', hnone, and_assoc]

theorem State.judgeRecovery_driver (s : State) : s.judgeRecovery.driver = s.driver := by
  unfold State.judgeRecovery
  split
  · rw [State.enterLine_frame]
    rfl
  · rfl

theorem State.judgeRecovery_state (s : State) : s.judgeRecovery.line.state =
    if s.line.state = .faulted ∧ s.driver.faultCleared = true ∧
      (∀ e ∈ s.racks, s.isBath e.2.station = false ∧ e.2.phase ≠ .onCarriage) then .ready else s.line.state := by
  unfold State.judgeRecovery
  by_cases h : s.recoverable = true
  · rw [if_pos h, if_pos (State.recoverable_iff.mp h), State.enterLine_line]
    rfl
  · rw [if_neg h, if_neg fun hx => h (State.recoverable_iff.mpr hx)]

theorem State.judgeRecovery_deferred (s : State) : s.judgeRecovery.deferred = s.deferred := by
  unfold State.judgeRecovery
  split
  · rw [State.enterLine_frame]
  · rfl

theorem State.taken_movesAllowed {kind : Byte} : (s.taken kind f inp).movesAllowed = s.movesAllowed := by
  rw [State.taken, State.accept_eq]
  rfl

theorem State.taken_evacuees {kind : Byte} : (s.taken kind f inp).evacuees = s.evacuees := by
  rw [State.taken, State.accept_eq]
  rfl

/-- An EVACUATE where moves may begin leads, but for the outputs and the reply, to the racks taken, the return judged and
the Driver turned. -/
theorem exec_evacuate (hh : s.hears 0x11#8 f) (hp : f.payload = []) (hm : s.movesAllowed = true)
    (hq : s.evacuees.foldl evacuateOne ({ s.taken 0x11#8 f inp with evacOrder := s.evacOrder ++ s.evacuees }, 0) = (u, b))
    (hlink : u.link = (s.taken 0x11#8 f inp).link) :
    ∃ t, exec (.evacuate f inp) s = .next t ∧ t = { u.judgeRecovery.turn with
      link := s.replying 0x11#8 f inp (replyOk (b1 s.evacuees.length ++ b1 b ++ b1 (s.evacuees.length - b))), out := t.out } := by
  refine exec_granted (c := .evacuate f inp) rfl hh (by rw [hp]; rfl) ?_ ?_
  · show evacuateOwner f.payload _ = _
    have horder : (s.taken 0x11#8 f inp).evacOrder = s.evacOrder := by rw [State.taken, State.accept_eq]; rfl
    unfold evacuateOwner
    rw [if_pos (by rw [State.taken_movesAllowed]; exact hm), State.taken_evacuees, horder]
    simp only [hq]
  · have hturn := u.judgeRecovery.turn_eq
    generalize u.judgeRecovery.turn = x at hturn
    rw [hturn]
    exact (State.settled_judgeRecovery u).link.trans hlink

theorem State.evacBooked_congr (h : t.schedule = s.schedule) : t.evacBooked = s.evacBooked := by
  funext k
  unfold State.evacBooked
  rw [h]

/-- What the racks taken have become, up to the settled state. -/
theorem evacuates_all (hc : s.CarriedApart) (hv : v = { s.taken 0x11#8 f inp with evacOrder := s.evacOrder ++ s.evacuees }) :
    v.Evacuates s.evacuees (s.evacuees.foldl evacuateOne (v, 0)).1 (s.evacuees.foldl evacuateOne (v, 0)).2 := by
  have hschedule : v.schedule = s.schedule := by rw [hv]; exact State.taken_schedule ..
  have hslots : v.slots = s.slots := by rw [hv]; exact State.taken_slots ..
  refine (State.Evacuates.start v).all s.evacuees (State.evacuees_nodup hc) fun k hk => ⟨?_, ?_⟩
  · rw [State.evacBooked_congr hschedule]
    exact State.evacBooked_of_evacuee hk
  · obtain ⟨-, -, r, hr, -⟩ := State.mem_evacuees.mp hk
    rw [State.rack_congr hslots, hr]
    nofun

/-- While the first rack, on the hook, waits, no rack is booked (R111). -/
theorem evacuates_none {rest : List Nat} (hks : ks = k :: rest) (hr : v.rack k = some r) (hphase : r.phase = .onCarriage)
    (hbooked : (evacuateOne (v, 0) k).1.evacBooked k = false) : (ks.foldl evacuateOne (v, 0)).2 = 0 := by
  rw [hks, List.foldl_cons]
  have hjoined (u : State) (hu : u = v.joinDeferred k .evacuate) : (rest.foldl evacuateOne (u, 0)).2 = 0 := by
    refine evacuateAll_waits (State.hookedWaits_iff.mpr ⟨⟨k, .evacuate, v.clock⟩, ?_, r, ?_, hphase⟩)
    · rw [hu]; exact List.mem_append_right _ List.mem_cons_self
    · rw [hu]; exact hr
  by_cases hw : v.hookedWaits = true
  · rw [evacuateOne_waits hw]
    exact hjoined _ rfl
  · cases hwalk : v.walk (v.evacTrip k r) (v.cursorOf k r) (addSec v.clock 1) with
    | ok c =>
      rw [evacuateOne_booked (Bool.eq_false_iff.mpr hw) hr hwalk] at hbooked
      rw [(State.bookChain_evacBooked hr hwalk).1] at hbooked
      cases hbooked
    | error why =>
      rw [evacuateOne_deferred (Bool.eq_false_iff.mpr hw) hr hwalk]
      exact hjoined _ rfl

theorem State.Evacuates.nothingRemains {done : List Nat} (h : v.Evacuates done u b) :
    (∀ e ∈ u.racks, u.isBath e.2.station = false ∧ e.2.phase ≠ .onCarriage) ↔
      ∀ e ∈ v.racks, v.isBath e.2.station = false ∧ e.2.phase ≠ .onCarriage := by
  have hbath (n : Nat) : u.isBath n = v.isBath n := State.isBath_of_cfg (by rw [h.frame]) n
  simp only [Prod.forall, State.mem_racks, hbath]
  refine forall_congr' fun k => ?_
  have hrel := h.racks k
  generalize u.rack k = x at hrel
  generalize v.rack k = y at hrel
  cases hrel with
  | none => simp
  | some hsame =>
    simp only [Option.some.injEq, and_imp]
    rw [hsame]
    simp

end

/-- Settles O44: the racks taken one after the other, then the return judged and the Driver turned. -/
theorem evacuateTakesTheRacks : Obligations.EvacuateTakesTheRacks := by
  unfold Obligations.EvacuateTakesTheRacks
  intro f inp s hh hp hclock hapart
  split
  case isFalse hno =>
    refine exec_refused (c := .evacuate f inp) rfl hh (by rw [hp]; rfl) (if_neg ?_)
    rw [State.taken_movesAllowed, State.movesAllowed_iff]
    exact hno
  case isTrue hmoves =>
  obtain ⟨v, hv⟩ : ∃ v, v = { s.taken 0x11#8 f inp with evacOrder := s.evacOrder ++ s.evacuees } := ⟨_, rfl⟩
  have hall := evacuates_all (f := f) (inp := inp) hapart hv
  have hturns := inTurn_evacuated s.evacuees v 0
  have hschedule : v.schedule = s.schedule := by rw [hv]; exact State.taken_schedule ..
  have hdeferred : v.deferred = s.deferred := by rw [hv]; exact State.taken_deferred ..
  have hslots : v.slots = s.slots := by rw [hv]; exact State.taken_slots ..
  have hvclock : v.clock = s.clock := by rw [hv]; exact State.taken_clock ..
  have hrack (k : Nat) : v.rack k = s.rack k := State.rack_congr hslots k
  have hrole (n : Nat) : v.role n = s.role n := by rw [hv]; exact State.taken_role n
  have hbath (n : Nat) : v.isBath n = s.isBath n := congrArg Role.holdsBath (hrole n)
  have hvline : v.line = s.line := by rw [hv]; exact State.taken_line ..
  have hvdriver : v.driver = s.driver := by rw [hv]; exact State.taken_driver ..
  have hfirst {k : Nat} {rest : List Nat} (hks : s.evacuees = k :: rest) :
      (s.evacuees.foldl evacuateOne (v, 0)).1.evacBooked k = (evacuateOne (v, 0) k).1.evacBooked k := by
    have hnodup := State.evacuees_nodup hapart
    rw [hks, List.nodup_cons] at hnodup
    rw [hks, List.foldl_cons]
    exact evacuateAll_evacBooked hnodup.1
  have hnone {k : Nat} {rest : List Nat} (hks : s.evacuees = k :: rest) {r : Rack} :=
    evacuates_none (v := v) (r := r) hks
  have hwaits (h : v.hookedWaits = true) := evacuateAll_waits (ks := s.evacuees) (b := 0) h
  generalize hq : s.evacuees.foldl evacuateOne (v, 0) = q at hall hturns hfirst hnone hwaits
  obtain ⟨u, b⟩ := q
  have hall : v.Evacuates s.evacuees u b := hall
  have hulink : u.link = (s.taken 0x11#8 f inp).link := by rw [hall.frame, hv]
  obtain ⟨t, hexec, ht⟩ := exec_evacuate hh hp (State.movesAllowed_iff.mpr hmoves) (hv ▸ hq) hulink
  have hudriver : u.driver = s.driver := by rw [hall.frame]; exact hvdriver
  have huline : u.line = s.line := by rw [hall.frame]; exact hvline
  have hsettled := u.settled_judgeRecovery
  have hstate := u.judgeRecovery_state
  have hdriver := u.judgeRecovery_driver
  have hjdeferred := u.judgeRecovery_deferred
  have hjorder := u.judgeRecovery_evacOrder
  generalize u.judgeRecovery = x at ht hsettled hstate hdriver hjdeferred hjorder
  have hturned : s.driver.state = .idle ∨ s.driver.state = .waiting → t.turnedFrom s.driver := fun h => by
    have hx : x.driver = s.driver := hdriver.trans hudriver
    have hturn := State.turnedFrom_turn (s := x) (by rw [hx]; exact h)
    rw [hx] at hturn
    rw [ht]
    exact hturn
  have hturn := x.turn_eq
  generalize x.turn = y at ht hturn
  have htschedule : t.schedule = u.schedule := by rw [ht, hturn]; exact hsettled.schedule
  have httimelines : t.timelines = u.timelines := by rw [ht, hturn]; exact hsettled.timelines
  have htdeferred : t.deferred = u.deferred := by rw [ht, hturn]; exact hjdeferred
  have htslots : t.slots = u.slots := by rw [ht, hturn]; exact hsettled.slots
  have hbooked : t.evacBooked = u.evacBooked := State.evacBooked_congr htschedule
  have hpick (k : Nat) (r : Rack) (hr : s.rack k = some r) : ∃ q, t.rack k = some q ∧ q = { r with nextStart := q.nextStart } := by
    have hrel := hall.racks k
    rw [hrack, hr] at hrel
    generalize hz : u.rack k = z at hrel
    cases hrel with
    | some hsame => exact ⟨_, (State.rack_congr htslots k).trans hz, hsame⟩
  refine ⟨t, s.evacuees, b, hexec, ?_, fun k => ?_, State.evacuees_ordered hapart, ⟨u, ?_, htschedule, httimelines, htdeferred,
    htslots⟩, hturned, by rw [hbooked]; exact hall.count, ?_, ?_, fun k hk m hm hmk hkind => ?_, fun k rest hks hrank hfree => ?_,
    fun hhook => ?_, fun m hm hx => ?_, hpick, ?_⟩
  · rw [ht, hturn]
    show x.evacOrder = _
    rw [hjorder, hall.frame, hv]
  · rw [State.mem_evacuees, State.evacuating_iff]
    constructor
    · rintro ⟨hk, ⟨h1, h2, h3⟩, r, hr, hor⟩
      exact ⟨hk, h1, h2, h3, r, hr, hor.imp State.hooked_iff.mp State.stranded_iff.mp⟩
    · rintro ⟨hk, h1, h2, h3, r, hr, hor⟩
      exact ⟨hk, ⟨h1, h2, h3⟩, r, hr, hor.imp State.hooked_iff.mpr State.stranded_iff.mpr⟩
  · rw [← hv]
    exact hturns
  · rw [ht, replyOk_eq]
    rfl
  · rw [htdeferred, hbooked, hall.deferred, hdeferred, hvclock]
  · rw [htschedule] at hm
    obtain ⟨hidle, hfirm, hdst, hstart, hsrc⟩ := hall.own k hk m hm hmk hkind
    refine ⟨hidle, hfirm, (hrole _).symm.trans hdst, ?_, fun r hr => hsrc r ((hrack k).trans hr)⟩
    rw [hvclock] at hstart
    exact (le_min (Nat.le_succ _) hclock).trans hstart
  · obtain ⟨-, -, r, hr, -⟩ := State.mem_evacuees.mp (hks ▸ List.mem_cons_self : k ∈ s.evacuees)
    have hphase : r.phase = .onCarriage := by
      by_contra hx
      unfold State.evacRank at hrank
      rw [hr] at hrank
      simp only at hrank
      rw [if_neg hx] at hrank
      split at hrank <;> cases hrank
    refine hnone hks ((hrack k).trans hr) hphase ?_
    rw [← hfirst hks, ← hbooked]
    exact hfree
  · refine hwaits (State.hookedWaits_iff.mpr ?_)
    obtain ⟨d, hd, r, hr, hp⟩ := hhook
    exact ⟨d, by rw [hdeferred]; exact hd, r, (hrack _).trans hr, hp⟩
  · rw [htschedule]
    exact hall.kept m (by rw [hschedule]; exact hm) (hx.imp_right fun hx => hx.imp_right fun hx => by rw [← hbooked]; exact hx)
  · have htline : t.line.state = x.line.state := by rw [ht, hturn]
    have hracks : (∀ e ∈ u.racks, u.isBath e.2.station = false ∧ e.2.phase ≠ .onCarriage) ↔
        ∀ e ∈ s.racks, s.isBath e.2.station = false ∧ e.2.phase ≠ .onCarriage := by
      rw [hall.nothingRemains, State.racks, State.racks, show v.rack = s.rack from funext hrack]
      exact forall₂_congr fun e _ => by rw [hbath]
    rw [htline, hstate, huline, hudriver]
    refine if_congr ⟨fun h => ⟨h.1, hracks.mp h.2.2⟩, fun h => ⟨h.1, ?_, hracks.mpr h.2⟩⟩ rfl rfl
    rcases hmoves with hm | hm | hm
    · rw [h.1] at hm; cases hm
    · rw [h.1] at hm; cases hm
    · exact hm.2

end Sys2Proof.Machine
end

section
/-! PROOFS. The chain of an admission, move by move and stay by stay (5.1, 5.3, 5.5). -/

namespace Sys2Proof.Machine

section
variable {v : State} {w : Trip} {e n i t : Nat} {c c' : Cursor} {steps : List Step} {ms : List Entry} {m m' : Entry} {iv : Interval}

/-! ### When a move starts (R50, R84) -/

/-- A move after the first starts no earlier than the move before it has ended. -/
theorem State.immersion_le_tripStart (he : w.evac = false) (hp : c.placed = true) (h1 : 1 ≤ c.step)
    (hs : c.step ≤ w.steps.length) (hc : c.immersion ≤ Config.maxSecond) (d : Nat) : c.immersion ≤ v.tripStart w e c d := by
  have hsec (x : Nat) : c.immersion ≤ addSec c.immersion x := le_min (Nat.le_add_right _ _) hc
  obtain ⟨j, hj⟩ : ∃ j, c.step = j + 1 := ⟨c.step - 1, by omega⟩
  have hstep : stepAt w.steps c.step = some (w.steps[j]'(by omega)) := by
    rw [hj]
    exact List.getElem?_eq_getElem _
  unfold State.tripStart
  rw [if_neg (by rw [he]; decide), hstep]
  simp only [hp, if_true]
  split
  · exact hsec _
  · exact (hsec 1).trans (le_max_left _ _)

/-! ### The moves of a chain (R74, R75, R84) -/

/-- The moves `ms` of a chain from the cursor `c` through stations for `steps` to an UNLOAD station. -/
structure State.Linked (v : State) (w : Trip) (steps : List Step) (c : Cursor) (ms : List Entry) : Prop where
  length : ms.length = steps.length + 1
  made : ∀ (j : Nat) (m : Entry), ms[j]? = some m → m.start ≤ Config.maxSecond ∧ m = mkEntry v.cfg.line w.slot (c.step + j) m.src m.dst
    (w.kind (c.step + j) (decide (j = steps.length))) (w.firm (c.step + j)) m.start (w.drain (c.step + j))
  source : ∀ m, ms[0]? = some m → m.src = c.station
  first : c.placed = true → 1 ≤ c.step → c.immersion ≤ Config.maxSecond → ∀ m, ms[0]? = some m → c.immersion ≤ m.start
  next : ∀ (j : Nat) (m m' : Entry), ms[j]? = some m → ms[j + 1]? = some m' → m.dst = m'.src ∧ addSec m.start m.duration ≤ m'.start
  station : ∀ (j : Nat) (m : Entry) (st : Step), ms[j]? = some m → steps[j]? = some st → m.dst ∈ v.tripStations w st.group
  unload : ∀ m, ms[steps.length]? = some m → m.dst ∈ v.tripUnloads w

/-- The stay that a move ends which began in second `t`. -/
def Entry.stayFrom (tl t : Nat) (m : Entry) : Interval :=
  { slot := m.slot, start := t, stop := some (addSec m.start (tl + m.drain)),
    purpose := if m.index = 0 then .loadWait else .immerse, step := m.index }

/-- The stays of a chain that begins with a stay from second `t` on: one that each move ends, and the hold of the last. -/
def chainStays (line : LineCfg) : Nat → List Entry → List (Nat × Interval)
  | _, [] => []
  | t, [m] => [(m.src, m.stayFrom line.tl t), (m.dst, holdInterval line.hold m)]
  | t, m :: m' :: ms => (m.src, m.stayFrom line.tl t) :: chainStays line m.start (m' :: ms)

theorem chainStays_cons (line : LineCfg) (t : Nat) (m : Entry) (h : ms ≠ []) :
    chainStays line t (m :: ms) = (m.src, m.stayFrom line.tl t) :: chainStays line m.start ms := by
  cases ms with
  | nil => exact (h rfl).elim
  | cons => rfl

/-- What a chain has built: its moves are linked, and its stays are those of the moves. -/
theorem State.Chain.linked (he : w.evac = false) (hmax : e ≤ Config.maxSecond) (h : v.Chain w e steps c c')
    (hsteps : c.step + steps.length = w.steps.length) (ht : c.stayFrom = some t) :
    ∃ ms, c'.entries = c.entries ++ ms ∧ c'.stays = c.stays ++ chainStays v.cfg.line t ms ∧ v.Linked w steps c ms := by
  induction h generalizing t with
  | @exit c x hx =>
    have hleave : c.leaving v.cfg.line.tl w (v.nextMove w e c true x) =
        [(c.station, (v.nextMove w e c true x).stayFrom v.cfg.line.tl t)] := by
      rw [Cursor.leaving, ht]; rfl
    refine ⟨[v.nextMove w e c true x], rfl, ?_, rfl, fun j m hj => ?_, fun m hm => ?_, fun hp h1 hc m hm => ?_,
      fun j m m' _ hm' => ?_, fun j m st _ hst => ?_, fun m hm => ?_⟩
    · show _ ++ c.leaving _ w _ ++ _ = _
      rw [hleave, List.append_assoc]
      rfl
    · obtain ⟨rfl, rfl⟩ : j = 0 ∧ v.nextMove w e c true x = m := by cases j <;> simp_all
      exact ⟨v.tripStart_le w hmax c _, rfl⟩
    · cases hm; rfl
    · cases hm
      exact State.immersion_le_tripStart he hp h1 (by omega) hc _
    · simp at hm'
    · simp at hst
    · cases hm; exact hx
  | @step st rest c c' x hx h ih =>
    obtain ⟨ms, hentries, hstays, hlinked⟩ := ih (t := (v.nextMove w e c false x).start)
      (by rw [List.length_cons] at hsteps; show c.step + 1 + _ = _; omega) rfl
    have hleave : c.leaving v.cfg.line.tl w (v.nextMove w e c false x) =
        [(c.station, (v.nextMove w e c false x).stayFrom v.cfg.line.tl t)] := by
      rw [Cursor.leaving, ht]; rfl
    have hne : ms ≠ [] := by
      rintro rfl
      cases hlinked.length
    refine ⟨v.nextMove w e c false x :: ms, ?_, ?_, by rw [List.length_cons, hlinked.length]; rfl, fun j m hj => ?_,
      fun m hm => ?_, fun hp h1 hc m hm => ?_, fun j m m' hm hm' => ?_, fun j m st' hm hst => ?_, fun m hm => ?_⟩
    · rw [hentries]
      show c.entries ++ [_] ++ ms = _
      rw [List.append_assoc]
      rfl
    · rw [hstays, chainStays_cons _ _ _ hne]
      show c.stays ++ c.leaving _ w _ ++ [] ++ _ = _
      rw [hleave, List.append_nil, List.append_assoc]
      rfl
    · cases j with
      | zero =>
        cases hj
        exact ⟨v.tripStart_le w hmax c _, rfl⟩
      | succ j =>
        obtain ⟨hstart, hm⟩ := hlinked.made j m hj
        refine ⟨hstart, ?_⟩
        have hstep : (v.moved w e c false x).step + j = c.step + (j + 1) := by
          show c.step + 1 + j = _; omega
        have hlast : decide (j + 1 = (st :: rest).length) = decide (j = rest.length) := by simp
        rw [hstep] at hm
        rw [hlast]
        exact hm
    · cases hm; rfl
    · cases hm
      exact State.immersion_le_tripStart he hp h1 (by omega) hc _
    · cases j with
      | zero =>
        cases hm
        exact ⟨(hlinked.source m' hm').symm, hlinked.first rfl (Nat.le_add_left 1 _) (min_le_right _ _) m' hm'⟩
      | succ j => exact hlinked.next j m m' hm hm'
    · cases j with
      | zero =>
        cases hm
        cases hst
        exact hx
      | succ j => exact hlinked.station j m st' hm hst
    · exact hlinked.unload m hm

/-- The stays of a chain. -/
theorem mem_chainStays {line : LineCfg} : (i, iv) ∈ chainStays line t ms ↔
    (∃ m, ms.head? = some m ∧ i = m.src ∧ iv = m.stayFrom line.tl t) ∨
    (∃ j m m', ms[j]? = some m ∧ ms[j + 1]? = some m' ∧ i = m'.src ∧ iv = m'.stayFrom line.tl m.start) ∨
    (∃ m, ms.getLast? = some m ∧ i = m.dst ∧ iv = holdInterval line.hold m) := by
  induction ms generalizing t with
  | nil => simp [chainStays]
  | cons m ms ih =>
    cases ms with
    | nil => simp [chainStays]
    | cons m' ms =>
      rw [chainStays, List.mem_cons, ih]
      simp only [List.head?_cons, Option.some.injEq, exists_eq_left', Prod.mk.injEq, List.getLast?_cons_cons]
      refine or_congr_right (or_assoc.symm.trans (or_congr_left ?_))
      constructor
      · rintro (⟨hi, hv⟩ | ⟨j, a, b, ha, hb, hi, hv⟩)
        · exact ⟨0, m, m', rfl, rfl, hi, hv⟩
        · exact ⟨j + 1, a, b, ha, hb, hi, hv⟩
      · rintro ⟨j, a, b, ha, hb, hi, hv⟩
        cases j with
        | zero =>
          cases ha
          cases hb
          exact .inl ⟨hi, hv⟩
        | succ j => exact .inr ⟨j, a, b, ha, hb, hi, hv⟩

end

end Sys2Proof.Machine
end

section
/-! PROOFS. ADMIT: the checks in their order (4.3). -/

namespace Sys2Proof.Machine

/-! ### The checks of R57, each with the ones before it passed -/

section
variable {s : State} {p : List Byte} {a : Admission} {k : Nat}

/-- Checks 1 to 3 of R57 passed. -/
structure State.AdmitsRange (s : State) (a : Admission) : Prop where
  ready : s.line.state = .ready
  orphans : s.orphanInBath = false
  inRange : s.admissionInRange a = true

/-- Checks 1 to 6 of R57 passed, with the lowest free slot. -/
structure State.AdmitsRack (s : State) (a : Admission) (k : Nat) : Prop extends s.AdmitsRange a where
  recipe : s.recipe a.recipe ≠ []
  tag : s.rackTagged a.tag = none
  slot : s.lowestFree = some k

/-- Checks 1 to 8 of R57 passed, with the lowest free slot. -/
structure State.AdmitsPlace (s : State) (a : Admission) (k : Nat) : Prop extends s.AdmitsRack a k where
  load : s.role a.loadStation = .load
  presence : (s.bath a.loadStation).presence = true
  alone : s.rackAt a.loadStation = none

theorem admitOwner_notReady (h : s.line.state ≠ .ready) : admitOwner p s = refuse .wrongState s := if_pos h

theorem admitOwner_orphans (h : s.line.state = .ready) (ho : s.orphanInBath = true) : admitOwner p s = refuse .orphans s := by
  simp only [admitOwner, h, ho, ne_eq, not_true_eq_false, if_false, if_true]

theorem admitOwner_outOfRange (h : s.line.state = .ready) (ho : s.orphanInBath = false)
    (hr : s.admissionInRange (.parse p) = false) : admitOwner p s = refuse .badValue s := by
  simp only [admitOwner, h, ho, hr, ne_eq, not_true_eq_false, if_false, Bool.not_false, if_true, Bool.false_eq_true]

variable (ha : Admission.parse p = a)
include ha

theorem admitOwner_noRecipe (h : s.AdmitsRange a) (hr : s.recipe a.recipe = []) : admitOwner p s = refuse .notFound s := by
  simp only [admitOwner, ha, h.ready, h.orphans, h.inRange, hr, ne_eq, not_true_eq_false, if_false, Bool.not_true,
    Bool.false_eq_true, List.isEmpty_nil, if_true]

theorem admitOwner_duplicate (h : s.AdmitsRange a) (hr : s.recipe a.recipe ≠ []) (ht : (s.rackTagged a.tag).isSome = true) :
    admitOwner p s = refuse .duplicate s := by
  have hempty : (s.recipe a.recipe).isEmpty = false := by simpa using hr
  simp only [admitOwner, ha, h.ready, h.orphans, h.inRange, hempty, ht, ne_eq, not_true_eq_false, if_false, Bool.not_true,
    Bool.false_eq_true, if_true]

theorem admitOwner_full (h : s.AdmitsRange a) (hr : s.recipe a.recipe ≠ []) (ht : s.rackTagged a.tag = none)
    (hf : s.lowestFree = none) : admitOwner p s = refuse .full s := by
  have hempty : (s.recipe a.recipe).isEmpty = false := by simpa using hr
  simp only [admitOwner, ha, h.ready, h.orphans, h.inRange, hempty, ht, hf, ne_eq, not_true_eq_false, if_false, Bool.not_true,
    Bool.false_eq_true, Option.isSome_none]

theorem admitOwner_notPresent (h : s.AdmitsRack a k)
    (hp : s.role a.loadStation ≠ .load ∨ (s.bath a.loadStation).presence = false) : admitOwner p s = refuse .notPresent s := by
  have hempty : (s.recipe a.recipe).isEmpty = false := by simpa using h.recipe
  simp only [admitOwner, ha, h.ready, h.orphans, h.inRange, hempty, h.tag, h.slot, ne_eq, not_true_eq_false, if_false,
    Bool.not_true, Bool.false_eq_true, Option.isSome_none]
  exact if_pos hp

theorem admitOwner_inUse (h : s.AdmitsRack a k) (hl : s.role a.loadStation = .load)
    (hp : (s.bath a.loadStation).presence = true) (hu : (s.rackAt a.loadStation).isSome = true) :
    admitOwner p s = refuse .inUse s := by
  have hempty : (s.recipe a.recipe).isEmpty = false := by simpa using h.recipe
  simp only [admitOwner, ha, h.ready, h.orphans, h.inRange, hempty, h.tag, h.slot, hl, hp, hu, ne_eq, not_true_eq_false,
    if_false, Bool.not_true, Bool.false_eq_true, Option.isSome_none, Bool.true_eq_false, or_self, if_true]

theorem admitOwner_closed {j : Nat} (h : s.AdmitsPlace a k) (hc : s.closedStep (s.recipe a.recipe) = some j) :
    admitOwner p s = admitRefused .closed j s := by
  have hempty : (s.recipe a.recipe).isEmpty = false := by simpa using h.recipe
  simp only [admitOwner, ha, h.ready, h.orphans, h.inRange, hempty, h.tag, h.slot, h.load, h.presence, h.alone, hc, ne_eq,
    not_true_eq_false, if_false, Bool.not_true, Bool.false_eq_true, Option.isSome_none, Bool.true_eq_false, or_self]

theorem admitOwner_noSlot {why : WalkReason} (h : s.AdmitsPlace a k) (hc : s.closedStep (s.recipe a.recipe) = none)
    (hw : s.walk (admissionTrip k (s.recipe a.recipe) a.scale) (admissionCursor a.loadStation s.clock)
      (firstCandidate s.clock a.notBefore) = .error why) : admitOwner p s = admitRefused .noSlot why.code s := by
  have hempty : (s.recipe a.recipe).isEmpty = false := by simpa using h.recipe
  simp only [admitOwner, ha, h.ready, h.orphans, h.inRange, hempty, h.tag, h.slot, h.load, h.presence, h.alone, hc, hw, ne_eq,
    not_true_eq_false, if_false, Bool.not_true, Bool.false_eq_true, Option.isSome_none, Bool.true_eq_false, or_self]

theorem admitOwner_taken {c : Cursor} (h : s.AdmitsPlace a k) (hc : s.closedStep (s.recipe a.recipe) = none)
    (hw : s.walk (admissionTrip k (s.recipe a.recipe) a.scale) (admissionCursor a.loadStation s.clock)
      (firstCandidate s.clock a.notBefore) = .ok c) :
    admitOwner p s = (s.takeAdmission k a c, replyOk (b1 k ++ b4 c.entrySecond ++ b4 c.arrivalSecond)) := by
  have hempty : (s.recipe a.recipe).isEmpty = false := by simpa using h.recipe
  simp only [admitOwner, ha, h.ready, h.orphans, h.inRange, hempty, h.tag, h.slot, h.load, h.presence, h.alone, hc, hw, ne_eq,
    not_true_eq_false, if_false, Bool.not_true, Bool.false_eq_true, Option.isSome_none, Bool.true_eq_false, or_self]

end

/-! ### The terms of the checks -/

section
variable {s : State} {k n : Nat} {f : Frame} {inp : Inputs}

theorem State.orphanInBath_iff : s.orphanInBath = true ↔ ∃ e ∈ s.racks, e.2.phase = .orphan ∧ s.isBath e.2.station = true := by
  unfold State.orphanInBath
  rw [State.someRack_iff]
  simp [State.standsInBath]

theorem State.rackTagged_none_iff {v : Nat} : s.rackTagged v = none ↔ ∀ e ∈ s.racks, e.2.tag ≠ v := by
  rw [State.rackTagged_none]
  simp only [Prod.forall, State.mem_racks, and_imp]

theorem State.lowestFree_iff : s.lowestFree = some k ↔ k < 24 ∧ s.rack k = none ∧ ∀ j, j < k → s.rack j ≠ none := by
  unfold State.lowestFree allSlots
  rw [List.find?_range_eq_some]
  simp only [Option.isNone_iff_eq_none, List.mem_range, Bool.not_eq_true', Option.isNone_eq_false_iff, Option.isSome_iff_ne_none]
  exact ⟨fun ⟨h1, h2, h3⟩ => ⟨h2, h1, h3⟩, fun ⟨h1, h2, h3⟩ => ⟨h2, h1, h3⟩⟩

theorem State.lowestFree_none_iff : s.lowestFree = none ↔ ∀ k, k < 24 → s.rack k ≠ none := by
  unfold State.lowestFree allSlots
  rw [List.find?_eq_none]
  simp

theorem State.rackAt_none_iff (hn : n ≠ 0) : s.rackAt n = none ↔ ∀ e ∈ s.racks, e.2.station ≠ n := by
  rw [State.rackAt, if_neg hn, List.find?_eq_none]
  simp

theorem State.admissionInRange_iff {a : Admission} : s.admissionInRange a = true ↔
    1 ≤ a.tag ∧ a.tag ≤ 65535 ∧ a.recipe ≤ 7 ∧ 50 ≤ a.scale ∧ a.scale ≤ 250 ∧ 1 ≤ a.load ∧ a.load ≤ 40 ∧
      1 ≤ a.loadStation ∧ a.loadStation ≤ s.cfg.line.count := by
  simp [State.admissionInRange, within, State.configured, and_assoc]

theorem State.groupOpen_iff {g : Nat} : (s.groupStations g).any s.isOpen = true ↔ ∃ m ∈ s.groupStations g, s.isOpen m = true :=
  List.any_eq_true

theorem State.closedStep_none_iff {steps : List Step} : s.closedStep steps = none ↔
    (∀ st ∈ steps, ∃ m ∈ s.groupStations st.group, s.isOpen m = true) ∧ ∃ m ∈ s.unloads, s.isOpen m = true := by
  unfold State.closedStep
  cases h : steps.findIdx? fun st => !(s.groupStations st.group).any s.isOpen with
  | some j =>
    obtain ⟨hj, hp, -⟩ := List.findIdx?_eq_some_iff_getElem.mp h
    refine ⟨nofun, fun ⟨hall, _⟩ => ?_⟩
    rw [State.groupOpen_iff.mpr (hall _ (List.getElem_mem hj))] at hp
    cases hp
  | none =>
    have hall := List.findIdx?_eq_none_iff.mp h
    simp only [Bool.not_eq_false', State.groupOpen_iff] at hall
    by_cases hu : s.unloads.any s.isOpen = true
    · simp only [hu, if_true, true_iff]
      exact ⟨hall, List.any_eq_true.mp hu⟩
    · simp only [hu]
      exact ⟨nofun, fun ⟨_, hx⟩ => (hu (List.any_eq_true.mpr hx)).elim⟩

/-- The parse of the ten bytes of ADMIT (12.4). -/
theorem Admission.parse_of {tag rec scale load notBefore : Nat} (h1 : tag ≤ 65535) (h2 : rec ≤ 255) (h3 : scale ≤ 255)
    (h4 : load ≤ 255) (h5 : n ≤ 255) (h6 : notBefore ≤ 4294967295) :
    Admission.parse (b2 tag ++ b1 rec ++ b1 scale ++ b1 load ++ b1 n ++ b4 notBefore) =
      ⟨tag, rec, scale, load, n, notBefore⟩ := by
  simp only [List.append_assoc]
  unfold Admission.parse
  simp [h1, h2, h3, h4, h5, h6]

end

end Sys2Proof.Machine
end

section
/-! PROOFS. ADMIT: the rack that is taken and its chain (4.3, 5.1, 5.3). -/

namespace Sys2Proof.Machine

section
variable {s t z : State} {k n j scale t0 : Nat} {steps : List Step} {c : Cursor} {m first last : Entry} {a : Admission} {f : Frame}
  {inp : Inputs}

/-! ### The chain of an admission -/

/-- What the walk of an admission answers is a chain through the steps of the recipe from the load station on (R84). -/
theorem State.admission_chain (h0 : t0 ≤ Config.maxSecond)
    (hw : z.walk (admissionTrip k steps scale) (admissionCursor n z.clock) t0 = .ok c) :
    z.Linked (admissionTrip k steps scale) steps (admissionCursor n z.clock) c.entries ∧
      c.stays = chainStays z.cfg.line z.clock c.entries := by
  obtain ⟨e, -, hmax, hchain⟩ := State.walk_chain h0 hw
  obtain ⟨ms, hentries, hstays, hlinked⟩ := State.Chain.linked (w := admissionTrip k steps scale) (steps := steps)
    (c := admissionCursor n z.clock) (t := z.clock) rfl hmax hchain (Nat.zero_add _) rfl
  have hms : c.entries = ms := hentries
  rw [hms]
  exact ⟨hlinked, hstays⟩

/-- One move of the chain of an admission, in the terms of 5.1. -/
structure State.AdmitsMove (z : State) (k : Nat) (steps : List Step) (n j : Nat) (m : Entry) : Prop where
  own : m.slot = k ∧ m.index = j ∧ m.executing = false ∧ m.lateness = 0
  duration : m.duration = z.cfg.line.tl + m.drain + (((m.src - m.dst) + (m.dst - m.src)) * z.cfg.line.tp + 9) / 10 + z.cfg.line.tw
  firm : m.firm = true ↔ ∃ st, stepAt steps j = some st ∧ st.kind = .develop
  drain : m.drain = ((stepAt steps j).map (·.drain)).getD 0
  source : j = 0 → m.src = n
  kind : m.kind = if j = 0 then .entry else if j = steps.length then .exit else .transfer
  spanStart : m.spanStart = if m.firm = true then m.start - z.cfg.line.guard else m.start
  spanEnd : m.spanEnd = min (m.start + (if m.firm = true then m.duration + z.cfg.line.guard else m.duration)) 4294967295
  start : m.start ≤ 4294967295

theorem State.Linked.move {ms : List Entry}
    (h : z.Linked (admissionTrip k steps scale) steps (admissionCursor n z.clock) ms) (hj : ms[j]? = some m) :
    z.AdmitsMove k steps n j m := by
  obtain ⟨hstart, hm⟩ := h.made j m hj
  have hzero : (admissionCursor n z.clock).step + j = j := Nat.zero_add j
  rw [hzero] at hm
  have hdrain : m.drain = (admissionTrip k steps scale).drain j := congrArg Entry.drain hm
  have hfirm : m.firm = (admissionTrip k steps scale).firm j := congrArg Entry.firm hm
  have hduration : m.duration = moveDuration z.cfg.line m.src m.dst ((admissionTrip k steps scale).drain j) :=
    congrArg Entry.duration hm
  have hspanEnd : m.spanEnd = addSec m.start (if (admissionTrip k steps scale).firm j = true then
      moveDuration z.cfg.line m.src m.dst ((admissionTrip k steps scale).drain j) + z.cfg.line.guard
      else moveDuration z.cfg.line m.src m.dst ((admissionTrip k steps scale).drain j)) := congrArg Entry.spanEnd hm
  have hspanStart : m.spanStart = if (admissionTrip k steps scale).firm j = true then m.start - z.cfg.line.guard else m.start :=
    congrArg Entry.spanStart hm
  have hkind : m.kind = (admissionTrip k steps scale).kind j (decide (j = steps.length)) := congrArg Entry.kind hm
  refine ⟨⟨congrArg Entry.slot hm, congrArg Entry.index hm, congrArg Entry.executing hm, congrArg Entry.lateness hm⟩, ?_, ?_, ?_,
    ?_, ?_, ?_, ?_, hstart⟩
  · rw [hduration, hdrain]
    rfl
  · rw [hfirm]
    unfold Trip.firm
    simp only [admissionTrip, Bool.not_false, Bool.true_and]
    cases stepAt steps j with
    | none => simp
    | some st => simp
  · rw [hdrain]
    rfl
  · rintro rfl
    exact h.source m hj
  · rw [hkind]
    simp [Trip.kind, admissionTrip]
  · rw [hspanStart, hfirm]
  · rw [hspanEnd, hfirm, hduration]
    rfl

theorem State.Linked.first_le {w : Trip} {ms : List Entry} (h : z.Linked w steps c ms) (h0 : ms[0]? = some first)
    (hj : ms[j]? = some m) : first.start ≤ m.start := by
  induction j generalizing m with
  | zero =>
    rw [h0] at hj
    cases hj
    exact le_rfl
  | succ j ih =>
    obtain ⟨x, hx⟩ : ∃ x, ms[j]? = some x := by
      have hlt : j + 1 < ms.length := (List.getElem?_eq_some_iff.mp hj).1
      exact ⟨_, List.getElem?_eq_getElem (by omega)⟩
    have hnext := (h.next j x m hx hj).2
    have hmax := (h.made j x hx).1
    exact (ih hx).trans ((le_min (Nat.le_add_right _ _) hmax).trans hnext)

theorem nextStartIn_of_least {l : List Entry} {x : Nat} (hmem : ∃ m ∈ l, m.slot = k ∧ m.executing = false ∧ m.start = x)
    (hle : ∀ m ∈ l, m.slot = k → m.executing = false → x ≤ m.start) : nextStartIn l k = some x := by
  have hbooked (m : Entry) : m.bookedFor k = true ↔ m.slot = k ∧ m.executing = false := by simp [Entry.bookedFor]
  unfold nextStartIn
  rw [least_eq_min?, List.min?_eq_some_iff]
  constructor
  · obtain ⟨m, hm, hk, hx, rfl⟩ := hmem
    exact List.mem_map.mpr ⟨m, List.mem_filter.mpr ⟨hm, (hbooked m).mpr ⟨hk, hx⟩⟩, rfl⟩
  · intro y hy
    obtain ⟨m, hm, rfl⟩ := List.mem_map.mp hy
    obtain ⟨hml, hb⟩ := List.mem_filter.mp hm
    exact hle m hml ((hbooked m).mp hb).1 ((hbooked m).mp hb).2

/-! ### The command -/

theorem State.AdmitsRange.taken {kind : Byte} (h : s.AdmitsRange a) : (s.taken kind f inp).AdmitsRange a := by
  obtain ⟨h1, h2, h3⟩ := h
  rw [State.taken, State.accept_eq]
  exact ⟨h1, h2, h3⟩

theorem State.AdmitsRack.taken {kind : Byte} (h : s.AdmitsRack a k) : (s.taken kind f inp).AdmitsRack a k := by
  obtain ⟨h0, h1, h2, h3⟩ := h
  have h0 := h0.taken (kind := kind) (f := f) (inp := inp)
  rw [State.taken, State.accept_eq] at h0 ⊢
  exact ⟨h0, h1, h2, h3⟩

theorem State.AdmitsPlace.taken {kind : Byte} (h : s.AdmitsPlace a k) : (s.taken kind f inp).AdmitsPlace a k := by
  obtain ⟨h0, h1, h2, h3⟩ := h
  have h0 := h0.taken (kind := kind) (f := f) (inp := inp)
  rw [State.taken, State.accept_eq] at h0 ⊢
  exact ⟨h0, h1, h2, h3⟩

theorem State.taken_closedStep {kind : Byte} : (s.taken kind f inp).closedStep steps = s.closedStep steps := by
  rw [State.taken, State.accept_eq]
  rfl

theorem exec_admit_refused {payload : List Byte} (hh : s.hears 0x0F#8 f) (hlen : f.payload.length = 10)
    (ho : admitOwner f.payload (s.taken 0x0F#8 f inp) = (s.taken 0x0F#8 f inp, payload)) :
    ∃ t, exec (.admitRack f inp) s = .next t ∧ s.onlyAnswered t 0x0F#8 f inp payload :=
  exec_refused (c := .admitRack f inp) rfl hh (by simp [fixedLength, hlen]) ho

/-- The state with a new rack in a slot and its chain booked. -/
theorem State.takeAdmission_eq (s : State) (k : Nat) (a : Admission) (c : Cursor) : s.takeAdmission k a c =
    ((s.setRack k (.fresh a.tag (some a.recipe) a.scale a.load a.loadStation .waitingEntry a.loadStation none s.clock)).bookChain
      k 0 c).turn := rfl

end

end Sys2Proof.Machine
end

section
/-! PROOFS. ADMIT settled. -/

namespace Sys2Proof.Machine

section
variable {s t z y : State} {k n i j scale t0 : Nat} {steps : List Step} {c : Cursor} {m m' first last : Entry} {a : Admission}
  {f : Frame} {inp : Inputs} {iv : Interval} {r : Rack}

/-! ### The stays of the chain (R79) -/

theorem State.AdmitsMove.wait (h : z.AdmitsMove k steps n 0 m) (tl x : Nat) :
    m.stayFrom tl x = ⟨k, x, some (min (m.start + tl) 4294967295), .loadWait, 0⟩ := by
  obtain ⟨hslot, hindex, -⟩ := h.own
  have hdrain : m.drain = 0 := h.drain
  unfold Entry.stayFrom
  rw [hslot, hindex, hdrain]
  rfl

theorem State.AdmitsMove.stay (h : z.AdmitsMove k steps n (j + 1) m) (tl x : Nat) :
    m.stayFrom tl x = ⟨k, x, some (min (m.start + (tl + m.drain)) 4294967295), .immerse, j + 1⟩ := by
  obtain ⟨hslot, hindex, -⟩ := h.own
  unfold Entry.stayFrom
  rw [hslot, hindex]
  rfl

theorem State.AdmitsMove.hold (h : z.AdmitsMove k steps n j m) (x : Nat) :
    holdInterval x m = ⟨k, m.start, some (min (m.start + (m.duration + x)) 4294967295), .unloadHold, j + 1⟩ := by
  obtain ⟨hslot, hindex, -⟩ := h.own
  unfold holdInterval
  rw [hslot, hindex]
  rfl

/-- The chain an admission books, with its first and its last move. -/
structure State.AdmitsChain (z : State) (k : Nat) (steps : List Step) (n : Nat) (c : Cursor) (first last : Entry) : Prop where
  linked : ∃ scale, z.Linked (admissionTrip k steps scale) steps (admissionCursor n z.clock) c.entries
  stays : c.stays = chainStays z.cfg.line z.clock c.entries
  head : c.entries[0]? = some first
  last : c.entries[steps.length]? = some last
  length : c.entries.length = steps.length + 1

theorem State.admitsChain (h0 : t0 ≤ Config.maxSecond)
    (hw : z.walk (admissionTrip k steps scale) (admissionCursor n z.clock) t0 = .ok c) :
    ∃ first last, z.AdmitsChain k steps n c first last := by
  obtain ⟨hlinked, hstays⟩ := State.admission_chain h0 hw
  have hlen := hlinked.length
  exact ⟨_, _, ⟨scale, hlinked⟩, hstays, List.getElem?_eq_getElem (by omega), List.getElem?_eq_getElem (by omega), hlen⟩

section
variable (h : z.AdmitsChain k steps n c first last)
include h

theorem State.AdmitsChain.move (hj : c.entries[j]? = some m) : z.AdmitsMove k steps n j m := by
  obtain ⟨scale, hlinked⟩ := h.linked
  exact hlinked.move hj

theorem State.AdmitsChain.head? : c.entries.head? = some first := by rw [List.head?_eq_getElem?, h.head]

theorem State.AdmitsChain.getLast? : c.entries.getLast? = some last := by
  rw [List.getLast?_eq_getElem?, h.length]
  exact h.last

theorem State.AdmitsChain.next (hj : c.entries[j]? = some m) (hj' : c.entries[j + 1]? = some m') :
    m.dst = m'.src ∧ min (m.start + m.duration) 4294967295 ≤ m'.start := by
  obtain ⟨scale, hlinked⟩ := h.linked
  exact hlinked.next j m m' hj hj'

theorem State.AdmitsChain.station {st : Step} (hj : c.entries[j]? = some m) (hst : steps[j]? = some st) :
    1 ≤ m.dst ∧ m.dst ≤ 16 ∧ m.dst ∈ z.groupStations st.group ∧ z.isOpen m.dst = true := by
  obtain ⟨scale, hlinked⟩ := h.linked
  obtain ⟨h1, h16, hg, ho⟩ := State.mem_tripStations (hlinked.station j m st hj hst)
  exact ⟨h1, h16, hg, ho rfl⟩

theorem State.AdmitsChain.unload : 1 ≤ last.dst ∧ last.dst ≤ 16 ∧ z.role last.dst = .unload ∧ z.isOpen last.dst = true := by
  obtain ⟨scale, hlinked⟩ := h.linked
  obtain ⟨h1, h16, hr, ho⟩ := State.mem_tripUnloads (hlinked.unload last h.last)
  exact ⟨h1, h16, hr, ho rfl⟩

theorem State.AdmitsChain.first_le (hj : c.entries[j]? = some m) : first.start ≤ m.start := by
  obtain ⟨scale, hlinked⟩ := h.linked
  exact hlinked.first_le h.head hj

/-- The stays of the chain: the wait at the load station, one in each station, the hold at the UNLOAD station (R79). -/
theorem State.AdmitsChain.mem_stays : (i, iv) ∈ c.stays ↔
    (i = n ∧ iv = ⟨k, z.clock, some (min (first.start + z.cfg.line.tl) 4294967295), .loadWait, 0⟩) ∨
    (i = last.dst ∧ iv = ⟨k, last.start, some (min (last.start + (last.duration + z.cfg.line.hold)) 4294967295), .unloadHold,
      steps.length + 1⟩) ∨
    ∃ j m, c.entries[j]? = some m ∧ ∃ m', c.entries[j + 1]? = some m' ∧ i = m.dst ∧
      iv = ⟨k, m.start, some (min (m'.start + (z.cfg.line.tl + m'.drain)) 4294967295), .immerse, j + 1⟩ := by
  have hsrc : first.src = n := (h.move h.head).source rfl
  rw [h.stays, mem_chainStays, h.head?, h.getLast?]
  simp only [Option.some.injEq, exists_eq_left', hsrc, (h.move h.head).wait, (h.move h.last).hold]
  refine or_congr_right (or_comm.trans (or_congr_right ?_))
  constructor
  · rintro ⟨j, m, m', hm, hm', hi, hiv⟩
    exact ⟨j, m, hm, m', hm', hi.trans (h.next hm hm').1.symm, hiv.trans ((h.move hm').stay _ _)⟩
  · rintro ⟨j, m, hm, m', hm', hi, hiv⟩
    exact ⟨j, m, m', hm, hm', hi.trans (h.next hm hm').1, hiv.trans ((h.move hm').stay _ _).symm⟩

end

/-! ### The chain booked -/

/-- What booking the chain of a new rack leaves of schedule, planned start and timelines (R58, R89). -/
theorem State.AdmitsChain.booked (h : z.AdmitsChain k steps n c first last) (hy : y.schedule = z.schedule)
    (hyt : y.timelines = z.timelines) (hfree : ∀ m ∈ z.schedule, m.slot ≠ k) (hlen : z.timelines.length = 16)
    (hx : t.schedule = (y.bookChain k 0 c).schedule) (hxt : t.timelines = (y.bookChain k 0 c).timelines)
    (hr : y.rack k = some r) (h0 : r.step = 0) :
    (∀ m, m ∈ t.schedule ↔ m ∈ z.schedule ∨ m ∈ c.entries) ∧ nextStartIn t.schedule k = some first.start ∧
      ∀ i iv, iv ∈ t.timeline i ↔ (iv ∈ z.timeline i ∧ iv.slot ≠ k) ∨ (1 ≤ i ∧ i ≤ 16 ∧ (i, iv) ∈ c.stays) := by
  obtain ⟨⟨hschedule, -, htimeline, -⟩, -⟩ := State.onlyBooked_bookChain hr c
  rw [h0] at hschedule htimeline
  have hmem (m : Entry) : m ∈ t.schedule ↔ m ∈ z.schedule ∨ m ∈ c.entries := by
    rw [hx, hschedule, hy]
    exact or_congr_left ⟨fun h => h.1, fun h => ⟨h, .inl (hfree m h)⟩⟩
  refine ⟨hmem, ?_, fun i iv => ?_⟩
  · refine nextStartIn_of_least ?_ fun m hm hk _ => ?_
    · obtain ⟨hk, -, hx, -⟩ := (h.move h.head).own
      exact ⟨first, (hmem _).mpr (.inr (List.mem_of_getElem? h.head)), hk, hx, rfl⟩
    · rcases (hmem m).mp hm with hm | hm
      · exact (hfree m hm hk).elim
      · obtain ⟨j, hj⟩ := List.mem_iff_getElem?.mp hm
        exact h.first_le hj
  · have hylen : y.timelines.length = 16 := by rw [hyt]; exact hlen
    have hblen : (y.bookChain k 0 c).timelines.length = 16 := (y.bookChain_timelines_length k 0 c).trans hylen
    have hz (i : Nat) : y.timeline i = z.timeline i := by rw [State.timeline, hyt, State.timeline]
    have ht (i : Nat) : t.timeline i = (y.bookChain k 0 c).timeline i := by rw [State.timeline, hxt, State.timeline]
    by_cases hi : 1 ≤ i ∧ i ≤ 16
    · rw [ht, htimeline i hi.1 (by rw [hylen]; exact hi.2), hz]
      simp only [Nat.not_lt_zero, or_false, hi, true_and]
    · rw [ht, State.timeline_outside (s := y.bookChain k 0 c) (by omega), State.timeline_outside (s := z) (by omega)]
      simp only [List.not_mem_nil, false_and, false_or, false_iff]
      exact fun hx => hi ⟨hx.1, hx.2.1⟩

end

end Sys2Proof.Machine
end

section
/-! PROOFS. ADMIT settled: a rack taken, and the refusals in their order. -/

namespace Sys2Proof.Machine

section
variable {s : State} {k n tag rec scale load notBefore : Nat} {f : Frame} {inp : Inputs} {c : Cursor}

theorem State.taken_groupStations {kind : Byte} (g : Nat) : (s.taken kind f inp).groupStations g = s.groupStations g := by
  rw [State.taken, State.accept_eq]; rfl

theorem State.taken_timeline {kind : Byte} (i : Nat) : (s.taken kind f inp).timeline i = s.timeline i := by
  rw [State.timeline, State.taken_timelines, State.timeline]

/-- An ADMIT with every check passed and a chain found takes the slot and books the chain. -/
theorem exec_admit {t0 : Nat} {a : Admission} (hh : s.hears 0x0F#8 f) (hlen : f.payload.length = 10) (ha : Admission.parse f.payload = a)
    (hplace : s.AdmitsPlace a k) (hclosed : s.closedStep (s.recipe a.recipe) = none)
    (ht0 : t0 = firstCandidate s.clock a.notBefore)
    (hw : (s.taken 0x0F#8 f inp).walk (admissionTrip k (s.recipe a.recipe) a.scale) (admissionCursor a.loadStation s.clock) t0 = .ok c)
    (hlink : ((s.taken 0x0F#8 f inp).takeAdmission k a c).link = (s.taken 0x0F#8 f inp).link) :
    ∃ t, exec (.admitRack f inp) s = .next t ∧ t = { (s.taken 0x0F#8 f inp).takeAdmission k a c with
      link := s.replying 0x0F#8 f inp (replyOk (b1 k ++ b4 c.entrySecond ++ b4 c.arrivalSecond)), out := t.out } := by
  refine exec_granted (c := .admitRack f inp) rfl hh (by simp [fixedLength, hlen]) ?_ hlink
  have hclock : (s.taken 0x0F#8 f inp).clock = s.clock := State.taken_clock ..
  have hrecipe : (s.taken 0x0F#8 f inp).recipe a.recipe = s.recipe a.recipe := by rw [State.taken, State.accept_eq]; rfl
  refine admitOwner_taken ha hplace.taken ?_ ?_
  · rw [hrecipe, State.taken_closedStep]
    exact hclosed
  · rw [hrecipe, hclock, ← ht0]
    exact hw

theorem State.taken_orphanInBath {kind : Byte} : (s.taken kind f inp).orphanInBath = s.orphanInBath := by
  rw [State.taken, State.accept_eq]; rfl

theorem State.taken_admissionInRange {kind : Byte} (a : Admission) :
    (s.taken kind f inp).admissionInRange a = s.admissionInRange a := by
  rw [State.taken, State.accept_eq]; rfl

theorem State.taken_recipeAt {kind : Byte} (j : Nat) : (s.taken kind f inp).recipe j = s.recipe j := by
  rw [State.taken, State.accept_eq]; rfl

theorem State.taken_rackTagged {kind : Byte} (v : Nat) : (s.taken kind f inp).rackTagged v = s.rackTagged v := by
  rw [State.taken, State.accept_eq]; rfl

theorem State.taken_lowestFree {kind : Byte} : (s.taken kind f inp).lowestFree = s.lowestFree := by
  rw [State.taken, State.accept_eq]; rfl

theorem State.taken_rackAt {kind : Byte} (j : Nat) : (s.taken kind f inp).rackAt j = s.rackAt j := by
  rw [State.taken, State.accept_eq]; rfl

/-- The first step without an open station is the one R57 names. -/
theorem State.closedStep_of_step {steps : List Step} {j : Nat} {st : Step} (hst : steps[j]? = some st)
    (hclosed : ∀ m ∈ s.groupStations st.group, s.isOpen m = false)
    (hlower : ∀ (i : Nat) (x : Step), i < j → steps[i]? = some x → ∃ m ∈ s.groupStations x.group, s.isOpen m = true) :
    s.closedStep steps = some (j + 1) := by
  have hfind : (steps.findIdx? fun st => !(s.groupStations st.group).any s.isOpen) = some j := by
    obtain ⟨hj, heq⟩ := List.getElem?_eq_some_iff.mp hst
    refine List.findIdx?_eq_some_iff_getElem.mpr ⟨hj, ?_, fun i hi => ?_⟩
    · rw [heq, Bool.not_eq_true', Bool.eq_false_iff]
      intro h
      obtain ⟨m, hm, ho⟩ := State.groupOpen_iff.mp h
      rw [hclosed m hm] at ho
      cases ho
    · have hopen := State.groupOpen_iff.mpr (hlower i _ hi (List.getElem?_eq_getElem (by omega)))
      simp [hopen]
  unfold State.closedStep
  rw [hfind]

theorem State.closedStep_of_unloads {steps : List Step}
    (hopen : ∀ st ∈ steps, ∃ m ∈ s.groupStations st.group, s.isOpen m = true) (hclosed : ∀ m ∈ s.unloads, s.isOpen m = false) :
    s.closedStep steps = some (steps.length + 1) := by
  have hfind : (steps.findIdx? fun st => !(s.groupStations st.group).any s.isOpen) = none :=
    List.findIdx?_eq_none_iff.mpr fun st hst => by
      have h := State.groupOpen_iff.mpr (hopen st hst)
      simp [h]
  have hnone : s.unloads.any s.isOpen = false := by
    rw [List.any_eq_false]
    exact fun m hm => by rw [hclosed m hm]; decide
  unfold State.closedStep
  rw [hfind, hnone]
  rfl

theorem payload_length {p : List Byte} (hp : p = b2 tag ++ b1 rec ++ b1 scale ++ b1 load ++ b1 n ++ b4 notBefore) :
    p.length = 10 := by
  rw [hp]
  simp

/-- What the admission of a rack leaves. -/
theorem admit_taken {a : Admission} (hh : s.hears 0x0F#8 f) (hlen : f.payload.length = 10) (ha : Admission.parse f.payload = a)
    (hplace : s.AdmitsPlace a k) (hclosed : s.closedStep (s.recipe a.recipe) = none) (hslots : s.slots.length = 24) (hk : k < 24)
    (hnb : a.notBefore ≤ 4294967295) (htl : s.timelines.length = 16)
    (hfree : ∀ m ∈ s.schedule, m.slot ≠ k)
    (hw : (s.taken 0x0F#8 f inp).walk (admissionTrip k (s.recipe a.recipe) a.scale) (admissionCursor a.loadStation s.clock)
      (firstCandidate s.clock a.notBefore) = .ok c) :
    ∃ t first last, exec (.admitRack f inp) s = .next t ∧
      (s.taken 0x0F#8 f inp).AdmitsChain k (s.recipe a.recipe) a.loadStation c first last ∧
      (∀ m, m ∈ t.schedule ↔ m ∈ s.schedule ∨ m ∈ c.entries) ∧
      t.rack k = some (.fresh a.tag (some a.recipe) a.scale a.load a.loadStation .waitingEntry a.loadStation (some first.start) s.clock) ∧
      (∀ j, j ≠ k → t.rack j = s.rack j) ∧
      (∀ i iv, iv ∈ t.timeline i ↔ (iv ∈ s.timeline i ∧ iv.slot ≠ k) ∨ (1 ≤ i ∧ i ≤ 16 ∧ (i, iv) ∈ c.stays)) ∧
      (s.driver.state = .idle ∨ s.driver.state = .waiting → t.turnedFrom s.driver) ∧
      t.link = s.replying 0x0F#8 f inp (0#8 :: b1 k ++ b4 first.start ++ b4 (min (last.start + last.duration) 4294967295)) ∧
      t = { s.taken 0x0F#8 f inp with link := t.link, out := t.out, slots := t.slots, schedule := t.schedule,
                                      timelines := t.timelines, deferred := s.deferred.filter (·.slot != k),
                                      driver := t.driver } := by
  have hclock : (s.taken 0x0F#8 f inp).clock = s.clock := State.taken_clock ..
  have hmax : firstCandidate s.clock a.notBefore ≤ Config.maxSecond := max_le (min_le_right _ _) hnb
  obtain ⟨first, last, hchain⟩ := State.admitsChain (z := s.taken 0x0F#8 f inp) hmax (by rw [hclock]; exact hw)
  have heq := (s.taken 0x0F#8 f inp).takeAdmission_eq k a c
  rw [hclock] at heq
  generalize hr : Rack.fresh a.tag (some a.recipe) a.scale a.load a.loadStation .waitingEntry a.loadStation none s.clock = r at heq
  have hlt : k < (s.taken 0x0F#8 f inp).slots.length := by rw [State.taken_slots, hslots]; exact hk
  have hyr : ((s.taken 0x0F#8 f inp).setRack k r).rack k = some r := State.rack_setRack_same _ _ hlt
  have hstep : r.step = 0 := by rw [← hr]; rfl
  have hbooked {t : State} (hx : t.schedule = _) (hxt : t.timelines = _) :=
    hchain.booked (t := t) (y := (s.taken 0x0F#8 f inp).setRack k r) rfl rfl
      (by rw [State.taken_schedule]; exact hfree) (by rw [State.taken_timelines]; exact htl) hx hxt hyr hstep
  have honly := State.onlyBooked_bookChain hyr c
  rw [hstep] at honly
  obtain ⟨⟨-, hdeferred, -, -⟩, hframe⟩ := honly
  generalize ((s.taken 0x0F#8 f inp).setRack k r).bookChain k 0 c = x at heq hbooked hdeferred hframe
  have hxdriver : x.driver = s.driver := by
    rw [hframe]
    exact State.taken_driver ..
  have hturned (h : s.driver.state = .idle ∨ s.driver.state = .waiting) : x.turn.turnedFrom s.driver := by
    rw [← hxdriver] at h ⊢
    exact State.turnedFrom_turn h
  have hturn := x.turn_eq
  obtain ⟨t, hexec, ht⟩ := exec_admit (inp := inp) hh hlen ha hplace hclosed rfl hw (by rw [heq, hturn, hframe]; rfl)
  rw [heq] at ht
  generalize x.turn = w at hturn ht hturned
  have htschedule : t.schedule = x.schedule := by rw [ht, hturn]
  have httimelines : t.timelines = x.timelines := by rw [ht, hturn]
  obtain ⟨hschedule, hnext, htimeline⟩ := hbooked htschedule httimelines
  rw [htschedule] at hnext
  have htslots : t.slots = (((s.taken 0x0F#8 f inp).setRack k r).setRack k
      { r with nextStart := nextStartIn x.schedule k }).slots := by rw [ht, hturn, hframe]; rfl
  refine ⟨t, first, last, hexec, hchain, fun m => ?_, ?_, fun j hj => ?_, fun i iv => ?_, fun h => ?_, ?_, ?_⟩
  · rw [hschedule, State.taken_schedule]
  · rw [State.rack_congr htslots, State.rack_setRack_of hyr, hnext, ← hr]
    rfl
  · rw [State.rack_congr htslots, State.rack_setRack_other _ _ hj, State.rack_setRack_other _ _ hj]
    exact State.taken_rack j
  · rw [htimeline, State.taken_timeline]
  · have := hturned h
    rw [ht]
    exact this
  · have hentry : c.entrySecond = first.start := by rw [Cursor.entrySecond, hchain.head?]; rfl
    have harrival : c.arrivalSecond = addSec last.start last.duration := by rw [Cursor.arrivalSecond, hchain.getLast?]; rfl
    rw [ht, hentry, harrival, replyOk_eq]
    rfl
  · have htdeferred : x.deferred = s.deferred.filter (·.slot != k) := by
      rw [hdeferred]
      exact congrArg _ (State.taken_deferred ..)
    rw [ht, hturn, hframe, ← htdeferred]
    rfl

end

/-- Settles O42: the checks of R57 in their order, and the chain the walk answers. -/
theorem admitTakesTheSlotAndBooksTheChain : Obligations.AdmitTakesTheSlotAndBooksTheChain := by
  unfold Obligations.AdmitTakesTheSlotAndBooksTheChain
  constructor
  · intro f inp s tag rec scale load n notBefore k c hh hp hready horphans htag1 htag2 hrec hscale1 hscale2 hload1 hload2 hnb
      hrecipe htag hslots hk hnone hlower hrole hn hpresence halone htl hclock hopen hunload hfree hw
    have ha : Admission.parse f.payload = ⟨tag, rec, scale, load, n, notBefore⟩ := by
      rw [hp]
      exact Admission.parse_of (by omega) (by omega) (by omega) (by omega) (by omega) hnb
    have hconf := State.configured_iff.mp (State.configured_of_role (s := s) (n := n) (by rw [hrole]; decide))
    have hplace : s.AdmitsPlace ⟨tag, rec, scale, load, n, notBefore⟩ k :=
      { ready := hready
        orphans := Bool.eq_false_iff.mpr fun h => by
          obtain ⟨e, he, hx⟩ := State.orphanInBath_iff.mp h
          exact horphans e he hx
        inRange := State.admissionInRange_iff.mpr
          ⟨htag1, htag2, hrec, hscale1, hscale2, hload1, hload2, hconf.1, hconf.2⟩
        recipe := hrecipe
        tag := State.rackTagged_none_iff.mpr htag
        slot := State.lowestFree_iff.mpr ⟨hk, hnone, hlower⟩
        load := hrole
        presence := hpresence
        alone := (State.rackAt_none_iff (n := n) (by omega)).mpr halone }
    obtain ⟨t, first, last, hexec, hchain, hschedule, hrack, hother, htimeline, hturned, hlink, ht⟩ := admit_taken hh
      (payload_length hp) ha hplace (State.closedStep_none_iff.mpr ⟨hopen, hunload⟩) hslots hk hnb htl hfree hw
    have hcfg : (s.taken 0x0F#8 f inp).cfg = s.cfg := State.taken_cfg ..
    have hzclock : (s.taken 0x0F#8 f inp).clock = s.clock := State.taken_clock ..
    have hmem {i : Nat} {iv : Interval} := hchain.mem_stays (i := i) (iv := iv)
    rw [hcfg, hzclock] at hmem
    have hin {i : Nat} {iv : Interval} (h1 : 1 ≤ i) (h16 : i ≤ 16) (h : (i, iv) ∈ c.stays) : iv ∈ t.timeline i :=
      (htimeline i iv).mpr (.inr ⟨h1, h16, h⟩)
    have hslot {i : Nat} {iv : Interval} (h : (i, iv) ∈ c.stays) : iv.slot = k := by
      rcases hmem.mp h with ⟨-, rfl⟩ | ⟨-, rfl⟩ | ⟨_, _, _, _, _, -, rfl⟩
      · rfl
      · rfl
      · rfl
    refine ⟨t, first, last, hexec, hchain.head?, hchain.getLast?, hchain.length, fun j m hj => ?_, hschedule, hrack, hother, ?_,
      fun i iv hiv => ?_, hturned, hlink, ht⟩
    · have hmove := hchain.move hj
      obtain ⟨h1, h2, h3, h4⟩ := hmove.own
      have hduration := hmove.duration
      have hspanStart := hmove.spanStart
      have hspanEnd := hmove.spanEnd
      rw [hcfg] at hduration hspanStart hspanEnd
      refine ⟨h1, h2, h3, h4, hduration, hmove.firm, hmove.drain, hmove.source, hmove.kind, hspanStart, hspanEnd,
        fun m' hj' => hchain.next hj hj', fun st hst => ?_, fun hlast => ?_⟩
      · obtain ⟨-, -, hg, ho⟩ := hchain.station hj hst
        exact ⟨by rw [State.taken_groupStations] at hg; exact hg, by rw [State.taken_isOpen] at ho; exact ho⟩
      · have hm : m = last := Option.some.inj ((hlast ▸ hj).symm.trans hchain.last)
        obtain ⟨-, -, hr, ho⟩ := hchain.unload
        rw [hm]
        exact ⟨by rw [State.taken_role] at hr; exact hr, by rw [State.taken_isOpen] at ho; exact ho⟩
    · rintro wait hold rfl rfl
      obtain ⟨hd1, hd16, -, -⟩ := hchain.unload
      refine ⟨hin hconf.1 hn (hmem.mpr (.inl ⟨rfl, rfl⟩)), hin hd1 hd16 (hmem.mpr (.inr (.inl ⟨rfl, rfl⟩))),
        fun j m hj m' hj' => ?_, fun i iv hiv hivk => ?_⟩
      · have hlt : j < (s.recipe rec).length := by
          have := (List.getElem?_eq_some_iff.mp hj').1
          have hlen : c.entries.length = (s.recipe rec).length + 1 := hchain.length
          omega
        obtain ⟨h1, h16, -, -⟩ := hchain.station hj (List.getElem?_eq_getElem hlt)
        exact hin h1 h16 (hmem.mpr (.inr (.inr ⟨j, m, hj, m', hj', rfl, rfl⟩)))
      · rcases (htimeline i iv).mp hiv with ⟨-, hne⟩ | ⟨-, -, h⟩
        · exact (hne hivk).elim
        · exact hmem.mp h
    · rw [htimeline]
      exact ⟨fun h => h.elim (·.1) fun h => (hiv (hslot h.2.2)).elim, fun h => .inl ⟨h, hiv⟩⟩
  · intro f inp s tag rec scale load n notBefore orphans inRange refused hh hp htag hrec hscale hload hn hnb hrefused horphans
      hinRange
    have ha : Admission.parse f.payload = ⟨tag, rec, scale, load, n, notBefore⟩ := by
      rw [hp]
      exact Admission.parse_of htag hrec hscale hload hn hnb
    have hgo {p : List Byte} (h : admitOwner f.payload (s.taken 0x0F#8 f inp) = (s.taken 0x0F#8 f inp, p)) : refused p :=
      (hrefused p).mpr (exec_admit_refused hh (payload_length hp) h)
    have hline (h : s.line.state = .ready) : (s.taken 0x0F#8 f inp).line.state = .ready := by rw [State.taken_line]; exact h
    have hno (h : ¬ orphans) : s.orphanInBath = false := Bool.eq_false_iff.mpr fun hx =>
      h (horphans.mpr (State.orphanInBath_iff.mp hx))
    have hrange : inRange ↔ s.admissionInRange ⟨tag, rec, scale, load, n, notBefore⟩ = true := by
      rw [hinRange, State.admissionInRange_iff]
      exact ⟨fun ⟨h1, h2⟩ => ⟨h1, htag, h2⟩, fun ⟨h1, _, h2⟩ => ⟨h1, h2⟩⟩
    have hpassed (h1 : s.line.state = .ready) (h2 : ¬ orphans) (h3 : inRange) :
        s.AdmitsRange ⟨tag, rec, scale, load, n, notBefore⟩ := ⟨h1, hno h2, hrange.mp h3⟩
    refine ⟨fun h => ?_, fun h ho => ?_, fun h ho hr => ?_, fun h ho hr hempty => ?_, fun h ho hr hrecipe => ?_⟩
    · exact hgo (admitOwner_notReady (by rw [State.taken_line]; exact h))
    · exact hgo (admitOwner_orphans (hline h) (by
        rw [State.taken_orphanInBath]; exact State.orphanInBath_iff.mpr (horphans.mp ho)))
    · refine hgo (admitOwner_outOfRange (hline h) (by rw [State.taken_orphanInBath]; exact hno ho) ?_)
      rw [ha, State.taken_admissionInRange]
      exact Bool.eq_false_iff.mpr fun hx => hr (hrange.mpr hx)
    · exact hgo (admitOwner_noRecipe ha (hpassed h ho hr).taken (by rw [State.taken_recipeAt]; exact hempty))
    have hrange' := hpassed h ho hr
    have hrecipe' : (s.taken 0x0F#8 f inp).recipe rec ≠ [] := by rw [State.taken_recipeAt]; exact hrecipe
    have hn0 : n ≠ 0 := by
      have := (hinRange.mp hr).2.2.2.2.2.2.1
      omega
    refine ⟨fun hdup => ?_, fun htags hfull => ?_, fun k htags hk hnone hlower => ?_⟩
    · refine hgo (admitOwner_duplicate ha hrange'.taken hrecipe' ?_)
      rw [State.taken_rackTagged, Option.isSome_iff_ne_none]
      intro hx
      obtain ⟨e, he, het⟩ := hdup
      exact State.rackTagged_none_iff.mp hx e he het
    · refine hgo (admitOwner_full ha hrange'.taken hrecipe' ?_ ?_)
      · rw [State.taken_rackTagged]
        exact State.rackTagged_none_iff.mpr htags
      · rw [State.taken_lowestFree]
        exact State.lowestFree_none_iff.mpr hfull
    have hrack : s.AdmitsRack ⟨tag, rec, scale, load, n, notBefore⟩ k :=
      { hrange' with
        recipe := hrecipe, tag := State.rackTagged_none_iff.mpr htags, slot := State.lowestFree_iff.mpr ⟨hk, hnone, hlower⟩ }
    refine ⟨fun hp => ?_, fun hload' hpres => ⟨fun huse => ?_, fun halone => ?_⟩⟩
    · refine hgo (admitOwner_notPresent ha hrack.taken ?_)
      rw [State.taken_role, State.taken_bath]
      exact hp
    · refine hgo (admitOwner_inUse ha hrack.taken (by rw [State.taken_role]; exact hload') (by rw [State.taken_bath]; exact hpres) ?_)
      rw [State.taken_rackAt, Option.isSome_iff_ne_none]
      intro hx
      obtain ⟨e, he, het⟩ := huse
      exact (State.rackAt_none_iff hn0).mp hx e he het
    have hplace : s.AdmitsPlace ⟨tag, rec, scale, load, n, notBefore⟩ k :=
      { hrack with load := hload', presence := hpres, alone := (State.rackAt_none_iff hn0).mpr halone }
    have hclosed {j : Nat} (hj : s.closedStep (s.recipe rec) = some j) : refused (12#8 :: b1 j) :=
      hgo (admitOwner_closed ha hplace.taken (by rw [State.taken_closedStep, State.taken_recipeAt]; exact hj))
    refine ⟨fun j st hst hcl hlow => ?_, fun hopen hcl => ?_, fun hopen hun why hwhy => ?_⟩
    · exact hclosed (State.closedStep_of_step hst hcl hlow)
    · exact hclosed (State.closedStep_of_unloads hopen hcl)
    · refine hgo (admitOwner_noSlot ha hplace.taken ?_ ?_)
      · rw [State.taken_closedStep, State.taken_recipeAt]
        exact State.closedStep_none_iff.mpr ⟨hopen, hun⟩
      · rw [State.taken_recipeAt, State.taken_clock]
        exact hwhy

end Sys2Proof.Machine
end

section
/-! PROOFS. The lift of a rack: exhaustion and the delivery it calls for (8.5, 8.6). -/

namespace Sys2Proof.Machine

/-! ### The newest entry that satisfies a test -/

section
variable {α : Type} {p : α → Bool} {f : α → α} {l : List α}

theorem modifyLast_of_none (h : ∀ x ∈ l, p x = false) : modifyLast p f l = none := by
  induction l with
  | nil => rfl
  | cons x xs ih =>
    unfold modifyLast
    rw [ih fun y hy => h y (List.mem_cons_of_mem x hy)]
    simp [h x List.mem_cons_self]

theorem modifyLast_of_last {i : Nat} {d : α} (hi : l[i]? = some d) (hd : p d = true)
    (hlast : ∀ (j : Nat) (x : α), i < j → l[j]? = some x → p x = false) : modifyLast p f l = some (l.set i (f d)) := by
  induction l generalizing i with
  | nil => cases hi
  | cons x xs ih =>
    unfold modifyLast
    cases i with
    | zero =>
      cases hi
      have hnone : ∀ y ∈ xs, p y = false := fun y hy => by
        obtain ⟨j, hj⟩ := List.mem_iff_getElem?.mp hy
        exact hlast (j + 1) y (Nat.succ_pos j) hj
      rw [modifyLast_of_none hnone]
      simp [hd]
    | succ i =>
      rw [ih hi fun j y hj hy => hlast (j + 1) y (Nat.succ_lt_succ hj) hy]
      rfl

end

section
variable {s t u : State} {k n load tag volume credit : Nat}

/-! ### The queue (R138) -/

theorem State.enqueue_room (h : s.deliveries.length < 16) (k n volume credit : Nat) :
    s.enqueue k n volume credit = { s with deliveries := s.deliveries ++ [⟨n, volume, credit, s.clock, false⟩] } := if_pos h

theorem State.enqueue_merged {i : Nat} {d : Delivery} (h : 16 ≤ s.deliveries.length) (hi : s.deliveries[i]? = some d)
    (hn : d.station = n) (hd : d.running = false)
    (hlast : ∀ j x, i < j → s.deliveries[j]? = some x → x.station = n → x.running = true) (k volume credit : Nat) :
    s.enqueue k n volume credit = { s with
      deliveries := s.deliveries.set i { d with volume := min (d.volume + volume) 9999, credit := d.credit + credit } } := by
  unfold State.enqueue
  rw [if_neg (by simp only [Config.replenishCapacity]; omega),
    modifyLast_of_last hi (by simp [hn, hd]) fun j x hj hx => by
      by_cases hxn : x.station = n
      · simp [hxn, hlast j x hj hx hxn]
      · simp [hxn]]
  rfl

theorem State.enqueue_dropped (h : 16 ≤ s.deliveries.length) (hall : ∀ d ∈ s.deliveries, d.station = n → d.running = true)
    (k volume credit : Nat) : s.enqueue k n volume credit = s.postRack .replenishOverflow n k volume := by
  unfold State.enqueue
  rw [if_neg (by simp only [Config.replenishCapacity]; omega), modifyLast_of_none fun d hd => by
    by_cases hdn : d.station = n
    · simp [hdn, hall d hd hdn]
    · simp [hdn]]

/-! ### The lift (R136, R138) -/

/-- What a lift of a rack of the given load out of station `n` does to the bath and the replenish queue. -/
structure State.Replenishes (s : State) (k n load : Nat) (t : State) : Prop where
  frame : t = { s with baths := t.baths, deliveries := t.deliveries, events := t.events, lost := t.lost }
  exhaustion : (t.bath n).exhaustion = s.risenIndex n load
  room : s.isBath n = true → load * (s.stationCfg n).mlPerLoad ≠ 0 → s.deliveries.length < 16 → t.deliveries = s.deliveries ++
    [⟨n, load * (s.stationCfg n).mlPerLoad, (t.bath n).exhaustion - (s.bath n).exhaustion, s.clock, false⟩]
  merged : s.isBath n = true → load * (s.stationCfg n).mlPerLoad ≠ 0 → 16 ≤ s.deliveries.length →
    ∀ i d, s.deliveries[i]? = some d → d.station = n → d.running = false →
      (∀ j x, i < j → s.deliveries[j]? = some x → x.station = n → x.running = true) →
      t.deliveries = s.deliveries.set i { d with
        volume := min (d.volume + load * (s.stationCfg n).mlPerLoad) 9999
        credit := d.credit + ((t.bath n).exhaustion - (s.bath n).exhaustion) }
  dropped : s.isBath n = true → load * (s.stationCfg n).mlPerLoad ≠ 0 → 16 ≤ s.deliveries.length →
    (∀ d ∈ s.deliveries, d.station = n → d.running = true) →
    t.deliveries = s.deliveries ∧ s.posted t .replenishOverflow n k (s.tagOf k) (load * (s.stationCfg n).mlPerLoad)
  kept : s.isBath n = false ∨ load * (s.stationCfg n).mlPerLoad = 0 → t.deliveries = s.deliveries

theorem State.raiseIndex_frame (s : State) (n load : Nat) : s.raiseIndex n load = { s with
    baths := (s.raiseIndex n load).baths, events := (s.raiseIndex n load).events, lost := (s.raiseIndex n load).lost } := by
  unfold State.raiseIndex
  split
  · exact s.setExhaustionIndex_frame n _
  · rfl

theorem State.raiseIndex_exhaustion (h1 : 1 ≤ n) (hn : n ≤ s.baths.length) (load : Nat) :
    ((s.raiseIndex n load).bath n).exhaustion = s.risenIndex n load := by
  unfold State.raiseIndex
  split
  · obtain ⟨l, hl⟩ := s.bath_setExhaustionIndex_same h1 hn (s.risenIndex n load)
    rw [hl]
  · next h => rw [State.risenIndex, if_neg h]

theorem State.enqueue_frame (s : State) (k n volume credit : Nat) : s.enqueue k n volume credit = { s with
    deliveries := (s.enqueue k n volume credit).deliveries, events := (s.enqueue k n volume credit).events
    lost := (s.enqueue k n volume credit).lost } := by
  unfold State.enqueue
  split
  · rfl
  · split
    · rfl
    · rw [State.postRack, State.post_eq]

theorem State.replenishes_lift (h1 : 1 ≤ n) (hn : n ≤ s.baths.length) (k load : Nat) :
    s.Replenishes k n load (s.liftReplenish k n load) := by
  by_cases hb : s.isBath n = true
  · have hraise := s.raiseIndex_frame n load
    have hexh := s.raiseIndex_exhaustion h1 hn load
    rw [s.liftReplenish_of_isBath hb]
    generalize s.raiseIndex n load = v at hraise hexh
    have hdeliveries : v.deliveries = s.deliveries := by rw [hraise]
    have hclock : v.clock = s.clock := by rw [hraise]
    have htag : v.tagOf k = s.tagOf k := by rw [hraise]; rfl
    by_cases hz : load * (s.stationCfg n).mlPerLoad = 0
    · rw [if_pos hz]
      exact ⟨by rw [hraise], hexh, fun _ h => (h hz).elim, fun _ h => (h hz).elim, fun _ h => (h hz).elim, fun _ => hdeliveries⟩
    · rw [if_neg hz]
      have hframe := v.enqueue_frame k n (load * (s.stationCfg n).mlPerLoad) (s.risenIndex n load - (s.bath n).exhaustion)
      have hbaths : (v.enqueue k n (load * (s.stationCfg n).mlPerLoad) (s.risenIndex n load - (s.bath n).exhaustion)).bath n =
          v.bath n := by
        rw [hframe]
        rfl
      refine ⟨?_, by rw [hbaths, hexh], fun _ _ hroom => ?_, fun _ _ hfull i d hi hd hr hlast => ?_, fun _ _ hfull hall => ?_,
        fun h => ?_⟩
      · generalize v.enqueue k n (load * (s.stationCfg n).mlPerLoad) (s.risenIndex n load - (s.bath n).exhaustion) = x at hframe
        rw [hframe, hraise]
      · rw [hbaths, hexh, State.enqueue_room (by rw [hdeliveries]; exact hroom), hdeliveries, hclock]
      · rw [hbaths, hexh, State.enqueue_merged (by rw [hdeliveries]; exact hfull) (by rw [hdeliveries]; exact hi) hd hr
          (by rw [hdeliveries]; exact hlast), hdeliveries]
      · rw [State.enqueue_dropped (by rw [hdeliveries]; exact hfull) (by rw [hdeliveries]; exact hall)]
        refine ⟨(State.post_deliveries ..).trans hdeliveries, ?_⟩
        rw [State.postRack, htag]
        exact State.posted_post hclock
      · rcases h with h | h
        · rw [h] at hb; cases hb
        · exact (hz h).elim
  · have hno : s.liftReplenish k n load = s := if_neg hb
    have hrole : s.role n ≠ .develop := fun h => hb (by rw [State.isBath, h]; rfl)
    rw [hno]
    exact ⟨rfl, by rw [State.risenIndex, if_neg hrole], fun h => (hb h).elim, fun h => (hb h).elim, fun h => (hb h).elim,
      fun _ => rfl⟩

end

end Sys2Proof.Machine
end

section
/-! PROOFS. A move that begins (6.3). -/

namespace Sys2Proof.Machine

section
variable {s t u v x : State} {e : Entry} {rest : List Entry} {r : Rack} {inp : Inputs}

theorem State.markExecuting_of (hs : s.schedule = e :: rest) :
    s.markExecuting = { s with schedule := startEntry s.clock e :: rest } := by
  unfold State.markExecuting
  simp only [hs]

/-- The record of the rack whose move begins, with its planned start (R53, R54). -/
def State.startedRack (s : State) (e : Entry) (rest : List Entry) (r : Rack) : Rack :=
  { s.liftedRack e r with nextStart := nextStartIn (startEntry s.clock e :: rest) e.slot }

/-- The part once the move is EXECUTING and the Tracker has its start notice. -/
def State.noticed (s : State) (e : Entry) (rest : List Entry) (r : Rack) : State := { s with
  schedule := startEntry s.clock e :: rest
  slots := s.slots.set e.slot (some (s.startedRack e rest r)) }

theorem State.startNotices_eq (hs : s.schedule = e :: rest) (hr : s.rack e.slot = some r) :
    s.markExecuting.startNotices e =
      ((if r.station = e.src then (s.noticed e rest r).liftReplenish e.slot e.src r.load else s.noticed e rest r).dropPlan
        e.slot).setValve r.station false := by
  have hmark : s.markExecuting.rack e.slot = some r := by
    rw [State.markExecuting_eq]
    exact (State.rack_congr rfl _).trans hr
  have hlift : s.markExecuting.liftedRack e r = s.liftedRack e r := by rw [State.markExecuting_eq]; rfl
  have hnote : (s.markExecuting.setRack e.slot (s.liftedRack e r)).noteStart e.slot = s.noticed e rest r := by
    rw [State.noteStart_eq (State.rack_setRack_of hmark _), State.markExecuting_of hs]
    unfold State.noticed State.setRack
    rw [List.set_set]
    rfl
  unfold State.startNotices
  simp only [hmark]
  rw [hlift, hnote]

theorem State.noticed_rack (hr : s.rack e.slot = some r) (rest : List Entry) :
    (s.noticed e rest r).rack e.slot = some (s.startedRack e rest r) ∧
      ∀ j, j ≠ e.slot → (s.noticed e rest r).rack j = s.rack j := by
  have hslots : (s.noticed e rest r).slots = (s.setRack e.slot (s.startedRack e rest r)).slots := rfl
  exact ⟨(State.rack_congr hslots _).trans (State.rack_setRack_of hr _),
    fun j hj => (State.rack_congr hslots j).trans (State.rack_setRack_other _ _ hj)⟩

/-- The planned start noted is not after any booked move left (R53). -/
theorem State.startedRack_next (s : State) (e : Entry) (r : Rack) :
    ∀ m ∈ rest, m.slot = e.slot → m.executing = false → ∃ x, (s.startedRack e rest r).nextStart = some x ∧ x ≤ m.start := by
  intro m hm hk hx
  show ∃ x, nextStartIn (startEntry s.clock e :: rest) e.slot = some x ∧ x ≤ m.start
  have hmem : m.start ∈ ((startEntry s.clock e :: rest).filter (Entry.bookedFor e.slot)).map (·.start) :=
    List.mem_map_of_mem (List.mem_filter.mpr ⟨List.mem_cons_of_mem _ hm, by simp [Entry.bookedFor, hk, hx]⟩)
  unfold nextStartIn
  rw [least_eq_min?]
  cases hmin : (((startEntry s.clock e :: rest).filter (Entry.bookedFor e.slot)).map (·.start)).min? with
  | none =>
    rw [List.min?_eq_none_iff.mp hmin] at hmem
    cases hmem
  | some x => exact ⟨x, rfl, (List.min?_eq_some_iff.mp hmin).2 _ hmem⟩

theorem State.beginRaise_of_low (h : s.pins.hoistUp = false) (e : Entry) : s.beginRaise e = { s with driver := { s.driver with
    state := .raise, entry := some (e.slot, e.index), phaseStart := some s.clock, upSecond := none
    deadline := some (addSec s.clock (s.cfg.line.tl + s.cfg.line.margin)) } } :=
  if_neg (by
    show ¬ s.pins.hoistUp = true
    rw [h]; decide)

/-- A hoist that stands at its up-limit ends RAISE at once, and with no drain TRAVEL begins (R97 to R99). -/
theorem State.beginRaise_of_high (h : s.pins.hoistUp = true) (hsrc : s.standsAt e.src = true) (hdst : s.standsAt e.dst = false)
    (hhook : s.pins.hook = true) (hdrain : e.drain = 0) : ∃ d, s.beginRaise e = { s with driver := d } ∧
      d.state = .travel ∧ d.goTo = e.dst ∧ d.upSecond = some s.clock ∧ d.entry = some (e.slot, e.index) := by
  let a : State := { s with driver := { s.driver with
    state := .raise, entry := some (e.slot, e.index), phaseStart := some s.clock, upSecond := none
    deadline := some (addSec s.clock (s.cfg.line.tl + s.cfg.line.margin)) } }
  let b : State := { a with driver := { a.driver with
    state := .drain, phaseStart := some s.clock, upSecond := some s.clock
    deadline := some (addSec s.clock (e.drain + s.cfg.line.margin)) } }
  let c : State := { b with driver := { b.driver with
    state := .travel, goTo := e.dst, phaseStart := some s.clock
    deadline := some (addSec s.clock (travelTime s.cfg.line.tp e.src e.dst + s.cfg.line.margin)) } }
  have hraise : s.beginRaise e = a.endRaise e := if_pos h
  have hdrainEnd : b.endDrain e = c := by
    unfold State.endDrain
    rw [if_neg (by show ¬ s.standsAt e.src = false; rw [hsrc]; decide)]
    exact if_neg (by show ¬ s.standsAt e.dst = true; rw [hdst]; decide)
  have hraiseEnd : a.endRaise e = b.endDrain e := by
    unfold State.endRaise
    rw [if_neg (by show ¬ s.standsAt e.src = false; rw [hsrc]; decide),
      if_neg (by show ¬ (!s.pins.hook) = true; rw [hhook]; decide)]
    exact if_pos hdrain
  exact ⟨c.driver, hraise.trans (hraiseEnd.trans hdrainEnd), rfl, rfl, rfl, rfl⟩

/-- A due move with a free destination begins (R96, R104). -/
theorem State.startOrDefer_of_free (hp : (s.bath e.dst).presence = false) (hl : s.cond e.dst .levelLow = false) :
    s.startOrDefer e = s.beginMove e := by
  unfold State.startOrDefer
  rw [if_neg (by rw [hp]; decide), if_neg (by rw [hl]; decide)]

theorem State.valve_setValve_false (s : State) (n : Nat) : (s.setValve n false).valve n = false := by
  by_cases h : 1 ≤ n ∧ n ≤ s.manifold.valves.length
  · exact State.valve_setValve_same s false h.1 h.2
  · rcases Nat.eq_zero_or_pos n with rfl | hn
    · rfl
    · obtain ⟨m, rfl⟩ : ∃ m, n = m + 1 := ⟨n - 1, by omega⟩
      have hlen : (s.manifold.valves.set m false).length ≤ m := by rw [List.length_set]; omega
      show (s.manifold.valves.set m false).getD m false = false
      rw [List.getD_eq_getElem?_getD, List.getElem?_eq_none hlen]
      rfl

end

end Sys2Proof.Machine
end

section
/-! PROOFS. The first move of the schedule begins (6.3). -/

namespace Sys2Proof.Machine

section
variable {s t u w : State} {e : Entry} {rest : List Entry} {r : Rack} {inp : Inputs}

theorem State.liftedRack_of_onCarriage (h : r.phase = .onCarriage) (s : State) (e : Entry) :
    (s.liftedRack e r).phase = .onCarriage ∧ (s.liftedRack e r).station = 0 ∧ (s.liftedRack e r).heldRate = r.heldRate := by
  have hphase : ¬ (r.phase = .inBath ∧ (s.developing r).isSome = true) := by simp [h]
  unfold State.liftedRack
  rw [if_neg hphase]
  exact ⟨rfl, rfl, rfl⟩

/-- The record of R54 with the flag of R96, from the record as it was. -/
theorem State.startedRack_eq (s : State) (e : Entry) (rest : List Entry) (r : Rack) : s.startedRack e rest r =
    { r with phase := .onCarriage, station := 0, nextStart := (s.startedRack e rest r).nextStart
             lift := if r.phase = .inBath then some ⟨s.clock, r.station, r.step, r.immersion⟩ else r.lift
             heldRate := if r.phase = .inBath ∧ (s.developing r).isSome = true then r.rate else r.heldRate
             flags := { r.flags with lateMove := r.flags.lateMove || (e.firm && decide (e.start < s.clock)) } } := by
  unfold State.startedRack State.liftedRack
  split <;> rfl

/-- A move that meets the five conditions begins (R96). -/
theorem State.moveStart_begins (hs : s.schedule = e :: rest) (hd : s.driver.state = .waiting) (he : s.startable e = true)
    (hp : (s.bath e.dst).presence = false) (hl : s.cond e.dst .levelLow = false) :
    s.moveStart = (s.markExecuting.startNotices e).beginRaise e :=
  (State.moveStart_of_startable hs hd he).trans (State.startOrDefer_of_free hp hl)

/-- The lift of a move: the part with the start notice and the lift, its RAISE begun (R96). -/
theorem State.beginRaise_lift (hhoist : s.pins.hoistUp = false)
    (hw : w = { s with baths := w.baths, deliveries := w.deliveries, events := w.events, lost := w.lost }) (k n : Nat) (e : Entry) :
    ((w.dropPlan k).setValve n false).beginRaise e = { s with
      baths := w.baths, deliveries := w.deliveries, events := w.events, lost := w.lost
      plans := s.plans.filter (·.slot != k), manifold := (s.setValve n false).manifold
      driver := { s.driver with state := .raise, entry := some (e.slot, e.index), phaseStart := some s.clock, upSecond := none
                                deadline := some (addSec s.clock (s.cfg.line.tl + s.cfg.line.margin)) } } := by
  have hpins : w.pins = s.pins := by rw [hw]
  rw [State.beginRaise_of_low (by show w.pins.hoistUp = false; rw [hpins]; exact hhoist)]
  generalize w.baths = b, w.deliveries = d, w.events = v, w.lost = l at hw
  subst hw
  rfl

end

/-- Settles O12: the start notices give the rack's record and the lift's delivery; RAISE then begins, or has ended already. -/
theorem moveStartBeginsTheMove : Obligations.MoveStartBeginsTheMove := by
  unfold Obligations.MoveStartBeginsTheMove
  intro inp s e rest r hrun hs hd hr hbaths hsrc1 hsrcN hsrc16 hdue hat hcradle hmoves hpres hlow
  obtain ⟨m, hm⟩ : ∃ m, e.src = m + 1 := ⟨e.src - 1, by omega⟩
  have hstands : (s.latch inp).standsAt e.src = true := State.standsAt_iff.mpr ⟨hat, hsrc1, hsrcN⟩
  have hdown : (s.latch inp).isBath e.src = true → ((s.latch inp).pin e.src).cradleDown = true := by
    rw [hm] at hcradle ⊢
    exact hcradle
  have hru : (s.latch inp).rack e.slot = some r := (State.rack_congr rfl _).trans hr
  have hbegin : inp.hook = (s.latch inp).fromHook e →
      (s.latch inp).moveStart = ((s.latch inp).markExecuting.startNotices e).beginRaise e := fun hhook =>
    State.moveStart_begins (s := s.latch inp) hs hd
      (State.startable_of (s := s.latch inp) hdue hstands hhook hdown (State.movesAllowed_iff.mpr hmoves)) hpres hlow
  have hnotices := State.startNotices_eq (s := s.latch inp) (e := e) hs hru
  obtain ⟨hrack, hothers⟩ := State.noticed_rack hru rest
  refine ⟨fun hstation hphase hhook hhoist => ?_, fun hstation hphase hkind hdrain hne hhook hhoist => ?_⟩
  · have hstart := hbegin (by rw [State.fromHook_of hru]; simp [hphase, hhook])
    have hlift : ((s.latch inp).noticed e rest r).Replenishes e.slot e.src r.load
        (((s.latch inp).noticed e rest r).liftReplenish e.slot e.src r.load) :=
      State.replenishes_lift hsrc1 (by show e.src ≤ s.baths.length; omega) e.slot r.load
    have htag : ((s.latch inp).noticed e rest r).tagOf e.slot = r.tag := by
      unfold State.tagOf
      rw [hrack, State.startedRack_eq]
      rfl
    rw [if_pos hstation, hstation] at hnotices
    generalize ((s.latch inp).noticed e rest r).liftReplenish e.slot e.src r.load = w at hlift hnotices
    obtain ⟨hframe, hexh, hroom, hmerged, hdropped, hkept⟩ := hlift
    have hv := State.beginRaise_lift (s := (s.latch inp).noticed e rest r) hhoist hframe e.slot e.src e
    rw [hnotices] at hstart
    generalize State.beginRaise _ e = v at hstart hv
    refine ⟨_, exec_of_effect (f := State.moveStart) hrun rfl hstart, ?_⟩
    have hdrive := v.drive_eq
    obtain ⟨hraise, hlower, -⟩ := v.drive_outputsFollow (by rw [v.drive_run, hv]; exact hrun)
    have hdriver : v.drive.driver = v.driver := v.drive_driver
    generalize v.drive = t at hdrive hraise hlower hdriver
    have hslots : t.slots = ((s.latch inp).noticed e rest r).slots := by rw [hdrive, hv]
    have hbath : t.bath e.src = w.bath e.src := by rw [hdrive, hv]; rfl
    have hdeliveries : t.deliveries = w.deliveries := by rw [hdrive, hv]
    have hraised : t.driver.state = .raise := by rw [hdriver, hv]
    refine ⟨by rw [hdrive, hv]; rfl, by rw [hdriver, hv]; rfl, hraise.mpr hraised, ?_, ?_, ?_, ?_, ?_, ?_, ?_, ?_, ?_, ?_⟩
    · exact Bool.eq_false_iff.mpr fun h => absurd (hraised.symm.trans (hlower.mp h)) (by decide)
    · exact ⟨_, (State.rack_congr hslots _).trans hrack, State.startedRack_eq _ e rest r, State.startedRack_next _ e r⟩
    · exact fun j hj => (State.rack_congr hslots j).trans (hothers j hj)
    · rw [hbath]
      exact hexh
    · rw [hdrive, hv]
      exact fun p hp => by simpa using (List.mem_filter.mp hp).2
    · rw [hdrive, hv]
      exact State.valve_setValve_false _ _
    · rw [hdeliveries, hbath]
      exact hroom
    · rw [hdeliveries, hbath]
      refine fun hb hz hfull => ⟨hmerged hb hz hfull, fun hall => ?_⟩
      obtain ⟨hsame, hposted⟩ := hdropped hb hz hfull hall
      rw [htag] at hposted
      refine ⟨hsame, ?_⟩
      unfold State.posted
      rw [show t.events = w.events by rw [hdrive, hv]]
      exact hposted
    · rw [hdeliveries]
      exact hkept
    · rw [hdrive, hv]
      rfl
  · have hstart := hbegin (by rw [State.fromHook_of hru]; simp [hkind, hphase, hhook])
    rw [if_neg (by omega : ¬ r.station = e.src), hstation] at hnotices
    have hnoticed : (((s.latch inp).noticed e rest r).dropPlan e.slot).setValve 0 false =
      ((s.latch inp).noticed e rest r).dropPlan e.slot := rfl
    have hdst : (((s.latch inp).noticed e rest r).dropPlan e.slot).standsAt e.dst = false :=
      Bool.eq_false_iff.mpr fun h => hne ((State.standsAt_iff.mp h).1.symm.trans hat)
    obtain ⟨d, hv, htravel, hgo, hup, hentry⟩ := State.beginRaise_of_high (e := e)
      (s := ((s.latch inp).noticed e rest r).dropPlan e.slot) hhoist hstands hdst hhook hdrain
    rw [hnotices, hnoticed] at hstart
    generalize State.beginRaise _ e = v at hstart hv
    refine ⟨_, exec_of_effect (f := State.moveStart) hrun rfl hstart, ?_⟩
    have hdrive := v.drive_eq
    obtain ⟨hraise, hlower, -⟩ := v.drive_outputsFollow (by rw [v.drive_run, hv]; exact hrun)
    have hdriver : v.drive.driver = d := by rw [v.drive_driver, hv]
    generalize v.drive = t at hdrive hraise hlower hdriver
    have hslots : t.slots = ((s.latch inp).noticed e rest r).slots := by rw [hdrive, hv]; rfl
    have htravelling : t.driver.state = .travel := by rw [hdriver]; exact htravel
    obtain ⟨hcarried, hoff, hheld⟩ := State.liftedRack_of_onCarriage hphase (s.latch inp) e
    refine ⟨by rw [hdrive, hv]; rfl, htravelling, by rw [hdriver]; exact hgo, by rw [hdriver]; exact hup,
      by rw [hdriver]; exact hentry, ?_, ?_, ⟨_, (State.rack_congr hslots _).trans hrack, hcarried, hoff, hheld⟩,
      fun j hj => (State.rack_congr hslots j).trans (hothers j hj), by rw [hdrive, hv]; rfl⟩
    · exact Bool.eq_false_iff.mpr fun h => absurd (htravelling.symm.trans (hraise.mp h)) (by decide)
    · exact Bool.eq_false_iff.mpr fun h => absurd (htravelling.symm.trans (hlower.mp h)) (by decide)

end Sys2Proof.Machine
end

section
/-! PROOFS. A start notice after the Integrator's work, and moves without a duration: the premise on the plans admits an
entry whose span is empty. Two such entries of one rack, at one station and one second, are predecessor of each other, so
that R76 weighs neither against the present second, and a re-booking of their rack (R102) brings them before the move that
is due. The plans the part holds have no such entry (`State.spansApart`); the statement asks of them order and spans that
hold their moves, no more. -/

namespace Sys2Proof.Machine.EmptyMoves

/-- The development of both racks. -/
def develop : Sys2Proof.Machine.Step := ⟨1, .develop, 10, none, 360, 0, 5, 0, 0⟩

/-- A line of six stations: 2 and 3 DEVELOP, 4 and 5 BATH. -/
def settings : Settings :=
  let bath (role : Role) (group : Nat) : StationCfg := { StationCfg.factory with role := role, group := group }
  { Settings.factory with
    line := { LineCfg.factory with count := 6, tp := 20 }
    stations := [bath .load 0, bath .develop 1, bath .develop 1, bath .bath 2, bath .bath 3, bath .unload 0] ++
      List.replicate 10 .factory
    recipes := [develop] :: List.replicate 7 [] }

/-- A rack in development at a station, with a dose still to come. -/
def rackAt (station target : Nat) : Rack :=
  { tag := station, recipe := some 0, scale := 100, load := 1, loadStation := 1, phase := .inBath, step := 1
    station := station, immersion := some 900, dose := 0, target := target, rate := 1, heldRate := 0, predicted := none
    deviations := [], nextStart := none, flags := {}, pending := .none, admitted := 800, entered := some 900
    unload := none, ended := none, outcome := .none, slideMark := 0, overMark := 0, lift := none }

/-- The firm lift of slot 0 that is due in second 1001. -/
def dueLift : Entry := mkEntry settings.line 0 1 2 4 .transfer true 1001 10

/-- The firm lift of slot 1, far beyond its prediction. -/
def farLift : Entry := mkEntry settings.line 1 1 3 4 .transfer true 11000 10

/-- A move of slot 1 that takes no time, its span empty. -/
def emptyMove : Entry := { mkEntry settings.line 1 2 5 5 .transfer false 1050 0 with duration := 0, spanEnd := 1050 }

/-- The rest of the schedule: the empty move twice, then the far lift. -/
def laterMoves : List Entry := [emptyMove, emptyMove, farLift]

/-- The pins: the trolley over station 2, both racks shown, every cradle down. -/
def pins : Inputs :=
  { quietInputs with
    stations := List.replicate 16 ⟨true, 200, false, false, false, true⟩
    atStation := 2, hoistDown := true, gasOk := true }

/-- The part in second 1000, the Driver WAITING over station 2 for the due lift. -/
def part : State :=
  { State.reset with
    run := .running, clock := 1000, pins := pins, cfg := settings, line := { Line.reset with state := .ready }
    slots := some (rackAt 2 1000) :: some (rackAt 3 100) :: List.replicate 22 none
    schedule := dueLift :: laterMoves
    driver := { Driver.reset with state := .waiting, position := 2, goTo := 2, entry := some (0, 1) } }

/-- The Integrator's work, then the carriage's step. -/
def second : Instr := .lineSecond [.develop, .carriage] pins

/-- The phase of the rack of slot 0 after a command. -/
def outcome : Host.Outcome State Fault Refusal → Option Phase
  | .next t => (t.rack 0).map (·.phase)
  | .fault _ | .refused _ => none

/-- The re-booking of slot 1 puts its empty moves before the due lift. -/
theorem empty_moves_go_first :
    ({ part with clock := 1001, pins := pins, accrualDue := allSlots }.developAll.schedule.map fun m : Entry => (m.slot, m.start)) =
      [(1, 0), (1, 0), (0, 1001), (1, 1076)] := by decide +kernel

/-- The due lift does not begin. -/
theorem due_lift_stays : outcome (exec second part) = some .inBath := by decide +kernel

/-- The schedule of the part is in order and its spans hold their moves, as the statement asks. -/
theorem plans_hold_their_moves : part.plansOrdered ∧
    (∀ m ∈ part.schedule, m.spanStart ≤ m.start ∧ m.start + m.duration ≤ m.spanEnd) ∧
    ∀ m ∈ laterMoves, m.slot = 0 → m.executing = false → m.firm = true → m.index ≠ (rackAt 2 1000).step := by
  unfold State.plansOrdered
  decide +kernel

end Sys2Proof.Machine.EmptyMoves

namespace Sys2Proof.Machine

open EmptyMoves in
/-- Refutes O10: where the Integrator's work precedes the carriage's step, a re-booking of another rack whose entries take
no time can put them before the move that is due, which then does not begin; the rack is still IN_BATH. The premise on the
plans lacks what `State.spansApart` says of a duration. -/
theorem not_doseAccruesOncePerSecond : ¬ Obligations.DoseAccruesOncePerSecond := by
  unfold Obligations.DoseAccruesOncePerSecond
  intro h
  obtain ⟨-, -, hstart, -⟩ := h.1 [.develop, .carriage] pins part 0 (rackAt 2 1000) develop rfl (by decide)
    (by decide +kernel) (by decide +kernel) rfl
  obtain ⟨t, q, hexec, hq, hphase, -⟩ := hstart dueLift laterMoves [] (by decide) (.inr rfl) rfl rfl rfl rfl rfl
    (by decide +kernel) rfl (by decide) (by decide) (by decide +kernel) (by decide +kernel) rfl rfl (.inl rfl)
    (by decide +kernel) (by decide +kernel) (.inr plans_hold_their_moves)
  have hstays := due_lift_stays
  rw [second, hexec] at hstays
  simp [outcome, hq, hphase] at hstays

end Sys2Proof.Machine
end
